-- ==== Sys2Proof/Word.lean ====
section
/-! DEFINITION. The word types: link bytes and the readings of the two counters of R1. -/

namespace Sys2Proof

/-- A byte of a link frame (R153). -/
abbrev Byte := BitVec 8

/-- A reading of the millisecond clock (R1): 32 bits, wrapping. -/
abbrev Ms := BitVec 32

/-- A reading of the microsecond counter (R1): 32 bits, wrapping. -/
abbrev Us := BitVec 32

/-- A 16-bit check value or count sent on the links (R73, R153). -/
abbrev Word16 := BitVec 16

end Sys2Proof
end

