-- ==== Sys2Proof/Syntax.lean ====
section
/-! DEFINITION. The commands of the 2F64: one constructor of `Instr` for each row of
`spec/opcode_table.json`, in the table's order, with the operands each carries. -/

namespace Sys2Proof

/-- The two faces of the island (0.1, 0.5). -/
inductive Face where
  | f0
  | f1
  deriving DecidableEq, Repr

/-- The two serial links (0.3). -/
inductive Link where
  | sl
  | il
  deriving DecidableEq, Repr

/-- A door unit position of a face, 0 to 31 (R5). -/
abbrev DoorIx := Fin 32

/-- A power group of a face, 0 to 3 (R29). -/
abbrev GroupIx := Fin 4

/-- The eight debounced inputs of a door unit position (section 1.1). -/
structure DoorInputs where
  leafClosed : Bool
  leafOpen : Bool
  lockEngaged : Bool
  mrh : Bool
  edge : Bool
  dwa : Bool
  dwb : Bool
  gap : Bool
  deriving DecidableEq, Repr

/-- The new debounced values that an input change brings to the Door Unit Controller (R4). -/
structure LeafSignals where
  leafClosed : Bool
  leafOpen : Bool
  lockEngaged : Bool
  mrh : Bool
  deriving DecidableEq, Repr

/-- The new debounced values that an input change brings to the Passenger Sensing Unit (R4, R41). -/
structure SenseSignals where
  edge : Bool
  dwa : Bool
  dwb : Bool
  gap : Bool
  deriving DecidableEq, Repr

/-- An accepted position of the platform keyswitch (R127). -/
inductive KeyPos where
  | auto
  | localOpen
  | localClose
  deriving DecidableEq, Repr

/-- What the inputs of one face show when the controller starts: the beams (R78), the keyswitch, which
may show no single position yet (R127), and EOI (R136). -/
structure FaceReadings where
  ab1 : Bool
  ab2 : Bool
  sw : Vector Bool 25
  key : Option KeyPos
  eoi : Bool
  deriving DecidableEq, Repr

/-- The readings taken without filtering at power-on and at a RESET pin pulse (R72, R78, R127, R136). -/
structure StartReadings where
  f0 : FaceReadings
  f1 : FaceReadings
  maint : Bool
  deriving DecidableEq, Repr

/-- A link frame less its start byte and CRC (R153, R166). -/
structure Frame where
  kind : Byte
  tag : Byte
  payload : List Byte
  deriving DecidableEq, Repr

/-- Why a frame under collection is given up (R154). A gap carries the byte that ended it. -/
inductive AbandonCause where
  | byteGap (next : Byte)
  | badLength
  | noStopBit
  | badCrc
  deriving DecidableEq, Repr

/-- The commands. An event carries what its row names. A request carries the link it arrives on, its
TAG and its payload (R166, R168). -/
inductive Instr where
  | powerOn (readings : StartReadings)
  | resetPin (readings : StartReadings)
  | firstCompleteScan (scan : Vector DoorInputs 64)
  | doorInputChange (f : Face) (j : DoorIx) (v : LeafSignals)
  | sensingInputChange (f : Face) (j : DoorIx) (v : SenseSignals)
  | unlatchSettleExpiry (f : Face) (j : DoorIx)
  | recloseDelayExpiry (f : Face) (j : DoorIx)
  | doorTimeoutExpiry (f : Face) (j : DoorIx)
  | spacingHoldExpiry (f : Face) (g : GroupIx)
  | historySlotEmptied (f : Face) (g : GroupIx) (slot : Fin 4)
  | quietTimerExpiry (f : Face)
  | deferralTimerExpiry (f : Face) (j : DoorIx)
  | clearingTimerExpiry (f : Face) (j : DoorIx)
  | ab1Change (f : Face) (interrupted : Bool) (at_ : Us)
  | ab2Change (f : Face) (interrupted : Bool) (at_ : Us)
  | swBeamChange (f : Face) (beam : Fin 25) (interrupted : Bool) (at_ : Us)
  | approachTimerExpiry (f : Face)
  | settleTimerExpiry (f : Face)
  | postingTimerExpiry (f : Face)
  | keyswitchChange (f : Face) (pos : KeyPos)
  | eoiChange (f : Face) (active : Bool)
  | maintChange (active : Bool)
  | commitEnd
  | ilSilenceTimerExpiry
  | validFrameReceived (l : Link) (frame : Frame)
  | frameAbandoned (l : Link) (cause : AbandonCause)
  | transmitComplete (l : Link)
  | flushTimerExpiry (l : Link)
  | unknownKind (l : Link) (kind tag : Byte) (payload : List Byte)
  | nonRequestFrame (l : Link) (kind tag : Byte) (payload : List Byte)
  | arrivalNotice (l : Link) (tag : Byte) (payload : List Byte)
  | doorRelease (l : Link) (tag : Byte) (payload : List Byte)
  | releaseWithdraw (l : Link) (tag : Byte) (payload : List Byte)
  | trainAtRest (l : Link) (tag : Byte) (payload : List Byte)
  | departed (l : Link) (tag : Byte) (payload : List Byte)
  | possessionGrant (l : Link) (tag : Byte) (payload : List Byte)
  | possessionRevoke (l : Link) (tag : Byte) (payload : List Byte)
  | identify (l : Link) (tag : Byte) (payload : List Byte)
  | getStatusFace (l : Link) (tag : Byte) (payload : List Byte)
  | getStatusDoorUnit (l : Link) (tag : Byte) (payload : List Byte)
  | getStatusBerth (l : Link) (tag : Byte) (payload : List Byte)
  | writeGeometry (l : Link) (tag : Byte) (payload : List Byte)
  | writeTolerance (l : Link) (tag : Byte) (payload : List Byte)
  | writeParameters (l : Link) (tag : Byte) (payload : List Byte)
  | writeDeviceParameters (l : Link) (tag : Byte) (payload : List Byte)
  | setReporting (l : Link) (tag : Byte) (payload : List Byte)
  | writeCarProfile (l : Link) (tag : Byte) (payload : List Byte)
  | writeUnitProfile (l : Link) (tag : Byte) (payload : List Byte)
  | writeDescriptor (l : Link) (tag : Byte) (payload : List Byte)
  | lockGeometry (l : Link) (tag : Byte) (payload : List Byte)
  | unlockGeometry (l : Link) (tag : Byte) (payload : List Byte)
  | commit (l : Link) (tag : Byte) (payload : List Byte)
  | readGeometry (l : Link) (tag : Byte) (payload : List Byte)
  | readParameters (l : Link) (tag : Byte) (payload : List Byte)
  | readDeviceParameters (l : Link) (tag : Byte) (payload : List Byte)
  | readCarProfile (l : Link) (tag : Byte) (payload : List Byte)
  | readUnitProfile (l : Link) (tag : Byte) (payload : List Byte)
  | readIsolation (l : Link) (tag : Byte) (payload : List Byte)
  | readDescriptor (l : Link) (tag : Byte) (payload : List Byte)
  | setMode (l : Link) (tag : Byte) (payload : List Byte)
  | doorCommandOpen (l : Link) (tag : Byte) (payload : List Byte)
  | doorCommandClose (l : Link) (tag : Byte) (payload : List Byte)
  | isolate (l : Link) (tag : Byte) (payload : List Byte)
  | restore (l : Link) (tag : Byte) (payload : List Byte)
  | doorReset (l : Link) (tag : Byte) (payload : List Byte)
  | faceReset (l : Link) (tag : Byte) (payload : List Byte)
  | berthAck (l : Link) (tag : Byte) (payload : List Byte)
  | ackGap (l : Link) (tag : Byte) (payload : List Byte)
  | evacuate (l : Link) (tag : Byte) (payload : List Byte)
  | emergencyClear (l : Link) (tag : Byte) (payload : List Byte)
  | startProgram (l : Link) (tag : Byte) (payload : List Byte)
  | haltProgram (l : Link) (tag : Byte) (payload : List Byte)
  | resumeProgram (l : Link) (tag : Byte) (payload : List Byte)
  | stepProgram (l : Link) (tag : Byte) (payload : List Byte)
  | clearProgramErrors (l : Link) (tag : Byte) (payload : List Byte)
  | armProgram (l : Link) (tag : Byte) (payload : List Byte)
  | disarmProgram (l : Link) (tag : Byte) (payload : List Byte)
  | readCounts (l : Link) (tag : Byte) (payload : List Byte)
  | readHistory (l : Link) (tag : Byte) (payload : List Byte)
  | limitTimerExpiry (f : Face)
  | holdTimerExpiry (f : Face)
  | lossOfPower
  | byteReceived (l : Link) (b : Byte)
  deriving DecidableEq, Repr

end Sys2Proof
end

