-- ==== Sys2Proof/Decode.lean ====
section
/-! DEFINITION. From link frames to commands and back, by the KIND codes of R168. No row of
`spec/opcode_table.json` gives bits, so `decodeTableWord` answers none (log 32). -/

namespace Sys2Proof

/-- The command that a word spells by the table's bits: no row of the table gives any (log 32). -/
def decodeTableWord (_nbits _w : Nat) : Option Instr := none

/-- The command row of a frame taken from a receive queue: by its KIND (R168), and for GET STATUS and
DOOR COMMAND also by the scope (R170) and the action (R126) that the payload names. A KIND of 0x80 or
above is no request (R155), and a KIND below it that names no request is unknown (R158). -/
def Instr.ofFrame (l : Link) (x : Frame) : Instr :=
  let t := x.tag
  let p := x.payload
  match x.kind.toNat with
  | 0x01 => .arrivalNotice l t p
  | 0x02 => .doorRelease l t p
  | 0x03 => .releaseWithdraw l t p
  | 0x04 => .trainAtRest l t p
  | 0x05 => .departed l t p
  | 0x06 => .possessionGrant l t p
  | 0x07 => .possessionRevoke l t p
  | 0x08 => .identify l t p
  | 0x09 =>
    if p.getD 0 0 = 1#8 then .getStatusDoorUnit l t p
    else if p.getD 0 0 = 2#8 then .getStatusBerth l t p
    else .getStatusFace l t p
  | 0x10 => .writeGeometry l t p
  | 0x11 => .writeTolerance l t p
  | 0x12 => .writeParameters l t p
  | 0x13 => .writeDeviceParameters l t p
  | 0x14 => .setReporting l t p
  | 0x15 => .writeCarProfile l t p
  | 0x16 => .writeUnitProfile l t p
  | 0x17 => .writeDescriptor l t p
  | 0x18 => .lockGeometry l t p
  | 0x19 => .unlockGeometry l t p
  | 0x1A => .commit l t p
  | 0x20 => .readGeometry l t p
  | 0x21 => .readParameters l t p
  | 0x22 => .readDeviceParameters l t p
  | 0x23 => .readCarProfile l t p
  | 0x24 => .readUnitProfile l t p
  | 0x25 => .readIsolation l t p
  | 0x26 => .readDescriptor l t p
  | 0x30 => .setMode l t p
  | 0x31 => if p.getD 1 0 = 1#8 then .doorCommandClose l t p else .doorCommandOpen l t p
  | 0x32 => .isolate l t p
  | 0x33 => .restore l t p
  | 0x34 => .doorReset l t p
  | 0x35 => .ackGap l t p
  | 0x36 => .faceReset l t p
  | 0x37 => .berthAck l t p
  | 0x38 => .evacuate l t p
  | 0x39 => .emergencyClear l t p
  | 0x40 => .startProgram l t p
  | 0x41 => .haltProgram l t p
  | 0x42 => .resumeProgram l t p
  | 0x43 => .stepProgram l t p
  | 0x44 => .clearProgramErrors l t p
  | 0x45 => .armProgram l t p
  | 0x46 => .disarmProgram l t p
  | 0x48 => .readCounts l t p
  | 0x49 => .readHistory l t p
  | k => if 0x80 ≤ k then .nonRequestFrame l x.kind t p else .unknownKind l x.kind t p

/-- The link and the frame of a command that is a frame taken from a receive queue (R166, R168); none
for an event. -/
def Instr.frame? : Instr → Option (Link × Frame)
  | .unknownKind l k t p => some (l, ⟨k, t, p⟩)
  | .nonRequestFrame l k t p => some (l, ⟨k, t, p⟩)
  | .arrivalNotice l t p => some (l, ⟨0x01#8, t, p⟩)
  | .doorRelease l t p => some (l, ⟨0x02#8, t, p⟩)
  | .releaseWithdraw l t p => some (l, ⟨0x03#8, t, p⟩)
  | .trainAtRest l t p => some (l, ⟨0x04#8, t, p⟩)
  | .departed l t p => some (l, ⟨0x05#8, t, p⟩)
  | .possessionGrant l t p => some (l, ⟨0x06#8, t, p⟩)
  | .possessionRevoke l t p => some (l, ⟨0x07#8, t, p⟩)
  | .identify l t p => some (l, ⟨0x08#8, t, p⟩)
  | .getStatusFace l t p => some (l, ⟨0x09#8, t, p⟩)
  | .getStatusDoorUnit l t p => some (l, ⟨0x09#8, t, p⟩)
  | .getStatusBerth l t p => some (l, ⟨0x09#8, t, p⟩)
  | .writeGeometry l t p => some (l, ⟨0x10#8, t, p⟩)
  | .writeTolerance l t p => some (l, ⟨0x11#8, t, p⟩)
  | .writeParameters l t p => some (l, ⟨0x12#8, t, p⟩)
  | .writeDeviceParameters l t p => some (l, ⟨0x13#8, t, p⟩)
  | .setReporting l t p => some (l, ⟨0x14#8, t, p⟩)
  | .writeCarProfile l t p => some (l, ⟨0x15#8, t, p⟩)
  | .writeUnitProfile l t p => some (l, ⟨0x16#8, t, p⟩)
  | .writeDescriptor l t p => some (l, ⟨0x17#8, t, p⟩)
  | .lockGeometry l t p => some (l, ⟨0x18#8, t, p⟩)
  | .unlockGeometry l t p => some (l, ⟨0x19#8, t, p⟩)
  | .commit l t p => some (l, ⟨0x1A#8, t, p⟩)
  | .readGeometry l t p => some (l, ⟨0x20#8, t, p⟩)
  | .readParameters l t p => some (l, ⟨0x21#8, t, p⟩)
  | .readDeviceParameters l t p => some (l, ⟨0x22#8, t, p⟩)
  | .readCarProfile l t p => some (l, ⟨0x23#8, t, p⟩)
  | .readUnitProfile l t p => some (l, ⟨0x24#8, t, p⟩)
  | .readIsolation l t p => some (l, ⟨0x25#8, t, p⟩)
  | .readDescriptor l t p => some (l, ⟨0x26#8, t, p⟩)
  | .setMode l t p => some (l, ⟨0x30#8, t, p⟩)
  | .doorCommandOpen l t p => some (l, ⟨0x31#8, t, p⟩)
  | .doorCommandClose l t p => some (l, ⟨0x31#8, t, p⟩)
  | .isolate l t p => some (l, ⟨0x32#8, t, p⟩)
  | .restore l t p => some (l, ⟨0x33#8, t, p⟩)
  | .doorReset l t p => some (l, ⟨0x34#8, t, p⟩)
  | .ackGap l t p => some (l, ⟨0x35#8, t, p⟩)
  | .faceReset l t p => some (l, ⟨0x36#8, t, p⟩)
  | .berthAck l t p => some (l, ⟨0x37#8, t, p⟩)
  | .evacuate l t p => some (l, ⟨0x38#8, t, p⟩)
  | .emergencyClear l t p => some (l, ⟨0x39#8, t, p⟩)
  | .startProgram l t p => some (l, ⟨0x40#8, t, p⟩)
  | .haltProgram l t p => some (l, ⟨0x41#8, t, p⟩)
  | .resumeProgram l t p => some (l, ⟨0x42#8, t, p⟩)
  | .stepProgram l t p => some (l, ⟨0x43#8, t, p⟩)
  | .clearProgramErrors l t p => some (l, ⟨0x44#8, t, p⟩)
  | .armProgram l t p => some (l, ⟨0x45#8, t, p⟩)
  | .disarmProgram l t p => some (l, ⟨0x46#8, t, p⟩)
  | .readCounts l t p => some (l, ⟨0x48#8, t, p⟩)
  | .readHistory l t p => some (l, ⟨0x49#8, t, p⟩)
  | .powerOn _ | .resetPin _ | .firstCompleteScan _ => none
  | .doorInputChange _ _ _ | .sensingInputChange _ _ _ => none
  | .unlatchSettleExpiry _ _ | .recloseDelayExpiry _ _ | .doorTimeoutExpiry _ _ => none
  | .spacingHoldExpiry _ _ | .historySlotEmptied _ _ _ => none
  | .quietTimerExpiry _ | .deferralTimerExpiry _ _ | .clearingTimerExpiry _ _ => none
  | .ab1Change _ _ _ | .ab2Change _ _ _ | .swBeamChange _ _ _ _ => none
  | .approachTimerExpiry _ | .settleTimerExpiry _ | .postingTimerExpiry _ => none
  | .keyswitchChange _ _ | .eoiChange _ _ | .maintChange _ | .commitEnd => none
  | .ilSilenceTimerExpiry | .validFrameReceived _ _ | .frameAbandoned _ _ => none
  | .transmitComplete _ | .flushTimerExpiry _ => none
  | .limitTimerExpiry _ | .holdTimerExpiry _ | .lossOfPower | .byteReceived _ _ => none

end Sys2Proof
end

