-- ==== Sys2Proof/Config.lean ====
section
/-! DEFINITION. What the spec leaves open: free values, constants that nothing in Lean can evaluate. -/

namespace Sys2Proof.Config

/-- A byte that the spec requires in a reply and gives no value for: the mode and generation that a
SET MODE reply carries when the request names no face (R124, R168). Applied to a counter of State,
so that each use is a fresh value. FREE VALUE, log 15. -/
opaque freeByte : Nat → Byte

end Sys2Proof.Config
end

