-- ==== Sys2Proof/Machine/State.lean ====
section
/-! DEFINITION. The state of the 2F64 as plain data, every piece the spec names (INVENTORY.md, '## State'),
and the state after reset. -/

namespace Sys2Proof.Machine

/-- Why a command stops the machine. The spec gives the controller no machine fault: a door unit's FAULT
(R15) and a program's errors (R147) are state, so no meaning answers with a fault. Safe: a stop here
could only make a true claim unprovable. -/
inductive Fault where
  /-- Raised by no command. The spec names no stop of the controller. Safe. -/
  | noSuchStop
  deriving DecidableEq, Repr

/-- Why a command has no meaning. -/
inductive Refusal where
  /-- Raised by an arm of `exec` whose command has no meaning yet; no arm does. Safe. -/
  | notModelled (mnemonic : String)
  deriving DecidableEq, Repr

/-! ### Codes and states -/

/-- The thirteen door unit states (section 1.3). -/
inductive DoorState where
  | locked
  | unlatching
  | unlatched
  | opening
  | standOpen
  | closeWait
  | closing
  | reversing
  | recloseHold
  | obstructed
  | locking
  | released
  | fault
  deriving DecidableEq, Repr

/-- Fault causes of a door unit (R7). -/
inductive FaultCause where
  | lockWithdrawTimeout
  | openTimeout
  | closeTimeout
  | lockEngageTimeout
  | lockLost
  | positionUnknown
  | sensorConflict
  deriving DecidableEq, Repr

/-- NORMAL or EMERGENCY: the request class of a door unit (R7) and the class of a queue entry (R30). -/
inductive ReqClass where
  | normal
  | emergency
  deriving DecidableEq, Repr

/-- The requests of section 1.4. -/
inductive DoorRequest where
  | open_
  | close
  | emergencyOpen
  deriving DecidableEq, Repr

/-- LATCH drive (section 1.1). -/
inductive LatchDrive where
  | off
  | withdraw
  | engage
  deriving DecidableEq, Repr

/-- LEAF drive (section 1.1). -/
inductive LeafDrive where
  | off
  | open_
  | close
  deriving DecidableEq, Repr

/-- Motion of a Start Queue entry (R30). -/
inductive Motion where
  | open_
  | close
  deriving DecidableEq, Repr

/-- Tracker states (section 3.2). -/
inductive Tracker where
  | clear
  | a
  | b
  | abFromA
  | abFromB
  | tailFromA
  | tailFromB
  deriving DecidableEq, Repr

/-- Gap zone states (section 3.6). -/
inductive Zone where
  | idle
  | watch
  | occupied
  | clearing
  | latched
  deriving DecidableEq, Repr

/-- How an episode ended (R56). -/
inductive EpisodeOutcome where
  | cleared
  | acknowledged
  | disarmed
  deriving DecidableEq, Repr

/-- Berth states (section 5.3). -/
inductive BerthState where
  | empty
  | notified
  | approaching
  | arriving
  | settling
  | stopped
  | departing
  | movedFault
  deriving DecidableEq, Repr

/-- Alignment grades (R95). -/
inductive Grade where
  | full
  | partial_
  | misaligned
  | outOfWindow
  | measureInvalid
  | noConsist
  deriving DecidableEq, Repr

/-- Outcome of one entry of the Match Table (R102, R103). -/
inductive MatchOutcome where
  | matched
  | noDoorUnit
  | unavailable
  | conflict
  | withheld
  deriving DecidableEq, Repr

/-- Modes of a face (R123). -/
inductive Mode where
  | automatic
  | supervised
  | local_
  | maintenance
  deriving DecidableEq, Repr

/-- Actions of a descriptor (R137). -/
inductive Action where
  | open_
  | close
  | wait
  | check
  | mark
  deriving DecidableEq, Repr

/-- Kinds of selection (R126, R137). -/
inductive SelKind where
  | served
  | sections
  | explicit
  deriving DecidableEq, Repr

/-- Triggers of a descriptor (R141). -/
inductive Trigger where
  | immediate
  | onStopped
  | onRelease
  | onQuiet
  | onClp
  deriving DecidableEq, Repr

/-- Engine states (R139). -/
inductive EngineState where
  | idle
  | waiting
  | acting
  | holding
  | halted
  deriving DecidableEq, Repr

/-- Phases of the engine (R139). -/
inductive Phase where
  | wait
  | act
  | hold
  deriving DecidableEq, Repr

/-- Program error flags (R139), in the order of R167. -/
inductive ProgError where
  | doorFault
  | obstructed
  | refused
  | checkFailed
  | postedDiscarded
  | timeout
  | emptyDescriptor
  | emergency
  | releaseWithdrawn
  | moved
  | modeChanged
  deriving DecidableEq, Repr

/-- Orientation of a unit in a consist (R79). -/
inductive Orientation where
  | forward
  | reversed
  deriving DecidableEq, Repr

/-- Link speeds (R69). -/
inductive LinkSpeed where
  | baud115200
  | baud460800
  deriving DecidableEq, Repr

/-- The last reset cause (R75). -/
inductive ResetCause where
  | power
  | pin
  deriving DecidableEq, Repr

/-- Report classes (section 10.6), in the order of R167. -/
inductive ReportClass where
  | safety
  | berth
  | door
  | sensing
  | program
  | system
  deriving DecidableEq, Repr

/-- The thirteen report kinds, in the order of R169. -/
inductive ReportKind where
  | clpChange
  | berthState
  | alignment
  | overrunPredicted
  | slowApproach
  | doorEvent
  | gapEvent
  | emergency
  | modeChange
  | programEvent
  | postedDiscarded
  | commitDone
  | linkState
  deriving DecidableEq, Repr

/-- Result codes of replies (R166). -/
inductive ResultCode where
  | accept
  | adjusted
  | unknownKind
  | badLength
  | badField
  | wrongLink
  | wrongMode
  | faceBusy
  | commitBusy
  | notLocked
  | served
  | isolated
  | notAvailable
  | emergencyActive
  | eoiActive
  | noTrain
  | berthState
  | notReady
  | noRelease
  | modeMismatch
  | keyswitch
  | programBusy
  | notWaiting
  | inUse
  | geometryLocked
  | geometryInvalid
  | undefinedProfile
  | consistTooLarge
  | badDescriptor
  | notFaulted
  | notLatched
  | notPermitted
  deriving DecidableEq, Repr

/-! ### Timers -/

/-- A running timer: the millisecond reading it started from and its duration (R1, R68). -/
structure Timer where
  start : Ms
  dur : Nat
  deriving DecidableEq, Repr

/-! ### The working copy of the configuration (chapter 4) -/

/-- One door unit record of the Face Geometry (R64). -/
structure GeoDoor where
  centre : Nat
  group : GroupIx
  section_ : Fin 8
  deriving DecidableEq, Repr

/-- Face Geometry (R64). Records at positions `n` and above are not read. -/
structure Geometry where
  n : Nat
  doors : Vector GeoDoor 32
  pitch : Nat
  ab1 : Int
  ab2 : Int
  sectionMask : BitVec 8
  tolerance : Nat
  deriving DecidableEq, Repr

/-- Face Parameter Set (R67), in the order of its table. -/
structure Params where
  lockWithdrawTimeout : Nat
  unlatchSettle : Nat
  openTimeout : Nat
  closeTimeout : Nat
  lockEngageTimeout : Nat
  recloseDelay : Nat
  recloseMax : Nat
  startSpacing : Nat
  startWindow : Nat
  doorwayDeferLimit : Nat
  quietTime : Nat
  gapClearTime : Nat
  gapLatch : Bool
  stopSettle : Nat
  approachLimit : Nat
  brakingRate : Nat
  partialLimit : Nat
  predictionLimit : Nat
  postedDelay : Nat
  startSupervised : Bool
  haltOnError : Bool
  deriving DecidableEq, Repr

/-- Car profile (R70). -/
structure CarProfile where
  length : Nat
  offsets : List Nat
  deriving DecidableEq, Repr

/-- Unit profile (R71). -/
structure UnitProfile where
  cars : List (Fin 24)
  allowance : Nat
  deriving DecidableEq, Repr

/-- A selection as carried: its kind and its mask, read by the kind (R126, R137, R168). -/
structure Selection where
  kind : SelKind
  mask : BitVec 32
  deriving DecidableEq, Repr

/-- Descriptor (R137). -/
structure Descriptor where
  action : Action
  selection : Selection
  trigger : Trigger
  hold : Nat
  limit : Nat
  mark : Byte
  chain : Bool
  next : Fin 96
  deriving DecidableEq, Repr

/-- Reporting settings of a link (R69): class mask, trigger level code and flush time code (R167). -/
structure Reporting where
  classMask : BitVec 8
  trigger : Fin 4
  flush : Fin 6
  deriving DecidableEq, Repr

/-- The working copy (R62). -/
structure WorkingCopy where
  geo0 : Geometry
  geo1 : Geometry
  par0 : Params
  par1 : Params
  iso0 : Vector Bool 32
  iso1 : Vector Bool 32
  ilSilenceLimit : Nat
  speedSl : LinkSpeed
  speedIl : LinkSpeed
  repSl : Reporting
  repIl : Reporting
  cars : Vector (Option CarProfile) 24
  units : Vector (Option UnitProfile) 16
  descriptors : Vector (Option Descriptor) 96
  geometryLock : Bool
  deriving DecidableEq, Repr

/-- Non-volatile storage (R62, R74, R75): never written, torn by an abandoned commit so that its CRC does
not match, or whole with the content, generation and CRC of the last completed commit (log 24). -/
inductive NvStore where
  | neverWritten
  | torn
  | whole (content : WorkingCopy) (gen crc : Word16)
  deriving DecidableEq, Repr

/-- A commit in flight (R73): the content taken at acceptance, its generation and CRC, and the 400 ms
within which it ends. -/
structure Commit where
  content : WorkingCopy
  gen : Word16
  crc : Word16
  bound : Timer
  deriving DecidableEq, Repr

/-! ### Door units, power groups and sensing (chapters 1 to 3) -/

/-- Door Unit Record (R7) without its isolated flag, which is the flag of the working isolation map.
`state` is absent before the first complete scan (R27) and at a position that is not fitted. -/
structure DoorRec where
  state : Option DoorState
  cause : Option FaultCause
  attempts : Nat
  pendingClose : Bool
  reqClass : Option ReqClass
  entryTime : Ms
  timer : Option Timer
  deriving DecidableEq, Repr

/-- An open episode of a gap zone: its onset and its ring slot, dropped when overwritten (R56, R57). -/
structure Episode where
  onset : Ms
  slot : Option (Fin 64)
  deriving DecidableEq, Repr

/-- Sensing state of one door unit (chapter 3). -/
structure DoorSense where
  tracker : Tracker
  boarding : Nat
  alighting : Nat
  deferral : Option Timer
  zone : Zone
  clearing : Option Timer
  episode : Option Episode
  deriving DecidableEq, Repr

/-- Episode record of the Gap History Ring (R56): duration and outcome are absent while it is open. -/
structure RingRecord where
  door : DoorIx
  onset : Ms
  ended : Option (Nat × EpisodeOutcome)
  deriving DecidableEq, Repr

/-- Start Queue entry (R30). -/
structure Entry where
  door : DoorIx
  motion : Motion
  cls : ReqClass
  enqueued : Ms
  deriving DecidableEq, Repr

/-- A power group (R30, R34, R35): its queue, head first, the four slots of its Start History, each with
the start and the window taken with it (R38), and its spacing hold. -/
structure Group where
  queue : List Entry
  history : Vector (Option Timer) 4
  spacing : Option Timer
  deriving DecidableEq, Repr

/-! ### The berth (chapters 5 to 7) -/

/-- Beam levels of a face; set means interrupted (R78). -/
structure Beams where
  ab1 : Bool
  ab2 : Bool
  sw : Vector Bool 25
  deriving DecidableEq, Repr

/-- Entry of the Flattened Door List (R100); its place in the list is its entry index less one. -/
structure FlatEntry where
  d : Nat
  unit : Nat
  car : Nat
  door : Nat
  deriving DecidableEq, Repr

/-- A consist with the flattened list made of it, set and made absent together (R79). -/
structure Consist where
  units : List (Fin 16 × Orientation)
  flat : List FlatEntry
  deriving DecidableEq, Repr

/-- The result of reading the stop window (R99): H, absent for MEASURE_INVALID, and the window flags. -/
structure Measure where
  head : Option Int
  beyond : Bool
  short : Bool
  bridged : Option (Fin 25)
  invalid : Bool
  deriving DecidableEq, Repr

/-- The posted open (section 7.3). -/
structure Posted where
  sections : BitVec 8
  doorMask : BitVec 32
  fromRelease : Bool
  fromSupervisory : Bool
  fromProgram : Bool
  postTime : Ms
  issueTime : Option Ms
  deriving DecidableEq, Repr

/-- Berth Record (R79) with the timers of the face: approach and settle (R79) and posting (R114). -/
structure Berth where
  state : BerthState
  consist : Option Consist
  ab1Time : Option (Us × Ms)
  ab2Time : Option Us
  speed : Option (Nat × Bool)
  predicted : Option (Int × Bool)
  measure : Option Measure
  stopTime : Option Ms
  release : Bool
  posted : Option Posted
  approachTimer : Option Timer
  settleTimer : Option Timer
  postingTimer : Option Timer
  deriving DecidableEq, Repr

/-- Row of the Match Table (R103). -/
structure MatchRow where
  index : Nat
  unit : Nat
  car : Nat
  door : Nat
  x : Int
  outcome : MatchOutcome
  named : Option DoorIx
  deriving DecidableEq, Repr

/-- Alignment result (R95). The Door Map is kept in ascending order. -/
structure Alignment where
  grade : Option Grade
  table : Option (List MatchRow)
  candidates : Nat
  map : List DoorIx
  deriving DecidableEq, Repr

/-- Closed-and-Locked Proof of a face: its value, withholding causes and counts (R119). -/
structure Clp where
  value : Bool
  config : Bool
  door : Bool
  gap : Bool
  emergency : Bool
  moved : Bool
  notLocked : Nat
  zones : Nat
  deriving DecidableEq, Repr

/-- Mode Word, keyswitch, possession, emergency latch and EOI of a face (chapter 8). -/
structure ModeUnit where
  mode : Mode
  generation : Byte
  saved : Option Mode
  key : KeyPos
  keyRead : Bool
  possession : Bool
  latch : Bool
  eoi : Bool
  deriving DecidableEq, Repr

/-- Dwell Program Engine (R139). A followed door unit is marked true while pending. -/
structure Engine where
  state : EngineState
  current : Option (Fin 96)
  phase : Phase
  followed : List (DoorIx × Bool)
  awaiting : Bool
  errors : BitVec 16
  context : Option (Fin 96 × Phase)
  ended : Bool
  armed : Option (Fin 96)
  limitTimer : Option Timer
  holdTimer : Option Timer
  deriving DecidableEq, Repr

/-- The units of one face. -/
structure FaceState where
  doors : Vector DoorRec 32
  inputs : Vector DoorInputs 32
  sense : Vector DoorSense 32
  groups : Vector Group 4
  boarding : Nat
  alighting : Nat
  quiet : Bool
  quietTimer : Option Timer
  ring : Vector (Option RingRecord) 64
  newest : Option (Fin 64)
  beams : Beams
  berth : Berth
  align : Alignment
  clp : Clp
  mode : ModeUnit
  engine : Engine
  deriving DecidableEq, Repr

/-! ### Links (chapter 10) -/

/-- Report record (R160). -/
structure Record where
  kind : ReportKind
  face : Face
  subject : Option Nat
  time : Ms
  detail : List Byte
  deriving DecidableEq, Repr

/-- Receiver of a link (R154): hunting, or collecting with the bytes taken after the start byte and the
reading at which the last byte was accepted. -/
inductive Receiver where
  | hunting
  | collecting (got : List Byte) (last : Ms)
  deriving DecidableEq, Repr

/-- A frame being sent, whether it is a reply, and when its sending began and how long it takes in
microseconds (R153, R156, log 22). -/
structure Sending where
  frame : Frame
  isReply : Bool
  start : Us
  dur : Nat
  deriving DecidableEq, Repr

/-- Link Controller of one link (R154 to R156, R160, R161). -/
structure LinkState where
  receiver : Receiver
  rxQueue : List Frame
  linkOverrun : Bool
  tx : Option Sending
  waiting : Option Frame
  reports : List Record
  reportOverrun : Bool
  flushTimer : Option Timer
  flushCount : Nat
  seq : Byte
  deriving DecidableEq, Repr

/-! ### The whole machine -/

/-- What the units of a face have still to tell the Dwell Program Engine inside one step (log 10): a door
unit's change of state (R28), a change of the quiet condition (R47), a change of CLP (R139), and the end of
a hold of 0 (R146, log 12). -/
inductive Notice where
  | door (f : Face) (j : DoorIx) (st : DoorState)
  | quiet (f : Face)
  | clp (f : Face)
  | holdEnds (f : Face)
  deriving DecidableEq, Repr

/-- LATCH and LEAF of one field position as sent out (R4, R6). -/
structure Drives where
  latch : LatchDrive
  leaf : LeafDrive
  deriving DecidableEq, Repr

/-- The state of the controller: INVENTORY.md, '## State', says which rule names each field. -/
structure State where
  powered : Bool
  msClock : Ms
  usClock : Us
  usPhase : Fin 1000
  scanDone : Bool
  scanPhase : Nat
  fieldOut : Vector Drives 64
  maint : Bool
  config : WorkingCopy
  configInvalid : Bool
  storedGen : Word16
  storedCrc : Word16
  resetCause : ResetCause
  commit : Option Commit
  nv : NvStore
  speedSl : LinkSpeed
  speedIl : LinkSpeed
  f0 : FaceState
  f1 : FaceState
  sl : LinkState
  il : LinkState
  silence : Option Timer
  ilLost : Bool
  notices : List Notice
  freeCount : Nat
  pending : List Instr
  deriving DecidableEq, Repr

/-! ### Start values -/

/-- An input position before its first scan (log 9). -/
def DoorInputs.blank : DoorInputs := ⟨false, false, false, false, false, false, false, false⟩

/-- A Door Unit Record before it is resolved (R27). -/
def DoorRec.blank : DoorRec := ⟨none, none, 0, false, none, 0, none⟩

/-- Sensing state of a door unit at start (R59). -/
def DoorSense.blank : DoorSense := ⟨.clear, 0, 0, none, .idle, none, none⟩

/-- A power group at start (R39). -/
def Group.blank : Group := ⟨[], Vector.replicate 4 none, none⟩

/-- A geometry record at a position that no write has given a value (R64). -/
def GeoDoor.blank : GeoDoor := ⟨0, 0, 0⟩

/-- The default geometry items of R64, with no door units. -/
def Geometry.default : Geometry :=
  ⟨0, Vector.replicate 32 GeoDoor.blank, 50, -12000, -6000, 0xFF#8, 250⟩

/-- The default Face Parameter Set (R67). -/
def Params.default : Params where
  lockWithdrawTimeout := 400
  unlatchSettle := 50
  openTimeout := 3500
  closeTimeout := 4500
  lockEngageTimeout := 400
  recloseDelay := 1000
  recloseMax := 3
  startSpacing := 60
  startWindow := 600
  doorwayDeferLimit := 3000
  quietTime := 2000
  gapClearTime := 1000
  gapLatch := false
  stopSettle := 1500
  approachLimit := 30000
  brakingRate := 800
  partialLimit := 2
  predictionLimit := 1000
  postedDelay := 300
  startSupervised := true
  haltOnError := true

/-- The working copy after an invalid load (R75): the defaults of R64, R67 and R69. -/
def WorkingCopy.default : WorkingCopy where
  geo0 := Geometry.default
  geo1 := Geometry.default
  par0 := Params.default
  par1 := Params.default
  iso0 := Vector.replicate 32 false
  iso1 := Vector.replicate 32 false
  ilSilenceLimit := 2000
  speedSl := .baud115200
  speedIl := .baud115200
  repSl := ⟨0x3F#8, 1, 2⟩
  repIl := ⟨0x03#8, 1, 2⟩
  cars := Vector.replicate 24 none
  units := Vector.replicate 16 none
  descriptors := Vector.replicate 96 none
  geometryLock := false

/-- All beams of a face clear. -/
def Beams.clear : Beams := ⟨false, false, Vector.replicate 25 false⟩

/-- A berth re-resolved with every beam clear (R91). -/
def Berth.blank : Berth :=
  ⟨.empty, none, none, none, none, none, none, none, false, none, none, none, none⟩

/-- No alignment result (R95). -/
def Alignment.blank : Alignment := ⟨none, none, 0, []⟩

/-- CLP before its first computation: withheld (R122; causes and counts, log 9). -/
def Clp.start : Clp := ⟨false, false, false, false, false, false, 0, 0⟩

/-- The Emergency and Mode Unit at start, before its first readings (R136): LOCAL, with the start mode saved. -/
def ModeUnit.start (saved : Mode) : ModeUnit :=
  ⟨.local_, 0, some saved, .localClose, false, false, false, false⟩

/-- The engine at start and after FACE RESET (R152; phase, log 9). -/
def Engine.start : Engine := ⟨.idle, none, .wait, [], false, 0, none, false, none, none, none⟩

/-- The units of a face at start (R27, R39, R59, R91, R95, R122, R136, R152). -/
def FaceState.start (saved : Mode) : FaceState where
  doors := Vector.replicate 32 DoorRec.blank
  inputs := Vector.replicate 32 DoorInputs.blank
  sense := Vector.replicate 32 DoorSense.blank
  groups := Vector.replicate 4 Group.blank
  boarding := 0
  alighting := 0
  quiet := false
  quietTimer := none
  ring := Vector.replicate 64 none
  newest := none
  beams := Beams.clear
  berth := Berth.blank
  align := Alignment.blank
  clp := Clp.start
  mode := ModeUnit.start saved
  engine := Engine.start

/-- A Link Controller at start (R164). -/
def LinkState.start : LinkState := ⟨.hunting, [], false, none, none, [], false, none, 0, 0⟩

/-- The machine right after power-on with storage never written (R75, third case), every beam clear and no
reading of the keyswitch, EOI or MAINT made yet (log 9); the first scan is not complete (R27). -/
def State.reset : State where
  powered := true
  msClock := 0
  usClock := 0
  usPhase := 0
  scanDone := false
  scanPhase := 0
  fieldOut := Vector.replicate 64 ⟨.off, .off⟩
  maint := false
  config := WorkingCopy.default
  configInvalid := true
  storedGen := 0
  storedCrc := 0
  resetCause := .power
  commit := none
  nv := .neverWritten
  speedSl := .baud115200
  speedIl := .baud115200
  f0 := FaceState.start .maintenance
  f1 := FaceState.start .maintenance
  sl := LinkState.start
  il := LinkState.start
  silence := none
  ilLost := true
  notices := []
  freeCount := 0
  pending := []

end Sys2Proof.Machine
end

