-- ==== Sys2Proof/Machine/Ops.lean ====
section
/-! DEFINITION. Named operations over the state that every unit uses: accessors, timers and the clock (R1),
byte order (R165), the CRC (R153), and the drives of a door unit (R6). -/

namespace Sys2Proof.Machine

/-! ### Vectors -/

/-- Replace one member. -/
def put {α : Type} {n : Nat} (v : Vector α n) (i : Fin n) (x : α) : Vector α n := v.set i.val x i.isLt

/-! ### Faces and links -/

/-- The units of a face. -/
def State.face (s : State) : Face → FaceState
  | .f0 => s.f0
  | .f1 => s.f1

/-- Change the units of a face. -/
def State.mapFace (s : State) (f : Face) (g : FaceState → FaceState) : State :=
  match f with
  | .f0 => { s with f0 := g s.f0 }
  | .f1 => { s with f1 := g s.f1 }

/-- The Link Controller of a link. -/
def State.link (s : State) : Link → LinkState
  | .sl => s.sl
  | .il => s.il

/-- Change the Link Controller of a link. -/
def State.mapLink (s : State) (l : Link) (g : LinkState → LinkState) : State :=
  match l with
  | .sl => { s with sl := g s.sl }
  | .il => { s with il := g s.il }

/-! ### The working copy (R62): every unit reads its settings here -/

/-- Face Geometry of a face. -/
def State.geo (s : State) : Face → Geometry
  | .f0 => s.config.geo0
  | .f1 => s.config.geo1

/-- Face Parameter Set of a face. -/
def State.par (s : State) : Face → Params
  | .f0 => s.config.par0
  | .f1 => s.config.par1

/-- Isolation map of a face. -/
def State.iso (s : State) : Face → Vector Bool 32
  | .f0 => s.config.iso0
  | .f1 => s.config.iso1

/-- Reporting settings of a link. -/
def State.reporting (s : State) : Link → Reporting
  | .sl => s.config.repSl
  | .il => s.config.repIl

/-- Change the working copy. -/
def State.mapConfig (s : State) (g : WorkingCopy → WorkingCopy) : State := { s with config := g s.config }

/-- Replace the Face Geometry of a face. -/
def WorkingCopy.setGeo (c : WorkingCopy) (f : Face) (x : Geometry) : WorkingCopy :=
  match f with
  | .f0 => { c with geo0 := x }
  | .f1 => { c with geo1 := x }

/-- Replace the Face Parameter Set of a face. -/
def WorkingCopy.setPar (c : WorkingCopy) (f : Face) (x : Params) : WorkingCopy :=
  match f with
  | .f0 => { c with par0 := x }
  | .f1 => { c with par1 := x }

/-- Replace the isolation map of a face. -/
def WorkingCopy.setIso (c : WorkingCopy) (f : Face) (x : Vector Bool 32) : WorkingCopy :=
  match f with
  | .f0 => { c with iso0 := x }
  | .f1 => { c with iso1 := x }

/-- Replace the reporting settings of a link. -/
def WorkingCopy.setReporting (c : WorkingCopy) (l : Link) (x : Reporting) : WorkingCopy :=
  match l with
  | .sl => { c with repSl := x }
  | .il => { c with repIl := x }

/-- The isolated flag of a door unit (R7, R25). -/
def State.isolated (s : State) (f : Face) (j : DoorIx) : Bool := (s.iso f)[j]

/-- Set or clear the isolated flag of a door unit in the working isolation map (R25). -/
def State.setIsolated (s : State) (f : Face) (j : DoorIx) (v : Bool) : State :=
  s.mapConfig (fun c => c.setIso f (put (s.iso f) j v))

/-- Door unit `j` of the face is fitted (R5). -/
def State.isFitted (s : State) (f : Face) (j : DoorIx) : Bool := j.val < (s.geo f).n

/-- The fitted door units of a face in ascending order (R5). -/
def State.fitted (s : State) (f : Face) : List DoorIx := (List.finRange 32).filter (s.isFitted f)

/-- The power group of a door unit (R29). -/
def State.groupOf (s : State) (f : Face) (j : DoorIx) : GroupIx := ((s.geo f).doors[j]).group

/-- The section of a door unit is active in the section mask (R64). -/
def State.sectionActive (s : State) (f : Face) (j : DoorIx) : Bool :=
  (s.geo f).sectionMask.getLsbD ((s.geo f).doors[j]).section_.val

/-! ### Parts of a face -/

/-- The Door Unit Record of a door unit. -/
def State.door (s : State) (f : Face) (j : DoorIx) : DoorRec := (s.face f).doors[j]

/-- Change a Door Unit Record. -/
def State.mapDoor (s : State) (f : Face) (j : DoorIx) (g : DoorRec → DoorRec) : State :=
  s.mapFace f (fun x => { x with doors := put x.doors j (g x.doors[j]) })

/-- The debounced inputs of a door unit position. -/
def State.input (s : State) (f : Face) (j : DoorIx) : DoorInputs := (s.face f).inputs[j]

/-- Change the debounced inputs of a door unit position. -/
def State.mapInput (s : State) (f : Face) (j : DoorIx) (g : DoorInputs → DoorInputs) : State :=
  s.mapFace f (fun x => { x with inputs := put x.inputs j (g x.inputs[j]) })

/-- The sensing state of a door unit. -/
def State.sense (s : State) (f : Face) (j : DoorIx) : DoorSense := (s.face f).sense[j]

/-- Change the sensing state of a door unit. -/
def State.mapSense (s : State) (f : Face) (j : DoorIx) (g : DoorSense → DoorSense) : State :=
  s.mapFace f (fun x => { x with sense := put x.sense j (g x.sense[j]) })

/-- A power group of a face. -/
def State.group (s : State) (f : Face) (g : GroupIx) : Group := (s.face f).groups[g]

/-- Change a power group of a face. -/
def State.mapGroup (s : State) (f : Face) (g : GroupIx) (h : Group → Group) : State :=
  s.mapFace f (fun x => { x with groups := put x.groups g (h x.groups[g]) })

/-- Change the Berth Record of a face. -/
def State.mapBerth (s : State) (f : Face) (g : Berth → Berth) : State :=
  s.mapFace f (fun x => { x with berth := g x.berth })

/-- Change the engine of a face. -/
def State.mapEngine (s : State) (f : Face) (g : Engine → Engine) : State :=
  s.mapFace f (fun x => { x with engine := g x.engine })

/-- Change the Emergency and Mode Unit of a face. -/
def State.mapMode (s : State) (f : Face) (g : ModeUnit → ModeUnit) : State :=
  s.mapFace f (fun x => { x with mode := g x.mode })

/-- The Berth Record of a face. -/
def State.berth (s : State) (f : Face) : Berth := (s.face f).berth

/-- The Door Map of a face (R95). -/
def State.map (s : State) (f : Face) : List DoorIx := (s.face f).align.map

/-- The served mark of a door unit, read from the Door Map (R7). -/
def State.served (s : State) (f : Face) (j : DoorIx) : Bool := (s.map f).contains j

/-- Every fitted door unit of the face, isolated ones included, is LOCKED (R66, R87). -/
def State.allLocked (s : State) (f : Face) : Bool :=
  (s.fitted f).all (fun j => (s.door f j).state = some .locked)

/-- Tell the Dwell Program Engine something inside the step (log 10). -/
def State.tell (s : State) (n : Notice) : State := { s with notices := s.notices ++ [n] }

/-- Carry out one operation for each member of a list, in its order. -/
def forEach {α : Type} (xs : List α) (op : α → State → State) (s : State) : State :=
  xs.foldl (fun s x => op x s) s

/-! ### Timers and the clock (R1) -/

/-- A timer started now. -/
def State.startTimer (s : State) (dur : Nat) : Timer := ⟨s.msClock, dur⟩

/-- Milliseconds from an earlier reading to a later one, modulo 2³² (R1). -/
def elapsedMs (now since : Ms) : Nat := (now - since).toNat

/-- The time of a timer has passed (R1). -/
def Timer.due (t : Timer) (now : Ms) : Bool := t.dur ≤ elapsedMs now t.start

/-- Milliseconds left on a timer. -/
def Timer.left (t : Timer) (now : Ms) : Nat := t.dur - elapsedMs now t.start

/-- Milliseconds left on a timer that may be stopped, 0 if it is. The rules state the 0 for the timers of R40, R94 and
R151; for the quiet, deferral and clearing timers it is the model's choice (log 38). -/
def timeLeft (t : Option Timer) (now : Ms) : Nat :=
  match t with
  | none => 0
  | some t => t.left now

/-- The drives of a door unit by its state (R6); off where there is no record or no state yet (R5, R27). -/
def drivesOf : Option DoorState → Drives
  | none => ⟨.off, .off⟩
  | some .locked => ⟨.off, .off⟩
  | some .unlatching => ⟨.withdraw, .off⟩
  | some .unlatched => ⟨.withdraw, .off⟩
  | some .opening => ⟨.withdraw, .open_⟩
  | some .standOpen => ⟨.off, .open_⟩
  | some .closeWait => ⟨.off, .open_⟩
  | some .closing => ⟨.off, .close⟩
  | some .reversing => ⟨.off, .open_⟩
  | some .recloseHold => ⟨.off, .open_⟩
  | some .obstructed => ⟨.off, .open_⟩
  | some .locking => ⟨.engage, .close⟩
  | some .released => ⟨.off, .off⟩
  | some .fault => ⟨.off, .off⟩

/-- The drive values held for field position `p`: FACE 0 below 32, FACE 1 from there (R5, R6). -/
def State.drivesAt (s : State) (p : Fin 64) : Drives :=
  let f : Face := if p.val < 32 then .f0 else .f1
  let j : DoorIx := ⟨p.val % 32, Nat.mod_lt _ (by decide)⟩
  if s.isFitted f j then drivesOf (s.door f j).state else ⟨.off, .off⟩

/-- The drive values of all positions go out on a scan (R4). -/
def State.sendDrives (s : State) : State := { s with fieldOut := Vector.ofFn s.drivesAt }

/-- Let `ms` milliseconds pass: both counters advance (R1, log 5), and where a scan is completed the drives go
out (R4, log 7). -/
def State.advance (ms : Nat) (s : State) : State :=
  let t := { s with
    msClock := s.msClock + BitVec.ofNat 32 ms
    usClock := s.usClock + BitVec.ofNat 32 (1000 * ms) }
  if s.scanDone then
    let u := { t with scanPhase := (s.scanPhase + ms) % 4 }
    if 4 ≤ s.scanPhase + ms then u.sendDrives else u
  else t

/-- Let `us` microseconds pass: the microsecond counter advances by them and the millisecond clock once for each
millisecond completed (R1, log 5). -/
def State.advanceMicros (us : Nat) (s : State) : State :=
  let n := s.usPhase.val + us
  { (if n < 1000 then s else s.advance (n / 1000)) with
    usClock := s.usClock + BitVec.ofNat 32 us
    usPhase := Fin.ofNat 1000 n }

/-- Bring the microsecond counter to a reading that it does not show yet (R1, log 5). -/
def State.reachMicros (t : Us) (s : State) : State :=
  if t = s.usClock then s else s.advanceMicros (t - s.usClock).toNat

/-- Bring the clock to the due reading of a timer that is not yet due (log 3). -/
def State.reach (t : Timer) (s : State) : State :=
  if t.due s.msClock then s else s.advance (t.left s.msClock)

/-! ### Byte order (R165): high byte first, signed quantities in two's complement -/

/-- One byte. -/
def b8 (n : Nat) : Byte := BitVec.ofNat 8 n

/-- Two bytes, high byte first. -/
def be16 (n : Nat) : List Byte := [b8 (n / 256), b8 n]

/-- Four bytes, high byte first. -/
def be32 (n : Nat) : List Byte := [b8 (n / 16777216), b8 (n / 65536), b8 (n / 256), b8 n]

/-- A signed 16-bit field. -/
def be16i (z : Int) : List Byte := be16 (z % 65536).toNat

/-- A signed 32-bit field. -/
def be32i (z : Int) : List Byte := be32 (z % 4294967296).toNat

/-- A flag byte. -/
def flag (b : Bool) : Byte := if b then 1 else 0

/-- An integer read high byte first. -/
def readNat (bs : List Byte) : Nat := bs.foldl (fun n b => n * 256 + b.toNat) 0

/-- A two's complement integer of `bits` bits. -/
def toSigned (bits n : Nat) : Int := if n < 2 ^ (bits - 1) then (n : Int) else (n : Int) - 2 ^ bits

/-- The byte at an offset of a payload whose length has been checked. -/
def byteAt (p : List Byte) (i : Nat) : Nat := (p.getD i 0).toNat

/-- The `k`-byte integer at an offset of a payload whose length has been checked. -/
def intAt (p : List Byte) (i k : Nat) : Nat := readNat ((p.drop i).take k)

/-- A value kept within a 16-bit unsigned field (R2, R165). -/
def sat16 (n : Nat) : Nat := min n 65535

/-- The bits of a vector of flags as an integer, member `i` at bit `i` (R165). -/
def maskOf {n : Nat} (v : Vector Bool n) : Nat :=
  (List.finRange n).foldl (fun m i => if v[i] then m + 2 ^ i.val else m) 0

/-! ### CRC-16 (R153): polynomial x¹⁶ + x¹² + x⁵ + 1, initial value 0xFFFF, no reflection -/

/-- One bit of the CRC. -/
def crcBit (c : Word16) : Word16 := if c.msb then (c <<< 1) ^^^ 0x1021#16 else c <<< 1

/-- One byte of the CRC, most significant bit first. -/
def crcByte (c : Word16) (b : Byte) : Word16 :=
  crcBit (crcBit (crcBit (crcBit (crcBit (crcBit (crcBit (crcBit (c ^^^ (b.zeroExtend 16 <<< 8)))))))))

/-- The CRC-16 of a list of bytes. -/
def crc16 (bs : List Byte) : Word16 := bs.foldl crcByte 0xFFFF#16

/-- The two CRC bytes, high byte first (R153). -/
def crcBytes (c : Word16) : List Byte := be16 c.toNat

/-- The bytes over which the CRC of a frame is taken: LEN, KIND, TAG and the payload (R153). -/
def frameBody (x : Frame) : List Byte := b8 x.payload.length :: x.kind :: x.tag :: x.payload

/-- A frame as its bytes on the link (R153, R166). -/
def frameBytes (x : Frame) : List Byte := 0xC3#8 :: (frameBody x ++ crcBytes (crc16 (frameBody x)))

end Sys2Proof.Machine
end

