-- ==== Sys2Proof/Machine/Flags.lean ====
section
/-! DEFINITION. The code lists of R166 and R167 and every byte of flags that the controller sends. -/

namespace Sys2Proof.Machine

/-- Result codes (R166). -/
def ResultCode.code : ResultCode → Byte
  | .accept => 0x00
  | .adjusted => 0x01
  | .unknownKind => 0x02
  | .badLength => 0x03
  | .badField => 0x04
  | .wrongLink => 0x05
  | .wrongMode => 0x06
  | .faceBusy => 0x07
  | .commitBusy => 0x08
  | .notLocked => 0x09
  | .served => 0x0A
  | .isolated => 0x0B
  | .notAvailable => 0x0C
  | .emergencyActive => 0x0D
  | .eoiActive => 0x0E
  | .noTrain => 0x0F
  | .berthState => 0x10
  | .notReady => 0x11
  | .noRelease => 0x12
  | .modeMismatch => 0x13
  | .keyswitch => 0x14
  | .programBusy => 0x15
  | .notWaiting => 0x16
  | .inUse => 0x17
  | .geometryLocked => 0x18
  | .geometryInvalid => 0x19
  | .undefinedProfile => 0x1A
  | .consistTooLarge => 0x1B
  | .badDescriptor => 0x1C
  | .notFaulted => 0x1D
  | .notLatched => 0x1E
  | .notPermitted => 0x1F

/-- Berth states. -/
def BerthState.code : BerthState → Byte
  | .empty => 0
  | .notified => 1
  | .approaching => 2
  | .arriving => 3
  | .settling => 4
  | .stopped => 5
  | .departing => 6
  | .movedFault => 7

/-- Door unit states. -/
def DoorState.code : DoorState → Byte
  | .locked => 0
  | .unlatching => 1
  | .unlatched => 2
  | .opening => 3
  | .standOpen => 4
  | .closeWait => 5
  | .closing => 6
  | .reversing => 7
  | .recloseHold => 8
  | .obstructed => 9
  | .locking => 10
  | .released => 11
  | .fault => 12

/-- Fault causes. -/
def FaultCause.code : FaultCause → Byte
  | .lockWithdrawTimeout => 1
  | .openTimeout => 2
  | .closeTimeout => 3
  | .lockEngageTimeout => 4
  | .lockLost => 5
  | .positionUnknown => 6
  | .sensorConflict => 7

/-- Request classes (R170). -/
def ReqClass.code : ReqClass → Byte
  | .normal => 0
  | .emergency => 1

/-- Modes. -/
def Mode.code : Mode → Byte
  | .automatic => 0
  | .supervised => 1
  | .local_ => 2
  | .maintenance => 3

/-- Keyswitch positions. -/
def keyCode : KeyPos → Byte
  | .auto => 0
  | .localOpen => 1
  | .localClose => 2

/-- Grades. -/
def Grade.code : Grade → Byte
  | .full => 1
  | .partial_ => 2
  | .misaligned => 3
  | .outOfWindow => 4
  | .measureInvalid => 5
  | .noConsist => 6

/-- Match outcomes. -/
def MatchOutcome.code : MatchOutcome → Byte
  | .matched => 0
  | .noDoorUnit => 1
  | .unavailable => 2
  | .conflict => 3
  | .withheld => 4

/-- Actions. -/
def Action.code : Action → Byte
  | .open_ => 0
  | .close => 1
  | .wait => 2
  | .check => 3
  | .mark => 4

/-- Selections. -/
def SelKind.code : SelKind → Byte
  | .served => 0
  | .sections => 1
  | .explicit => 2

/-- Triggers. -/
def Trigger.code : Trigger → Byte
  | .immediate => 0
  | .onStopped => 1
  | .onRelease => 2
  | .onQuiet => 3
  | .onClp => 4

/-- Gap zones. -/
def Zone.code : Zone → Byte
  | .idle => 0
  | .watch => 1
  | .occupied => 2
  | .clearing => 3
  | .latched => 4

/-- Episode outcomes. -/
def EpisodeOutcome.code : EpisodeOutcome → Byte
  | .cleared => 1
  | .acknowledged => 2
  | .disarmed => 3

/-- Tracker states (R170). -/
def Tracker.code : Tracker → Byte
  | .clear => 0
  | .a => 1
  | .b => 2
  | .abFromA => 3
  | .abFromB => 4
  | .tailFromA => 5
  | .tailFromB => 6

/-- Engine states. -/
def EngineState.code : EngineState → Byte
  | .idle => 0
  | .waiting => 1
  | .acting => 2
  | .holding => 3
  | .halted => 4

/-- Phases. -/
def Phase.code : Phase → Byte
  | .wait => 0
  | .act => 1
  | .hold => 2

/-- Orientations. -/
def Orientation.code : Orientation → Byte
  | .forward => 0
  | .reversed => 1

/-- Link speeds. -/
def LinkSpeed.code : LinkSpeed → Byte
  | .baud115200 => 0
  | .baud460800 => 1

/-- Links. -/
def linkCode : Link → Byte
  | .sl => 0
  | .il => 1

/-- Faces. -/
def faceCode : Face → Byte
  | .f0 => 0
  | .f1 => 1

/-- Last reset causes (R168). -/
def ResetCause.code : ResetCause → Byte
  | .power => 0
  | .pin => 1

/-- Report kinds (R169). -/
def ReportKind.code : ReportKind → Byte
  | .clpChange => 0x01
  | .berthState => 0x02
  | .alignment => 0x03
  | .overrunPredicted => 0x04
  | .slowApproach => 0x05
  | .doorEvent => 0x06
  | .gapEvent => 0x07
  | .emergency => 0x08
  | .modeChange => 0x09
  | .programEvent => 0x0A
  | .postedDiscarded => 0x0B
  | .commitDone => 0x0C
  | .linkState => 0x0D

/-- The bit of a report class in a class mask (R167). -/
def ReportClass.bit : ReportClass → Nat
  | .safety => 0
  | .berth => 1
  | .door => 2
  | .sensing => 3
  | .program => 4
  | .system => 5

/-- The bit of a program error in the error flags (R167). -/
def ProgError.bit : ProgError → Nat
  | .doorFault => 0
  | .obstructed => 1
  | .refused => 2
  | .checkFailed => 3
  | .postedDiscarded => 4
  | .timeout => 5
  | .emptyDescriptor => 6
  | .emergency => 7
  | .releaseWithdrawn => 8
  | .moved => 9
  | .modeChanged => 10

/-- The error flags with one flag alone. -/
def ProgError.mask (e : ProgError) : BitVec 16 := 1#16 <<< e.bit

/-- Trigger levels by code (R167). -/
def triggerLevel (c : Fin 4) : Nat :=
  match c.val with
  | 0 => 1
  | 1 => 4
  | 2 => 8
  | _ => 16

/-- Flush times by code, none for OFF (R167). -/
def flushTime (c : Fin 6) : Option Nat :=
  match c.val with
  | 0 => none
  | 1 => some 20
  | 2 => some 50
  | 3 => some 100
  | 4 => some 200
  | _ => some 500

/-- Bits a second at a link speed (R153). -/
def LinkSpeed.baud : LinkSpeed → Nat
  | .baud115200 => 115200
  | .baud460800 => 460800

/-! ### Bytes of flags -/

/-- A list of flags as one byte, the first at bit 0. -/
def packFlags (bs : List Bool) : Byte := b8 (bs.foldr (fun b n => (if b then 1 else 0) + 2 * n) 0)

/-- The status byte of a reply on a link (R157, R166). -/
def State.statusByte (s : State) (l : Link) : Byte :=
  packFlags [s.f0.clp.value, s.f1.clp.value, s.ilLost, s.configInvalid,
    (s.link l).reportOverrun, (s.link l).linkOverrun]

/-- The withholding causes of CLP (R119, R169). -/
def Clp.causes (c : Clp) : Byte := packFlags [c.config, c.door, c.gap, c.emergency, c.moved]

/-- The window flags (R99, R169). -/
def Measure.flags (m : Measure) : Byte := packFlags [m.beyond, m.short, m.bridged.isSome, m.invalid]

/-- The saturation flags of speed and prediction (R96, R97, R167). -/
def satFlags (speedSat predSat : Bool) : Byte := packFlags [speedSat, predSat]

/-- The sources of a posted open, first at bit 0 (R113, R167). -/
def Posted.sources (p : Posted) : Byte := packFlags [p.fromRelease, p.fromSupervisory, p.fromProgram]

/-- The eight inputs of a door unit (R170). -/
def inputBits (i : DoorInputs) : Byte :=
  packFlags [i.leafClosed, i.leafOpen, i.lockEngaged, i.mrh, i.edge, i.dwa, i.dwb, i.gap]

/-- The beam levels: AB1, AB2, then SW0 to SW24 (R170). -/
def Beams.bits (b : Beams) : Nat := (if b.ab1 then 1 else 0) + (if b.ab2 then 2 else 0) + 4 * maskOf b.sw

/-! ### Fields that may be absent (R165) -/

/-- A byte field. -/
def opt8 (o : Option Byte) : Byte := o.getD 0xFF

/-- A 16-bit unsigned field. -/
def opt16 (o : Option Nat) : List Byte := be16 (o.getD 0xFFFF)

/-- A 16-bit signed field. -/
def opt16i (o : Option Int) : List Byte := (o.map be16i).getD (be16 0x8000)

/-- A 32-bit field. -/
def opt32 (o : Option Nat) : List Byte := be32 (o.getD 0xFFFFFFFF)

end Sys2Proof.Machine
end

