-- ==== Sys2Proof/Machine/Operands.lean ====
section
/-! DEFINITION. Reading the operands of a request from its payload (R165, R167, R168). -/

namespace Sys2Proof.Machine

/-- A face number; none when it is not 0 or 1. -/
def faceOf (n : Nat) : Option Face :=
  match n with
  | 0 => some .f0
  | 1 => some .f1
  | _ => none

/-- A link code. -/
def linkOf (n : Nat) : Option Link :=
  match n with
  | 0 => some .sl
  | 1 => some .il
  | _ => none

/-- An index below a bound. -/
def ixOf (bound n : Nat) : Option (Fin bound) := if h : n < bound then some ⟨n, h⟩ else none

/-- A flag byte: 0 or 1 (R165). -/
def flagOf (n : Nat) : Option Bool :=
  match n with
  | 0 => some false
  | 1 => some true
  | _ => none

/-- A mode code. -/
def modeOf (n : Nat) : Option Mode :=
  match n with
  | 0 => some .automatic
  | 1 => some .supervised
  | 2 => some .local_
  | 3 => some .maintenance
  | _ => none

/-- An action code. -/
def actionOf (n : Nat) : Option Action :=
  match n with
  | 0 => some .open_
  | 1 => some .close
  | 2 => some .wait
  | 3 => some .check
  | 4 => some .mark
  | _ => none

/-- A selection code. -/
def selKindOf (n : Nat) : Option SelKind :=
  match n with
  | 0 => some .served
  | 1 => some .sections
  | 2 => some .explicit
  | _ => none

/-- A trigger code. -/
def triggerOf (n : Nat) : Option Trigger :=
  match n with
  | 0 => some .immediate
  | 1 => some .onStopped
  | 2 => some .onRelease
  | 3 => some .onQuiet
  | 4 => some .onClp
  | _ => none

/-- An orientation code. -/
def orientationOf (n : Nat) : Option Orientation :=
  match n with
  | 0 => some .forward
  | 1 => some .reversed
  | _ => none

/-- A link speed code. -/
def speedOf (n : Nat) : Option LinkSpeed :=
  match n with
  | 0 => some .baud115200
  | 1 => some .baud460800
  | _ => none

/-- The selection of a request or a descriptor: the mask is read as a section mask under SECTIONS, where no bit above 7 may
be set, as a door unit mask under EXPLICIT, where no bit at or above the limit may be set, and is not examined under SERVED,
where it is kept as it was carried (R126, R138, R165, R168, log 47). An EXPLICIT mask of 0xFFFFFFFF with a limit of 32 names
32 door units and is no absent marker (log 20). -/
def selectionOf (kind mask limit : Nat) : Option Selection :=
  match selKindOf kind with
  | some .served => some ⟨.served, BitVec.ofNat 32 mask⟩
  | some .sections => if mask < 2 ^ 8 then some ⟨.sections, BitVec.ofNat 32 mask⟩ else none
  | some .explicit => if mask < 2 ^ limit then some ⟨.explicit, BitVec.ofNat 32 mask⟩ else none
  | none => none

/-- The section mask with which a selection is taken with the Door Map (R113): SERVED sets all eight flags. -/
def Selection.sections (x : Selection) : BitVec 8 :=
  match x.kind with
  | .served => 0xFF#8
  | .sections => x.mask.setWidth 8
  | .explicit => 0#8

/-- The door unit mask with which a selection is taken with the Door Map (R113). -/
def Selection.doorMask (x : Selection) : BitVec 32 :=
  match x.kind with
  | .served => 0#32
  | .sections => 0#32
  | .explicit => x.mask

/-- A value brought to the nearer limit of its range (R159). -/
def clamp (lo hi v : Nat) : Nat := max lo (min hi v)

/-- Consecutive items of a fixed size after a fixed part: the offsets of `count` items (R168). -/
def itemOffsets (base size count : Nat) : List Nat := (List.range count).map (fun k => base + size * k)

/-- All members of a list of options, or none. -/
def allSome {α : Type} : List (Option α) → Option (List α)
  | [] => some []
  | none :: _ => none
  | some x :: xs => (allSome xs).map (x :: ·)

end Sys2Proof.Machine
end

