-- ==== Sys2Proof/Machine/Reports.lean ====
section
/-! DEFINITION. Report Queues, REPORT frames and the transmitter (sections 10.3, 10.7, 11.5). -/

namespace Sys2Proof.Machine

/-- The speed a link runs at: the one loaded at start (R69, R153). -/
def State.linkSpeed (s : State) : Link → LinkSpeed
  | .sl => s.speedSl
  | .il => s.speedIl

/-- Microseconds a frame takes on a link: LEN + 6 bytes of ten bits, back to back (R153, log 22). -/
def State.frameTime (s : State) (l : Link) (x : Frame) : Nat :=
  (x.payload.length + 6) * 10 * 1000000 / (s.linkSpeed l).baud

/-- Begin sending a frame (R156). -/
def State.send (l : Link) (x : Frame) (isReply : Bool) (s : State) : State :=
  s.mapLink l (fun k => { k with tx := some ⟨x, isReply, s.usClock, s.frameTime l x⟩ })

/-- A record as sent (R169): kind, face, subject, time, detail length and detail. -/
def Record.bytes (r : Record) : List Byte :=
  [r.kind.code, faceCode r.face, opt8 (r.subject.map b8)] ++ be32 r.time.toNat
    ++ b8 r.detail.length :: r.detail

/-- The REPORT frame of some records, its TAG the report sequence number (R161, R169). -/
def reportFrame (seq : Byte) (rs : List Record) : Frame :=
  ⟨0xF0#8, seq, b8 rs.length :: rs.flatMap Record.bytes⟩

/-- A REPORT frame is due (R161). -/
def State.reportDue (s : State) (l : Link) : Bool :=
  let k := s.link l
  !k.reports.isEmpty && (0 < k.flushCount || triggerLevel (s.reporting l).trigger ≤ k.reports.length)

/-- The flush timer started now for the flush time of the link; stopped with the flush time OFF
(R161, log 21). -/
def State.flushStart (s : State) (l : Link) : Option Timer :=
  (flushTime (s.reporting l).flush).map s.startTimer

/-- Form a REPORT frame from the oldest records, up to 8, and begin sending it (R161). -/
def State.formReport (l : Link) (s : State) : State :=
  let k := s.link l
  let rs := k.reports.take 8
  let rest := k.reports.drop 8
  (s.mapLink l (fun k => { k with
    reports := rest
    flushCount := k.flushCount - rs.length
    seq := k.seq + 1
    flushTimer := if rest.isEmpty then none else s.flushStart l })).send l (reportFrame k.seq rs) false

/-- Send a REPORT frame if one is due, the transmitter is free and no reply waits (R156, R161). -/
def State.considerReport (l : Link) (s : State) : State :=
  let k := s.link l
  if s.reportDue l && k.tx.isNone && k.waiting.isNone then s.formReport l else s

/-- The class mask of the link admits a class (R69, R160). -/
def State.admits (s : State) (l : Link) (c : ReportClass) : Bool := (s.reporting l).classMask.getLsbD c.bit

/-- Place an admitted record at the tail: an empty queue starts the flush timer, and a record of the SAFETY
class sets the flush count to the number of records held (R160, R161). -/
def State.enqueueReport (l : Link) (c : ReportClass) (r : Record) (s : State) : State :=
  s.mapLink l (fun k => { k with
    reports := k.reports ++ [r]
    flushTimer := if k.reports.isEmpty then s.flushStart l else k.flushTimer
    flushCount := if c = .safety then k.reports.length + 1 else k.flushCount })

/-- Offer a record to the Report Queue of one link (R160). -/
def State.offerRecord (l : Link) (c : ReportClass) (r : Record) (s : State) : State :=
  if s.admits l c then
    if (s.link l).reports.length < 64 then (s.enqueueReport l c r).considerReport l
    else s.mapLink l (fun k => { k with reportOverrun := true })
  else s

/-- Make a report: a record offered to the queue of each link in turn (R160). -/
def State.report (c : ReportClass) (k : ReportKind) (f : Face) (subject : Option Nat) (detail : List Byte)
    (s : State) : State :=
  let r : Record := ⟨k, f, subject, s.msClock, detail⟩
  (s.offerRecord .sl c r).offerRecord .il c r

/-- A LINK_STATE report, offered to SL only (R118, R160): 0 LOST, 1 RESTORED. -/
def State.reportLinkState (code : Byte) (s : State) : State :=
  s.offerRecord .sl .system ⟨.linkState, .f0, none, s.msClock, code :: be16 s.config.ilSilenceLimit⟩

/-- A reply becomes ready: it is sent at once when the transmitter is free and waits otherwise (R156). -/
def State.sendReply (l : Link) (x : Frame) (s : State) : State :=
  if (s.link l).tx.isNone then s.send l x true
  else s.mapLink l (fun k => { k with waiting := some x })

/-- The transmitter becomes free: a waiting reply is sent before a REPORT frame that is due (R156). -/
def State.transmitterFree (l : Link) (s : State) : State :=
  let t := s.mapLink l (fun k => { k with tx := none })
  match (s.link l).waiting with
  | some x => (t.mapLink l (fun k => { k with waiting := none })).send l x true
  | none => t.considerReport l

/-- The flush timer expires: the flush count becomes the number of records held, and a due frame is formed
(R161). -/
def State.flushExpired (l : Link) (s : State) : State :=
  (s.mapLink l (fun k => { k with flushTimer := none, flushCount := k.reports.length })).considerReport l

end Sys2Proof.Machine
end

