-- ==== Sys2Proof/Machine/Proof.lean ====
section
/-! DEFINITION. The Proof Logic: the Closed-and-Locked Proof of a face (section 7.6). -/

namespace Sys2Proof.Machine

/-- The zone withholds CLP (R55, R119). -/
def Zone.withholds : Zone → Bool
  | .idle => false
  | .watch => false
  | .occupied => true
  | .clearing => true
  | .latched => true

/-- Fitted door units of the face that are not LOCKED; one with no state yet is not (R119). -/
def State.notLockedCount (s : State) (f : Face) : Nat :=
  (s.fitted f).countP (fun j => (s.door f j).state ≠ some .locked)

/-- Gap zones of the face in OCCUPIED, CLEARING or LATCHED (R119). -/
def State.zoneCount (s : State) (f : Face) : Nat :=
  (s.fitted f).countP (fun j => (s.sense f j).zone.withholds)

/-- CLP of a face by the law of R119, from its inputs as they stand: the withholding causes, the counts, and
the value, asserted when no cause holds. -/
def State.computeClp (s : State) (f : Face) : Clp :=
  let notLocked := s.notLockedCount f
  let zones := s.zoneCount f
  let emergency := (s.face f).mode.latch
  let moved := (s.face f).berth.state = .movedFault
  { value := !s.configInvalid && notLocked = 0 && zones = 0 && !emergency && !moved
    config := s.configInvalid
    door := notLocked ≠ 0
    gap := zones ≠ 0
    emergency := emergency
    moved := moved
    notLocked := notLocked
    zones := zones }

/-- Recompute CLP of a face (R120). A change of value makes a CLP_CHANGE report (R121) and is handed to the
Dwell Program Engine (R139). Nothing is computed before the first complete scan (R122). -/
def State.recomputeClp (f : Face) (subject : Option DoorIx) (s : State) : State :=
  if s.scanDone then
    let c := s.computeClp f
    let t := s.mapFace f (fun x => { x with clp := c })
    if c.value = (s.face f).clp.value then t
    else
      (t.report .safety .clpChange f (subject.map Fin.val)
        [flag c.value, c.causes, b8 c.notLocked, b8 c.zones]).tell (.clp f)
  else s

/-- The CLP line of a face is active (R121, R122); no line is driven without power (log 8). -/
def State.clpLine (s : State) (f : Face) : Bool := s.powered && (s.face f).clp.value

end Sys2Proof.Machine
end

