-- ==== Sys2Proof/Machine/Sensing.lean ====
section
/-! DEFINITION. Trackers and counts, the quiet condition, gap zones and the Gap History Ring (chapter 3). -/

namespace Sys2Proof.Machine

/-! ### Trackers and counts (section 3.2) -/

/-- The tracker runs in these door unit states (R42). -/
def DoorState.trackerRuns : DoorState → Bool
  | .opening | .standOpen | .closeWait | .recloseHold | .obstructed => true
  | .locked | .unlatching | .unlatched | .closing | .reversing | .locking | .released | .fault => false

/-- The tracker runs; not where there is no state yet (R42, R59). -/
def trackerRuns (st : Option DoorState) : Bool := (st.map DoorState.trackerRuns).getD false

/-- The table of R43: the tracker state after a change, from the beam values the change brings. -/
def Tracker.step : Tracker → (dwa dwb : Bool) → Tracker
  | _, false, false => .clear
  | .clear, true, false => .a
  | .clear, false, true => .b
  | .clear, true, true => .clear
  | .a, true, false => .a
  | .a, false, true => .b
  | .a, true, true => .abFromA
  | .b, true, false => .a
  | .b, false, true => .b
  | .b, true, true => .abFromB
  | .abFromA, true, false => .a
  | .abFromA, false, true => .tailFromA
  | .abFromA, true, true => .abFromA
  | .abFromB, true, false => .tailFromB
  | .abFromB, false, true => .b
  | .abFromB, true, true => .abFromB
  | .tailFromA, true, false => .a
  | .tailFromA, false, true => .tailFromA
  | .tailFromA, true, true => .abFromA
  | .tailFromB, true, false => .tailFromB
  | .tailFromB, false, true => .b
  | .tailFromB, true, true => .abFromB

/-- A BOARDING passage at a door unit of the Door Map (R44). -/
def State.countBoarding (f : Face) (j : DoorIx) (s : State) : State :=
  if s.served f j then
    (s.mapSense f j (fun d => { d with boarding := sat16 (d.boarding + 1) })).mapFace f
      (fun x => { x with boarding := sat16 (x.boarding + 1) })
  else s

/-- An ALIGHTING passage at a door unit of the Door Map (R44). -/
def State.countAlighting (f : Face) (j : DoorIx) (s : State) : State :=
  if s.served f j then
    (s.mapSense f j (fun d => { d with alighting := sat16 (d.alighting + 1) })).mapFace f
      (fun x => { x with alighting := sat16 (x.alighting + 1) })
  else s

/-- A change of DWA or DWB moves a running tracker, and a completed passage is counted (R43, R44). -/
def State.moveTracker (f : Face) (j : DoorIx) (s : State) : State :=
  if trackerRuns (s.door f j).state then
    let t := (s.sense f j).tracker
    let i := s.input f j
    let s' := s.mapSense f j (fun d => { d with tracker := t.step i.dwa i.dwb })
    if i.dwa || i.dwb then s'
    else match t with
      | .tailFromA => s'.countBoarding f j
      | .tailFromB => s'.countAlighting f j
      | _ => s'
  else s

/-- All counts of a face become 0 at an arrival at STOPPED (R45). -/
def State.clearCounts (f : Face) (s : State) : State :=
  s.mapFace f (fun x => { x with
    boarding := 0
    alighting := 0
    sense := x.sense.map (fun d => { d with boarding := 0, alighting := 0 }) })

/-! ### The quiet condition (section 3.3) -/

/-- Give the quiet condition a value; a change is handed to the Dwell Program Engine (R47). -/
def State.setQuiet (f : Face) (v : Bool) (s : State) : State :=
  if (s.face f).quiet = v then s
  else (s.mapFace f (fun x => { x with quiet := v })).tell (.quiet f)

/-- The quiet condition becomes false and the quiet timer is restarted (R46). -/
def State.restartQuiet (f : Face) (s : State) : State :=
  (s.mapFace f (fun x => { x with quietTimer := some (s.startTimer (s.par f).quietTime) })).setQuiet f false

/-- The quiet condition becomes false and the quiet timer is stopped (R46). -/
def State.stopQuiet (f : Face) (s : State) : State :=
  (s.mapFace f (fun x => { x with quietTimer := none })).setQuiet f false

/-- The Door Map of the face has been written or cleared (R46). -/
def State.quietOfMap (f : Face) (s : State) : State :=
  if (s.map f).isEmpty then s.stopQuiet f else s.restartQuiet f

/-! ### Gap zones and the Gap History Ring (sections 3.6, 3.7) -/

/-- A GAP_EVENT report (R55, R169). -/
def State.reportGap (c : ReportClass) (f : Face) (j : DoorIx) (event what : Byte) (duration : Option Nat)
    (slot : Option (Fin 64)) (s : State) : State :=
  s.report c .gapEvent f (some j.val)
    ([event, what] ++ opt16 duration ++ [opt8 (slot.map (fun i => b8 i.val))])

/-- The ring slot of the open episode of a door unit's zone, if it has one (R57). -/
def State.openSlot (s : State) (f : Face) (j : DoorIx) : Option (Fin 64) :=
  (s.sense f j).episode.bind Episode.slot

/-- A zone forgets a ring slot that is overwritten (R57). -/
def DoorSense.dropSlot (slot : Fin 64) (d : DoorSense) : DoorSense :=
  match d.episode with
  | some e => if e.slot = some slot then { d with episode := some { e with slot := none } } else d
  | none => d

/-- The slot that the next onset writes (R56). -/
def State.nextSlot (s : State) (f : Face) : Fin 64 :=
  match (s.face f).newest with
  | none => 0
  | some i => i + 1

/-- An onset: a new record after the newest, and an open episode of the zone that keeps its slot (R56, R57). -/
def State.onset (f : Face) (j : DoorIx) (s : State) : State :=
  let slot := s.nextSlot f
  (s.mapFace f (fun x => { x with
    ring := put x.ring slot (some ⟨j, s.msClock, none⟩)
    newest := some slot
    sense := x.sense.map (DoorSense.dropSlot slot) })).mapSense f j
      (fun d => { d with episode := some ⟨s.msClock, some slot⟩ })

/-- Write the state of a zone, its clearing timer stopped. -/
def State.putZone (f : Face) (j : DoorIx) (z : Zone) (s : State) : State :=
  s.mapSense f j (fun d => { d with zone := z, clearing := none })

/-- A zone enters OCCUPIED: from IDLE or WATCH it is the onset of an episode (R51, R52, R55). That GAP_EVENT is reported
before the CLP_CHANGE of the same zone change is the model's choice (log 42). -/
def State.occupyZone (f : Face) (j : DoorIx) (s : State) : State :=
  let s1 := match (s.sense f j).zone with
    | .idle | .watch => s.onset f j
    | .occupied | .clearing | .latched => s
  let s2 := s1.putZone f j .occupied
  (s2.reportGap .safety f j 0 Zone.occupied.code none (s2.openSlot f j)).recomputeClp f (some j)

/-- Complete the record of an ended episode in the slot its zone kept (R57). -/
def State.completeRecord (f : Face) (e : Episode) (outcome : EpisodeOutcome) (s : State) : State :=
  match e.slot with
  | none => s
  | some slot => s.mapFace f (fun x => { x with
      ring := put x.ring slot
        (x.ring[slot].map (fun r => { r with ended := some (sat16 (elapsedMs s.msClock e.onset), outcome) })) })

/-- A zone enters WATCH or IDLE, and its open episode, if it has one, ends (R52 to R55, R57); GAP_EVENT before CLP_CHANGE
is log 42. -/
def State.leaveZone (f : Face) (j : DoorIx) (z : Zone) (outcome : EpisodeOutcome) (s : State) : State :=
  let s1 := match (s.sense f j).episode with
    | none => s.putZone f j z
    | some e =>
      let s2 := ((s.completeRecord f e outcome).putZone f j z).mapSense f j (fun d => { d with episode := none })
      s2.reportGap .sensing f j 2 outcome.code (some (sat16 (elapsedMs s.msClock e.onset))) e.slot
  s1.recomputeClp f (some j)

/-- A zone is disarmed (R53). -/
def State.disarmZone (f : Face) (j : DoorIx) (s : State) : State :=
  if (s.sense f j).zone = .idle then s else s.leaveZone f j .idle .disarmed

/-- A zone arms when its door unit enters CLOSING while it is in the Door Map (R51). -/
def State.armZone (f : Face) (j : DoorIx) (s : State) : State :=
  if s.served f j && (s.sense f j).zone = .idle then
    if (s.input f j).gap then s.occupyZone f j
    else (s.putZone f j .watch).recomputeClp f (some j)
  else s

/-- A change of GAP moves an armed zone (R52). -/
def State.gapChanged (f : Face) (j : DoorIx) (s : State) : State :=
  match (s.sense f j).zone, (s.input f j).gap with
  | .watch, true => s.occupyZone f j
  | .clearing, true => s.occupyZone f j
  | .latched, true => s.occupyZone f j
  | .occupied, false =>
    ((s.putZone f j .clearing).mapSense f j
      (fun d => { d with clearing := some (s.startTimer (s.par f).gapClearTime) })).recomputeClp f (some j)
  | _, _ => s

/-- The clearing timer of a zone in CLEARING expires (R52); GAP_EVENT before CLP_CHANGE is log 42. -/
def State.clearingExpired (f : Face) (j : DoorIx) (s : State) : State :=
  if (s.par f).gapLatch then
    let s1 := s.putZone f j .latched
    (s1.reportGap .sensing f j 1 Zone.latched.code none (s1.openSlot f j)).recomputeClp f (some j)
  else s.leaveZone f j .watch .cleared

end Sys2Proof.Machine
end

