-- ==== Sys2Proof/Machine/Doors.lean ====
section
/-! DEFINITION. Entering a door unit state: the record, its timer and report, and what the Passenger Sensing Unit,
the Proof Logic and the Dwell Program Engine are told (sections 1.2, 1.3, 1.11). -/

namespace Sys2Proof.Machine

/-- The duration of a timed state, read from the Face Parameter Set at entry (R8). -/
def Params.stateTime (p : Params) : DoorState → Option Nat
  | .unlatching => some p.lockWithdrawTimeout
  | .unlatched => some p.unlatchSettle
  | .opening => some p.openTimeout
  | .reversing => some p.openTimeout
  | .closing => some p.closeTimeout
  | .recloseHold => some p.recloseDelay
  | .locking => some p.lockEngageTimeout
  | .locked | .standOpen | .closeWait | .obstructed | .released | .fault => none

/-- Entering these states sets reclose attempts to 0 (R7). -/
def DoorState.clearsAttempts : DoorState → Bool
  | .locked | .standOpen | .released | .fault => true
  | .unlatching | .unlatched | .opening | .closeWait | .closing | .reversing | .recloseHold | .obstructed
  | .locking => false

/-- Entering these states clears pending close (R7). -/
def DoorState.clearsPending : DoorState → Bool
  | .standOpen | .closeWait | .locking | .locked | .released | .fault => true
  | .unlatching | .unlatched | .opening | .closing | .reversing | .recloseHold | .obstructed => false

/-- Entering these states makes the request class absent (R7). -/
def DoorState.clearsClass : DoorState → Bool
  | .standOpen | .closeWait | .recloseHold | .obstructed | .locking | .locked | .released | .fault => true
  | .unlatching | .unlatched | .opening | .closing | .reversing => false

/-- The Door Unit Record on entry to a state (R7, R8). A fault cause stays only in FAULT. -/
def DoorRec.enter (st : DoorState) (now : Ms) (p : Params) (d : DoorRec) : DoorRec where
  state := some st
  cause := if st = .fault then d.cause else none
  attempts := if st.clearsAttempts then 0 else d.attempts
  pendingClose := if st.clearsPending then false else d.pendingClose
  reqClass := if st.clearsClass then none else d.reqClass
  entryTime := now
  timer := (p.stateTime st).map (fun t => ⟨now, t⟩)

/-- A DOOR_EVENT report with the record as it stands (R28, R169). -/
def State.reportDoor (f : Face) (j : DoorIx) (s : State) : State :=
  let d := s.door f j
  s.report .door .doorEvent f (some j.val)
    [opt8 (d.state.map DoorState.code), opt8 (d.cause.map FaultCause.code), b8 d.attempts, flag (s.isolated f j)]

/-- A change of state is reported (R28): entry to a listed state, entry to REVERSING as a reversal by
obstruction, and leaving FAULT or RELEASED. -/
def eventReported (old : Option DoorState) (st : DoorState) (cls : Option ReqClass) : Bool :=
  match st with
  | .locked | .standOpen | .obstructed | .released | .fault => true
  | .reversing => cls.isNone || old = some .fault || old = some .released
  | .unlatching | .unlatched | .opening | .closeWait | .closing | .recloseHold | .locking =>
    old = some .fault || old = some .released

/-- The tracker starts or stops with the door unit's state (R42). -/
def State.senseTracker (f : Face) (j : DoorIx) (old : Option DoorState) (st : DoorState) (s : State) : State :=
  if st.trackerRuns then
    if trackerRuns old then s
    else
      let i := s.input f j
      s.mapSense f j (fun d => { d with tracker := Tracker.clear.step i.dwa i.dwb })
  else s.mapSense f j (fun d => { d with tracker := .clear })

/-- A running deferral is cancelled when the door unit leaves CLOSE_WAIT (R49). -/
def State.senseDeferral (f : Face) (j : DoorIx) (s : State) : State :=
  s.mapSense f j (fun d => { d with deferral := none })

/-- The gap zone is disarmed on OPENING and REVERSING (R53) and armed on CLOSING (R51). -/
def State.senseZone (f : Face) (j : DoorIx) (st : DoorState) (s : State) : State :=
  match st with
  | .opening | .reversing => s.disarmZone f j
  | .closing => s.armZone f j
  | .locked | .unlatching | .unlatched | .standOpen | .closeWait | .recloseHold | .obstructed | .locking
  | .released | .fault => s

/-- A door unit enters a state, its Start Queue entry and CLP apart: the record, edited by the event and then
set as R7 gives, the report of R28, and the Passenger Sensing Unit. -/
def State.enterState (f : Face) (j : DoorIx) (st : DoorState) (edit : DoorRec → DoorRec) (s : State) : State :=
  let old := (s.door f j).state
  let s1 := s.mapDoor f j (fun d => (edit d).enter st s.msClock (s.par f))
  let s2 := if eventReported old st (s1.door f j).reqClass then s1.reportDoor f j else s1
  ((s2.senseTracker f j old st).senseDeferral f j).senseZone f j st

/-- A door unit enters a state, its Start Queue entry apart; the Proof Logic and the Dwell Program Engine are
told (R28, R120). R28 and R121 do not order the reports of one event; that CLP_CHANGE follows the DOOR_EVENT, and a
GAP_EVENT of a zone disarmed, is the model's choice (log 42). -/
def State.enterTold (f : Face) (j : DoorIx) (st : DoorState) (edit : DoorRec → DoorRec) (s : State) : State :=
  ((s.enterState f j st edit).recomputeClp f (some j)).tell (.door f j st)

end Sys2Proof.Machine
end

