-- ==== Sys2Proof/Machine/Arbiter.lean ====
section
/-! DEFINITION. The Group Start Arbiter: Start Queues, Start Histories and grants (chapter 2), and the reversals
that it records (R20, R34). -/

namespace Sys2Proof.Machine

/-- Starts held in a Start History (R36). -/
def Group.starts (g : Group) : Nat := (List.finRange 4).countP (fun i => g.history[i].isSome)

/-- The slot that the next start is recorded in: an empty one, or else the one of the oldest start held (R34). Of several
empty or equally old ones it is the lowest (log 14). -/
def Group.startSlot (g : Group) (now : Ms) : Fin 4 :=
  match (List.finRange 4).find? (fun i => g.history[i].isNone) with
  | some i => i
  | none =>
    let age (i : Fin 4) : Nat := (g.history[i].map (fun t => elapsedMs now t.start)).getD 0
    (List.finRange 4).foldl (fun best i => if age best < age i then i else best) 0

/-- Record a start in the Start History of a group, with the window in force (R34, R38). -/
def State.recordStart (f : Face) (g : GroupIx) (s : State) : State :=
  s.mapGroup f g (fun x => { x with
    history := put x.history (x.startSlot s.msClock) (some (s.startTimer (s.par f).startWindow)) })

/-- An obstruction event, taken in CLOSING: one attempt more, a reversal by obstruction, and its start recorded
(R20). In any other state it has no effect. -/
def State.obstruct (f : Face) (j : DoorIx) (s : State) : State :=
  if (s.door f j).state = some .closing then
    (s.enterTold f j .reversing (fun d => { d with attempts := d.attempts + 1, reqClass := none })).recordStart f
      (s.groupOf f j)
  else s

/-- The door unit enters CLOSING, and an EDGE already active hands an obstruction event (R50). The reversal and its start are
made before the group is evaluated again; R36 and R50 both say at once and give no order (log 54). -/
def State.enterClosing (f : Face) (j : DoorIx) (s : State) : State :=
  let s1 := s.enterTold f j .closing id
  if (s1.input f j).edge then s1.obstruct f j else s1

/-- The head entry of a group may be granted: no spacing hold runs and the history holds fewer than four starts
(R36). -/
def Group.mayGrant (g : Group) : Bool := g.spacing.isNone && g.starts < 4

/-- The spacing hold started at a grant; a start_spacing of 0 starts none (R35). -/
def State.spacingStart (s : State) (f : Face) : Option Timer :=
  if (s.par f).startSpacing = 0 then none else some (s.startTimer (s.par f).startSpacing)

/-- Evaluate the grant of a group once, and perform it when both conditions hold (R36). A reversal that a granted CLOSE makes at
once belongs to the grant, before any further evaluation (log 54). -/
def State.grantOnce (f : Face) (g : GroupIx) (s : State) : State :=
  match (s.group f g).queue with
  | [] => s
  | e :: rest =>
    if (s.group f g).mayGrant then
      let s1 := (s.mapGroup f g (fun x => { x with queue := rest })).recordStart f g
      let s2 := s1.mapGroup f g (fun x => { x with spacing := s.spacingStart f })
      match e.motion with
      | .open_ => s2.enterTold f e.door .opening id
      | .close => s2.enterClosing f e.door
    else s

/-- Evaluate the grant of a group (R36). With start_spacing 0 it is evaluated again after each grant, and the
four slots of the history bound the grants of one moment. Each evaluation counts the starts of the reversals that the grants
before it made at once (R50, log 54). -/
def State.evalGrants (f : Face) (g : GroupIx) (s : State) : State :=
  (((s.grantOnce f g).grantOnce f g).grantOnce f g).grantOnce f g

/-- A queue with an entry joined to the tail of its class, EMERGENCY entries first (R30, R31). -/
def joinQueue (e : Entry) (q : List Entry) : List Entry :=
  match e.cls with
  | .normal => q ++ [e]
  | .emergency => q.takeWhile (fun x => x.cls = .emergency) ++ e :: q.dropWhile (fun x => x.cls = .emergency)

/-- Evaluate the grant of a group if a door unit's entry is its head (R31, R32). -/
def State.evalIfHead (f : Face) (g : GroupIx) (j : DoorIx) (s : State) : State :=
  if ((s.group f g).queue.head?.map Entry.door) = some j then s.evalGrants f g else s

/-- Place an entry in the Start Queue of the door unit's power group (R31). -/
def State.placeEntry (f : Face) (j : DoorIx) (m : Motion) (c : ReqClass) (s : State) : State :=
  let g := s.groupOf f j
  (s.mapGroup f g (fun x => { x with queue := joinQueue ⟨j, m, c, s.msClock⟩ x.queue })).evalIfHead f g j

/-- Remove the entry of a door unit, if it holds one; a new head is evaluated at once (R33). -/
def State.removeEntry (f : Face) (j : DoorIx) (s : State) : State :=
  let g := s.groupOf f j
  let q := (s.group f g).queue
  let s1 := s.mapGroup f g (fun x => { x with queue := x.queue.filter (fun e => e.door ≠ j) })
  if (q.head?.map Entry.door) = some j then s1.evalGrants f g else s1

/-- Move a NORMAL OPEN entry of a door unit to the tail of the EMERGENCY class, its enqueue time kept (R32). -/
def State.raiseEntry (f : Face) (j : DoorIx) (s : State) : State :=
  let g := s.groupOf f j
  match (s.group f g).queue.find? (fun e => e.door = j && e.motion = .open_ && e.cls = .normal) with
  | none => s
  | some e =>
    (s.mapGroup f g (fun x => { x with
      queue := joinQueue { e with cls := .emergency } (x.queue.filter (fun y => y.door ≠ j)) })).evalIfHead f g j

end Sys2Proof.Machine
end

