-- ==== Sys2Proof/Machine/DoorRequests.lean ====
section
/-! DEFINITION. The Door Unit Controller: requests (section 1.4), entry to states with their consequences, input
changes and timeouts (sections 1.3, 1.5, 1.6), and resolution from sensors (section 1.7). -/

namespace Sys2Proof.Machine

/-! ### Entries to UNLATCHED and CLOSE_WAIT -/

/-- unlatch_settle has passed: an OPEN entry is placed in the class of the request class (R10). -/
def State.openEntry (f : Face) (j : DoorIx) (s : State) : State :=
  (s.mapDoor f j (fun d => { d with timer := none })).placeEntry f j .open_
    (((s.door f j).reqClass).getD .normal)

/-- The door unit enters UNLATCHED; an unlatch_settle of 0 expires at entry (R8, R10). -/
def State.enterUnlatched (f : Face) (j : DoorIx) (s : State) : State :=
  let t := s.enterTold f j .unlatched id
  if (s.par f).unlatchSettle = 0 then t.openEntry f j else t

/-- Deferral ends: the CLOSE entry is placed (R12, R48, R49). -/
def State.closeEntry (f : Face) (j : DoorIx) (s : State) : State :=
  (s.mapSense f j (fun d => { d with deferral := none })).placeEntry f j .close .normal

/-- A door unit in CLOSE_WAIT is handed to the Passenger Sensing Unit, which decides its deferral (R48). -/
def State.decideDeferral (f : Face) (j : DoorIx) (s : State) : State :=
  let i := s.input f j
  let limit := (s.par f).doorwayDeferLimit
  if limit = 0 || (!i.dwa && !i.dwb) then s.closeEntry f j
  else s.mapSense f j (fun d => { d with deferral := some (s.startTimer limit) })

/-- A door unit enters a state with everything that follows at once: its record, report and neighbours, the
removal of a Start Queue entry it holds (R33), the pass to UNLATCHED when the lock is already withdrawn (R9),
and the decision of deferral (R12). -/
def State.enter (f : Face) (j : DoorIx) (st : DoorState) (edit : DoorRec → DoorRec) (s : State) : State :=
  let t := (s.enterTold f j st edit).removeEntry f j
  match st with
  | .unlatching => if (s.input f j).lockEngaged then t else t.enterUnlatched f j
  | .closeWait => t.decideDeferral f j
  | .unlatched => t
  | .locked => t
  | .opening => t
  | .standOpen => t
  | .closing => t
  | .reversing => t
  | .recloseHold => t
  | .obstructed => t
  | .locking => t
  | .released => t
  | .fault => t

/-- A door unit enters FAULT with a cause (R15). -/
def State.enterFault (f : Face) (j : DoorIx) (c : FaultCause) (s : State) : State :=
  s.enter f j .fault (fun d => { d with cause := some c })

/-! ### Requests (R16 to R19) -/

/-- The permission for a door unit to leave LOCKED, its four cases in order (R19). -/
def State.permits (s : State) (f : Face) (j : DoorIx) : Bool :=
  let m := (s.face f).mode
  let b := s.berth f
  ((m.mode = .automatic || m.mode = .supervised) && s.served f j && b.state = .stopped && b.release)
    || m.latch
    || (m.mode = .local_ && m.key = .localOpen && b.state ≠ .empty)
    || (m.mode = .maintenance && m.possession && b.state = .empty)

/-- The record of a door unit on its way to open after an OPEN or EMERGENCY OPEN: pending close is cleared, and
EMERGENCY raises the request class (R17, R18). -/
def DoorRec.askOpen (c : ReqClass) (d : DoorRec) : DoorRec :=
  { d with
    pendingClose := false
    reqClass := if c = .emergency then some .emergency else d.reqClass }

/-- The record of a REVERSING door unit after an OPEN or EMERGENCY OPEN: a reversal by obstruction becomes a
reversal by request with attempts 0 (R17, R18). -/
def DoorRec.askReverse (c : ReqClass) (d : DoorRec) : DoorRec :=
  { d with
    pendingClose := false
    attempts := if d.reqClass.isNone then 0 else d.attempts
    reqClass := if c = .emergency || d.reqClass.isNone then some c else d.reqClass }

/-- A record whose door unit starts toward open with a request class (R7, R17). -/
def DoorRec.startOpen (c : ReqClass) (d : DoorRec) : DoorRec :=
  { d with pendingClose := false, reqClass := some c }

/-- OPEN or EMERGENCY OPEN decided by the request table, after the checks of R16 (R17, R18). -/
def State.takeOpen (f : Face) (j : DoorIx) (c : ReqClass) (s : State) : State × ResultCode :=
  match (s.door f j).state with
  | none => (s, .notAvailable)
  | some .released => (s, .notAvailable)
  | some .fault => (s, .notAvailable)
  | some .locked =>
    if s.permits f j then (s.enter f j .unlatching (DoorRec.startOpen c), .accept) else (s, .noRelease)
  | some .locking =>
    if s.permits f j then (s.enter f j .unlatching (DoorRec.startOpen c), .accept) else (s, .noRelease)
  | some .unlatching => (s.mapDoor f j (DoorRec.askOpen c), .accept)
  | some .opening => (s.mapDoor f j (DoorRec.askOpen c), .accept)
  | some .unlatched =>
    let t := s.mapDoor f j (DoorRec.askOpen c)
    (if c = .emergency then t.raiseEntry f j else t, .accept)
  | some .standOpen => (s.mapDoor f j (fun d => { d with pendingClose := false }), .accept)
  | some .closeWait => (s.enter f j .standOpen id, .accept)
  | some .recloseHold => (s.enter f j .standOpen id, .accept)
  | some .obstructed => (s.enter f j .standOpen id, .accept)
  | some .closing =>
    ((s.enter f j .reversing (DoorRec.startOpen c)).recordStart f (s.groupOf f j), .accept)
  | some .reversing => (s.mapDoor f j (DoorRec.askReverse c), .accept)

/-- CLOSE decided by the request table, after the checks of R16 (R17). -/
def State.takeClose (f : Face) (j : DoorIx) (s : State) : State × ResultCode :=
  match (s.door f j).state with
  | none => (s, .notAvailable)
  | some .released => (s, .notAvailable)
  | some .fault => (s, .notAvailable)
  | some .unlatching => (s.enter f j .locking id, .accept)
  | some .unlatched => (s.enter f j .locking id, .accept)
  | some .opening => (s.mapDoor f j (fun d => { d with pendingClose := true }), .accept)
  | some .standOpen => (s.enter f j .closeWait id, .accept)
  | some .obstructed => (s.enter f j .closeWait (fun d => { d with attempts := 0 }), .accept)
  | some .reversing =>
    (if (s.door f j).reqClass.isSome then s.mapDoor f j (fun d => { d with pendingClose := true }) else s, .accept)
  | some .locked => (s, .accept)
  | some .closeWait => (s, .accept)
  | some .closing => (s, .accept)
  | some .recloseHold => (s, .accept)
  | some .locking => (s, .accept)

/-- One request reaches one door unit: its new state and the result that goes back to the source (R16). A door
unit with no state yet refuses every request (R27, log 27). -/
def State.request (f : Face) (j : DoorIx) (r : DoorRequest) (s : State) : State × ResultCode :=
  if (s.door f j).state.isNone then (s, .notAvailable)
  else if s.isolated f j then (s, .isolated)
  else match r with
    | .close => if (s.face f).mode.latch then (s, .emergencyActive) else s.takeClose f j
    | .open_ => s.takeOpen f j .normal
    | .emergencyOpen => s.takeOpen f j .emergency

/-- A request for each of several door units, one by one in the order given (R16); the results are disregarded. -/
def State.requestEach (f : Face) (js : List DoorIx) (r : DoorRequest) (s : State) : State :=
  forEach js (fun j s => (s.request f j r).1) s

/-- A request for each of several door units, with the result of each (R16). -/
def State.requestAll (f : Face) (r : DoorRequest) : List DoorIx → State → State × List (DoorIx × ResultCode)
  | [], s => (s, [])
  | j :: js, s =>
    let a := s.request f j r
    let b := a.1.requestAll f r js
    (b.1, (j, a.2) :: b.2)

/-! ### Resolution from sensors (section 1.7) -/

/-- The table of R24. -/
def resolutionTable (i : DoorInputs) : DoorState × Option FaultCause :=
  if (i.leafOpen && i.leafClosed) || (i.lockEngaged && !i.leafClosed) then (.fault, some .sensorConflict)
  else if i.mrh then (.released, none)
  else if i.leafClosed && i.lockEngaged then (.locked, none)
  else if i.leafClosed then (.locking, none)
  else if i.leafOpen then (.standOpen, none)
  else (.fault, some .positionUnknown)

/-- The state that resolution finds, with the isolated form and, for LOCKING, the emergency form (R24). -/
def State.resolution (s : State) (f : Face) (j : DoorIx) : DoorState × Option FaultCause :=
  let r := resolutionTable (s.input f j)
  if s.isolated f j then
    if r.1 = .locking then (.fault, some .lockLost)
    else if r.1 = .standOpen then (.fault, some .positionUnknown)
    else r
  else if (s.face f).mode.latch && r.1 = .locking then (.released, none)
  else r

/-- Under the emergency latch a door unit that is not isolated, resolved to LOCKED in an active section, is given
an EMERGENCY OPEN at once (R24). -/
def State.emergencyIfLocked (f : Face) (j : DoorIx) (s : State) : State :=
  if (s.face f).mode.latch && !s.isolated f j && (s.door f j).state = some .locked && s.sectionActive f j then
    (s.request f j .emergencyOpen).1
  else s

/-- Resolve a door unit from its sensors and enter the state found. A door unit that keeps RELEASED under the
latch is left as it is (R23, R24). One that a DOOR RESET finds in FAULT again enters FAULT afresh, with a new state entry
time (R26, log 39). -/
def State.resolve (f : Face) (j : DoorIx) (s : State) : State :=
  let r := s.resolution f j
  if r.1 = .released && (s.door f j).state = some .released then s
  else (s.enter f j r.1 (fun d => { d with cause := r.2 })).emergencyIfLocked f j

/-- Resolve door units that become fitted, or all at the first complete scan: the states found are entered, CLP
is recomputed once with no subject, and the emergency form follows in ascending index order (R24, R27, R66, R120, R122; the
order is log 25). -/
def State.resolveNew (f : Face) (js : List DoorIx) (s : State) : State :=
  let one (j : DoorIx) (s : State) : State :=
    let r := s.resolution f j
    (s.enterState f j r.1 (fun d => { d with cause := r.2 })).tell (.door f j r.1)
  forEach js (State.emergencyIfLocked f) ((forEach js one s).recomputeClp f none)

/-! ### Input changes (R13, R14, R20 to R23) -/

/-- The end of an opening: LEAF_OPEN has become active in OPENING, or in REVERSING of a reversal by request
(R11). -/
def State.reachedOpen (f : Face) (j : DoorIx) (s : State) : State :=
  if (s.door f j).pendingClose then s.enter f j .closeWait id else s.enter f j .standOpen id

/-- The end of a reversal by obstruction (R21). -/
def State.reversalEnds (f : Face) (j : DoorIx) (s : State) : State :=
  if (s.door f j).attempts < (s.par f).recloseMax then s.enter f j .recloseHold id
  else s.enter f j .obstructed id

/-- The state's own rules for an input change that has passed the position checks, from the levels before and
after it (R9 to R13, R21). -/
def State.ownChange (f : Face) (j : DoorIx) (old new : DoorInputs) (s : State) : State :=
  let lockRises := !old.lockEngaged && new.lockEngaged
  let lockFalls := old.lockEngaged && !new.lockEngaged
  let openRises := !old.leafOpen && new.leafOpen
  let closedRises := !old.leafClosed && new.leafClosed
  match (s.door f j).state with
  | some .locked => if lockFalls && !new.mrh then s.enterFault f j .lockLost else s
  | some .unlatching => if lockFalls then s.enterUnlatched f j else s
  | some .unlatched => if lockRises then s.enter f j .unlatching id else s
  | some .opening => if openRises then s.reachedOpen f j else s
  | some .reversing =>
    if openRises then
      if (s.door f j).reqClass.isSome then s.reachedOpen f j else s.reversalEnds f j
    else s
  | some .closing => if closedRises then s.enter f j .locking id else s
  | some .locking => if lockRises then s.enter f j .locked id else s
  | some .standOpen => s
  | some .closeWait => s
  | some .recloseHold => s
  | some .obstructed => s
  | some .released => s
  | some .fault => s
  | none => s

/-- The door unit holds its leaves open (R14, case 2). -/
def DoorState.holdsOpen : DoorState → Bool
  | .standOpen | .closeWait | .recloseHold | .obstructed => true
  | .locked | .unlatching | .unlatched | .opening | .closing | .reversing | .locking | .released | .fault => false

/-- The position checks of R14 and then the state's own rules. -/
def State.checkPosition (f : Face) (j : DoorIx) (old new : DoorInputs) (s : State) : State :=
  match (s.door f j).state with
  | none => s
  | some st =>
    if st = .released || st = .fault then s
    else if (new.leafOpen && new.leafClosed) || (new.lockEngaged && !new.leafClosed) then
      s.enterFault f j .sensorConflict
    else if st.holdsOpen && !old.leafClosed && new.leafClosed && !new.leafOpen then
      s.enterFault f j .positionUnknown
    else s.ownChange f j old new

/-- The Door Unit Controller takes an input change of a fitted door unit: manual release first (R22, R23), then
the position checks (R14). -/
def State.takeInputs (f : Face) (j : DoorIx) (old new : DoorInputs) (s : State) : State :=
  if !old.mrh && new.mrh then
    if (s.door f j).state = some .released then s.reportDoor f j else s.enter f j .released id
  else if old.mrh && !new.mrh && (s.door f j).state = some .released then s.resolve f j
  else s.checkPosition f j old new

/-- The leaf, lock and handle levels of an input change put in the debounced values. -/
def withLeaf (v : LeafSignals) (i : DoorInputs) : DoorInputs :=
  { i with leafClosed := v.leafClosed, leafOpen := v.leafOpen, lockEngaged := v.lockEngaged, mrh := v.mrh }

/-- The edge, doorway and gap levels of an input change put in the debounced values. -/
def withSense (v : SenseSignals) (i : DoorInputs) : DoorInputs :=
  { i with edge := v.edge, dwa := v.dwa, dwb := v.dwb, gap := v.gap }

/-- An input change for the Door Unit Controller (R4, R5, R14). -/
def State.doorChange (f : Face) (j : DoorIx) (v : LeafSignals) (s : State) : State :=
  let old := s.input f j
  let t := s.mapInput f j (withLeaf v)
  if s.isFitted f j then t.takeInputs f j old (withLeaf v old) else t

/-- A running deferral ends on an input change after which both beams are inactive (R49). -/
def State.deferralEnds (s : State) (f : Face) (j : DoorIx) (new : DoorInputs) : Bool :=
  (s.sense f j).deferral.isSome && !new.dwa && !new.dwb

/-- The Passenger Sensing Unit takes an input change of a fitted door unit whole: tracker, quiet condition and gap zone,
and then what it hands to the Door Unit Controller, an obstruction event and the end of deferral. A state that the door
unit enters through them reaches the unit after all of the change (R41; order, log 10). -/
def State.takeSense (f : Face) (j : DoorIx) (old new : DoorInputs) (s : State) : State :=
  let beams := old.dwa ≠ new.dwa || old.dwb ≠ new.dwb
  let s1 := if beams then s.moveTracker f j else s
  let s2 := if beams && s1.served f j then s1.restartQuiet f else s1
  let s3 := if old.gap ≠ new.gap then s2.gapChanged f j else s2
  let s4 := if !old.edge && new.edge then s3.obstruct f j else s3
  if s.deferralEnds f j new then s4.closeEntry f j else s4

/-- An input change for the Passenger Sensing Unit (R4, R5, R41). -/
def State.senseChange (f : Face) (j : DoorIx) (v : SenseSignals) (s : State) : State :=
  let old := s.input f j
  let t := s.mapInput f j (withSense v)
  if s.isFitted f j then t.takeSense f j old (withSense v old) else t

/-! ### Timers of a door unit (R8) -/

/-- The cause of a timeout in a state (R8). -/
def DoorState.timeoutCause : DoorState → Option FaultCause
  | .unlatching => some .lockWithdrawTimeout
  | .opening => some .openTimeout
  | .reversing => some .openTimeout
  | .closing => some .closeTimeout
  | .locking => some .lockEngageTimeout
  | .locked | .unlatched | .standOpen | .closeWait | .recloseHold | .obstructed | .released | .fault => none

/-- The deferral timer has expired (R49). -/
def State.deferralExpired (f : Face) (j : DoorIx) (s : State) : State := s.closeEntry f j

/-- UNLATCHED and CLOSE_WAIT door units after FACE RESET has emptied the queues (R27, R60). -/
def State.afterFaceReset (f : Face) (j : DoorIx) (s : State) : State :=
  match (s.door f j).state with
  | some .unlatched =>
    let t := s.mapDoor f j (fun d => { d with timer := some (s.startTimer (s.par f).unlatchSettle) })
    if (s.par f).unlatchSettle = 0 then t.openEntry f j else t
  | some .closeWait => s.decideDeferral f j
  | _ => s

end Sys2Proof.Machine
end

