-- ==== Sys2Proof/Machine/Release.lean ====
section
/-! DEFINITION. An OPEN whose selection is taken with the Door Map: issued, posted or without effect (R113). -/

namespace Sys2Proof.Machine

/-- Source of an opening (section 7.3). -/
inductive Source where
  | release
  | supervisory
  | program
  deriving DecidableEq, Repr

/-- What became of an opening taken with the Door Map (R113): posted or merged, issued with the result of each
door unit given OPEN, or nothing. -/
inductive Opening where
  | posted
  | issued (results : List (DoorIx × ResultCode))
  | nothing
  deriving DecidableEq, Repr

/-- The section of a door unit is flagged in a section mask. -/
def State.inSections (s : State) (f : Face) (j : DoorIx) (m : BitVec 8) : Bool :=
  m.getLsbD ((s.geo f).doors[j]).section_.val

/-- The door units of the Door Map that two masks select (R113), in ascending order: R114 gives it for the issue of a posted
open and R143 for a program, and for an opening of DOOR RELEASE or DOOR COMMAND that is issued at once it is the model's choice
(log 53). -/
def State.selectMap (s : State) (f : Face) (sections : BitVec 8) (doorMask : BitVec 32) : List DoorIx :=
  (s.map f).filter (fun j => s.inSections f j sections || doorMask.getLsbD j.val)

/-- A posted open with one source and no issue time (R113). -/
def Posted.create (sections : BitVec 8) (doorMask : BitVec 32) (src : Source) (now : Ms) : Posted where
  sections := sections
  doorMask := doorMask
  fromRelease := src = .release
  fromSupervisory := src = .supervisory
  fromProgram := src = .program
  postTime := now
  issueTime := none

/-- An opening merged into a posted open: the masks united, the source added, the earlier post time kept
(R113). -/
def Posted.merge (sections : BitVec 8) (doorMask : BitVec 32) (src : Source) (p : Posted) : Posted :=
  { p with
    sections := p.sections ||| sections
    doorMask := p.doorMask ||| doorMask
    fromRelease := p.fromRelease || src = .release
    fromSupervisory := p.fromSupervisory || src = .supervisory
    fromProgram := p.fromProgram || src = .program }

/-- Post an opening, or merge it into the posted open held (R113). -/
def State.post (f : Face) (sections : BitVec 8) (doorMask : BitVec 32) (src : Source) (s : State) : State :=
  s.mapBerth f (fun b => { b with
    posted := some (match b.posted with
      | none => Posted.create sections doorMask src s.msClock
      | some p => p.merge sections doorMask src) })

/-- An opening taken with the Door Map is posted at this moment (R113). -/
def State.postsNow (s : State) (f : Face) : Bool :=
  (s.berth f).state = .arriving || (s.berth f).state = .settling
    || ((s.berth f).state = .stopped && (s.face f).align.grade = some .noConsist)

/-- An OPEN taken with the Door Map, by the berth state (R113). The order of one issued at once is log 53. -/
def State.openSelection (f : Face) (sections : BitVec 8) (doorMask : BitVec 32) (src : Source) (s : State) :
    State × Opening :=
  if s.postsNow f then (s.post f sections doorMask src, .posted)
  else if (s.berth f).state = .stopped && !(s.map f).isEmpty then
    let r := s.requestAll f .open_ (s.selectMap f sections doorMask)
    (r.1, .issued r.2)
  else (s, .nothing)

end Sys2Proof.Machine
end

