-- ==== Sys2Proof/Machine/Engine.lean ====
section
/-! DEFINITION. The Dwell Program Engine (chapter 9). -/

namespace Sys2Proof.Machine

/-! ### Parts -/

/-- The descriptor at an index of the store (R137). -/
def State.descriptor (s : State) (i : Fin 96) : Option Descriptor := s.config.descriptors[i]

/-- The descriptor the engine of a face stands at. -/
def State.currentDescriptor (s : State) (f : Face) : Option Descriptor :=
  (s.face f).engine.current.bind s.descriptor

/-- The engine is running (R139). -/
def Engine.running (e : Engine) : Bool := e.state = .waiting || e.state = .acting || e.state = .holding

/-- Timers stopped, followed set emptied, posting awaited cleared (R140, R147, R148). -/
def Engine.stop (e : Engine) : Engine :=
  { e with limitTimer := none, holdTimer := none, followed := [], awaiting := false }

/-- An error flag set, and the error context written if it is absent (R147). -/
def Engine.flagError (err : ProgError) (e : Engine) : Engine :=
  { e with
    errors := e.errors ||| err.mask
    context := if e.context.isSome then e.context else e.current.map (fun i => (i, e.phase)) }

/-- The engine halts where it stands (R147, R148). -/
def Engine.halt (e : Engine) : Engine := { e.stop with state := .halted }

/-- A PROGRAM_EVENT report, its subject the current index (R151, R169). The value byte of an event that names no value is
log 17. The error flags of START, MARK and RESUME, and the phase of START, MARK and END, which R151 does not give, are sent
as they stand (log 43). -/
def State.reportProgram (f : Face) (event : Byte) (flags : BitVec 16) (value : Byte) (s : State) : State :=
  let e := (s.face f).engine
  s.report .program .programEvent f (e.current.map Fin.val) (event :: be16 flags.toNat ++ [e.phase.code, value])

/-- A PROGRAM_EVENT HALT report: the flags as they stand, and the cause: 0 an error, 1 a halting cause, 2 HALT
PROGRAM (R151, R167). -/
def State.reportHalt (f : Face) (cause : Byte) (s : State) : State :=
  s.reportProgram f 3 (s.face f).engine.errors cause

/-- An error is set: the engine halts with halt_on_error ON and continues with it OFF (R147). -/
def State.setError (f : Face) (err : ProgError) (s : State) : State :=
  let t := s.mapEngine f (Engine.flagError err)
  if (s.par f).haltOnError then (t.mapEngine f Engine.halt).reportHalt f 0
  else t.reportProgram f 2 err.mask 0xFF

/-- A cause that halts a running engine whatever halt_on_error says (R148). -/
def State.haltCause (f : Face) (err : ProgError) (s : State) : State :=
  if (s.face f).engine.running then
    (s.mapEngine f (fun e => (e.flagError err).halt)).reportHalt f 1
  else s

/-- A chain reaches an empty descriptor, or RESUME finds its descriptor emptied: EMPTY_DESCRIPTOR with phase WAIT
(R146, R149, log 13). -/
def State.failEmpty (f : Face) (s : State) : State :=
  (s.mapEngine f (fun e => (({ e with phase := .wait } : Engine).flagError .emptyDescriptor).halt)).reportHalt f 1

/-! ### Selections (R142) -/

/-- The door units that a CLOSE or CHECK action reaches, ascending (R142). -/
def State.actionReach (s : State) (f : Face) (x : Selection) : List DoorIx :=
  match x.kind with
  | .served => s.map f
  | .sections => (s.map f).filter (fun j => s.inSections f j x.sections)
  | .explicit => (s.fitted f).filter (fun j => x.mask.getLsbD j.val)

/-- The door unit is named by the selection itself (R144). -/
def State.selectionNames (s : State) (f : Face) (x : Selection) (j : DoorIx) : Bool :=
  s.inSections f j x.sections || x.doorMask.getLsbD j.val

/-- A CHECK passes: every door unit of the selection LOCKED and its zone IDLE or WATCH (R145). -/
def State.checkPasses (s : State) (f : Face) (js : List DoorIx) : Bool :=
  js.all (fun j => (s.door f j).state = some .locked && !(s.sense f j).zone.withholds)

/-! ### Holding (R146) -/

/-- The action is complete: the engine enters HOLDING. With a hold of 0 the timer runs 10 ms if the action
completed in the event that issued it, and otherwise HOLDING ends within the step (R146, log 12). -/
def State.enterHolding (f : Face) (sameEvent : Bool) (s : State) : State :=
  let hold := ((s.currentDescriptor f).map Descriptor.hold).getD 0
  let t := if sameEvent && hold = 0 then 10 else hold
  let u := s.mapEngine f (fun e => { e.stop with
    state := .holding
    phase := .hold
    holdTimer := some (s.startTimer t) })
  if t = 0 then u.tell (.holdEnds f) else u

/-- An engine still ACTING whose action awaits nothing enters HOLDING (R143, R144). -/
def State.finishIfDone (f : Face) (sameEvent : Bool) (s : State) : State :=
  let e := (s.face f).engine
  if e.state = .acting && !e.awaiting && e.followed.all (fun x => !x.2) then s.enterHolding f sameEvent else s

/-! ### Actions (R143 to R145) -/

/-- The target state of an action (R143). -/
def Action.target : Action → DoorState
  | .close => .locked
  | .open_ | .wait | .check | .mark => .standOpen

/-- Enter a door unit into the followed set (R143). -/
def State.follow (f : Face) (j : DoorIx) (pending : Bool) (s : State) : State :=
  s.mapEngine f (fun e => { e with followed := e.followed ++ [(j, pending)] })

/-- One result returns to the engine (R143). A halted engine disregards it (R147). -/
def State.takeResult (f : Face) (a : Action) (x : DoorIx × ResultCode) (s : State) : State :=
  if (s.face f).engine.state = .acting then
    match x.2 with
    | .accept => s.follow f x.1 ((s.door f x.1).state ≠ some a.target)
    | .notAvailable => (s.follow f x.1 false).setError f .doorFault
    | .noRelease => s.setError f .refused
    | .emergencyActive => s.setError f .refused
    | _ => s
  else s

/-- The results return one by one, after every request of the action has been made (R143, log 11). -/
def State.takeResults (f : Face) (a : Action) (xs : List (DoorIx × ResultCode)) (s : State) : State :=
  forEach xs (State.takeResult f a) s

/-- The engine enters ACTING and carries out the action of a descriptor (R141 to R145). -/
def State.act (f : Face) (d : Descriptor) (s : State) : State :=
  let s1 := s.mapEngine f (fun e => { e with state := .acting, phase := .act, followed := [], awaiting := false })
  match d.action with
  | .wait => s1.enterHolding f true
  | .mark => (s1.reportProgram f 1 (s1.face f).engine.errors d.mark).enterHolding f true
  | .check =>
    (if s1.checkPasses f (s1.actionReach f d.selection) then s1 else s1.setError f .checkFailed).finishIfDone f true
  | .close =>
    let r := s1.requestAll f .close (s1.actionReach f d.selection)
    (r.1.takeResults f .close r.2).finishIfDone f true
  | .open_ =>
    let r := s1.openSelection f d.selection.sections d.selection.doorMask .program
    match r.2 with
    | .posted => r.1.mapEngine f (fun e => { e with awaiting := true })
    | .issued rs => (r.1.takeResults f .open_ rs).finishIfDone f true
    | .nothing => r.1.finishIfDone f true

/-- Issue the action of the current descriptor (R141). -/
def State.issueAction (f : Face) (s : State) : State :=
  match s.currentDescriptor f with
  | none => s.failEmpty f
  | some d => s.act f d

/-! ### Waiting (R141) -/

/-- The condition of a trigger as the face stands (R141). -/
def State.triggerMet (s : State) (f : Face) : Trigger → Bool
  | .immediate => true
  | .onStopped => (s.berth f).state = .stopped
  | .onRelease => (s.berth f).release
  | .onQuiet => (s.face f).quiet
  | .onClp => (s.face f).clp.value

/-- A limit timer for a descriptor: none for a limit of 0 (R137, R141). -/
def State.limitFor (s : State) (d : Descriptor) : Option Timer :=
  if d.limit = 0 then none else some (s.startTimer d.limit)

/-- The engine enters WAITING at its current index (R141). -/
def State.enterWaiting (f : Face) (s : State) : State :=
  let s1 := s.mapEngine f (fun e => { e.stop with state := .waiting, phase := .wait })
  match s1.currentDescriptor f with
  | none => s1.failEmpty f
  | some d =>
    let s2 := s1.mapEngine f (fun e => { e with limitTimer := s1.limitFor d })
    if s2.triggerMet f d.trigger then s2.act f d else s2

/-- A change of a condition reaches the engine (R141). -/
def State.recheck (f : Face) (t : Trigger) (s : State) : State :=
  match s.currentDescriptor f with
  | none => s
  | some d =>
    if (s.face f).engine.state = .waiting && d.trigger = t && s.triggerMet f t then s.act f d else s

/-- The hold is over: the chain goes on, or the program ends (R146). The END report is made before the current index becomes
absent, and so has the index of the last descriptor as its subject (log 43); the phase is left as it stands, and so is HOLD
in IDLE after the end (log 44). -/
def State.holdOver (f : Face) (s : State) : State :=
  match s.currentDescriptor f with
  | none => s.failEmpty f
  | some d =>
    if d.chain then (s.mapEngine f (fun e => { e with current := some d.next })).enterWaiting f
    else
      (s.reportProgram f 5 (s.face f).engine.errors 0xFF).mapEngine f (fun e => { e.stop with
        state := .idle
        current := none
        ended := true })

/-- The limit timer expires in WAITING or ACTING (R145, R147). -/
def State.limitOver (f : Face) (s : State) : State :=
  let s1 := (s.mapEngine f Engine.stop).setError f .timeout
  if (s1.face f).engine.state = .halted then s1 else s1.enterHolding f false

/-! ### What the units of the face tell the engine (R139) -/

/-- A followed door unit is settled (R143). -/
def State.settle (f : Face) (j : DoorIx) (s : State) : State :=
  s.mapEngine f (fun e => { e with
    followed := e.followed.map (fun x => if x.1 = j then (x.1, false) else x) })

/-- A change of state of a pending door unit is checked (R143). -/
def State.doorTold (f : Face) (j : DoorIx) (st : DoorState) (s : State) : State :=
  let e := (s.face f).engine
  if e.state = .acting && e.followed.contains (j, true) then
    let target := ((s.currentDescriptor f).map (fun d => d.action.target)).getD .standOpen
    if st = target then (s.settle f j).finishIfDone f false
    else match st with
      | .fault => ((s.settle f j).setError f .doorFault).finishIfDone f false
      | .released => ((s.settle f j).setError f .doorFault).finishIfDone f false
      | .obstructed => ((s.settle f j).setError f .obstructed).finishIfDone f false
      | _ => s
  else s

/-- One notice reaches the engine. -/
def State.takeNotice (n : Notice) (s : State) : State :=
  match n with
  | .door f j st => s.doorTold f j st
  | .quiet f => s.recheck f .onQuiet
  | .clp f => s.recheck f .onClp
  | .holdEnds f =>
    let e := (s.face f).engine
    if e.state = .holding && e.holdTimer.any (fun t => t.due s.msClock) then s.holdOver f else s

/-- The notices of a step reach the engines in the order in which they arose, those that arise meanwhile behind
them (log 10). The bound on their number is never met. -/
def State.drainN : Nat → State → State
  | 0, s => s
  | n + 1, s =>
    match s.notices with
    | [] => s
    | x :: rest => (({ s with notices := rest } : State).takeNotice x).drainN n

/-- The notices of a step reach the engines, and none is left. -/
def State.drain (s : State) : State := { s.drainN 4096 with notices := [] }

/-- The posted open has been issued: an engine that awaits it follows the door units that its own selection names
(R144). -/
def State.postedIssued (f : Face) (rs : List (DoorIx × ResultCode)) (s : State) : State :=
  let e := (s.face f).engine
  if e.state = .acting && e.awaiting then
    let own (x : DoorIx × ResultCode) : Bool :=
      (s.currentDescriptor f).any (fun d => s.selectionNames f d.selection x.1)
    ((s.mapEngine f (fun e => { e with awaiting := false })).takeResults f .open_ (rs.filter own)).finishIfDone f false
  else s

/-- The posted open has been discarded (R144). -/
def State.postedLost (f : Face) (s : State) : State :=
  let e := (s.face f).engine
  if e.state = .acting && e.awaiting then
    ((s.mapEngine f (fun e => { e with awaiting := false })).setError f .postedDiscarded).finishIfDone f false
  else s

/-! ### Program commands -/

/-- A program starts at an index; its START report carries cause 0 for START PROGRAM and 1 for DOOR RELEASE
(R140, R150, R151). The report is made before those of an action issued in the same event (log 45). -/
def State.startAt (f : Face) (i : Fin 96) (cause : Byte) (s : State) : State :=
  ((s.mapEngine f (fun e => { e.stop with
    state := .waiting
    phase := .wait
    current := some i
    errors := 0
    context := none
    ended := false })).reportProgram f 0 0 cause).enterWaiting f

/-- HALT PROGRAM (R149). -/
def State.haltProgram (f : Face) (s : State) : State :=
  if (s.face f).engine.running then (s.mapEngine f Engine.halt).reportHalt f 2 else s

/-- A HALTED engine resumes in the phase recorded (R149). The RESUME report is made before those of an action issued, or of a
halt with EMPTY_DESCRIPTOR, in the same event (log 45). -/
def State.resumeProgram (f : Face) (s : State) : State :=
  let s1 := s.reportProgram f 4 (s.face f).engine.errors 0xFF
  match (s1.face f).engine.phase with
  | .wait => s1.enterWaiting f
  | .act =>
    match s1.currentDescriptor f with
    | none => s1.failEmpty f
    | some d => (s1.mapEngine f (fun e => { e with limitTimer := s1.limitFor d })).act f d
  | .hold =>
    match s1.currentDescriptor f with
    | none => s1.failEmpty f
    | some _ => s1.enterHolding f false

end Sys2Proof.Machine
end

