-- ==== Sys2Proof/Machine/Align.lean ====
section
/-! DEFINITION. The Alignment Unit: its five stages, the result and the ALIGNMENT report (chapter 6). -/

namespace Sys2Proof.Machine

/-! ### Stages 1 and 2: approach speed and predicted head -/

/-- Stage 1: the approach speed in mm/s and SPEED_SATURATED, from the distance in mm and the interval in µs
(R96). -/
def approachSpeed (d dt : Nat) : Nat × Bool :=
  if dt = 0 || 65535 < d * 1000000 / dt then (65535, true) else (d * 1000000 / dt, false)

/-- Stage 2: the predicted head in mm and PREDICTION_SATURATED, from AB2, the speed and the braking rate (R97). -/
def predictedHead (ab2 : Int) (v b : Nat) : Int × Bool :=
  let h := ab2 + ((v * v / (2 * b) : Nat) : Int)
  if 32767 < h then (32767, true) else (h, false)

/-! ### Stage 3: reading the stop window -/

/-- The result of reading the stop-window pattern (R98, R99). -/
inductive Reading where
  | short
  | runEnds (k : Nat) (bridged : Option Nat)
  | beyond (bridged : Option Nat)
  | invalid
  deriving DecidableEq, Repr

/-- The reading upward from beam `k`, every beam below it taken into the run or bridged (R98, steps 2 to 6). -/
def readUp (k : Nat) (bridged : Option Nat) : List Bool → Reading
  | [] => .beyond bridged
  | true :: rest => readUp (k + 1) bridged rest
  | [false] => .runEnds (k - 1) bridged
  | false :: true :: rest => if bridged.isNone then readUp (k + 2) (some k) rest else .invalid
  | false :: false :: rest => if rest.any id then .invalid else .runEnds (k - 1) bridged

/-- The reading of a stop-window pattern (R98). -/
def readWindow (sw : List Bool) : Reading := if sw.any id then readUp 0 none sw else .short

/-- The measured head and the window flags of a reading (R99). -/
def Reading.measure (pitch : Nat) : Reading → Measure
  | .short => ⟨some (-((12 * pitch + pitch / 2 : Nat) : Int)), false, true, none, false⟩
  | .runEnds k br => ⟨some (((k : Int) - 12) * pitch + (pitch / 2 : Nat)), false, false, br.bind (ixOf 25), false⟩
  | .beyond br => ⟨some ((12 * pitch + pitch / 2 : Nat) : Int), true, false, br.bind (ixOf 25), false⟩
  | .invalid => ⟨none, false, false, none, true⟩

/-- Stage 3 on the accepted levels of a face (R98, R99). -/
def State.measureNow (s : State) (f : Face) : Measure :=
  (readWindow (s.face f).beams.sw.toList).measure (s.geo f).pitch

/-! ### Stage 4: flattening the consist -/

/-- A flattening under way: the running distance, the cars taken and the entries made (R100). -/
structure Flattening where
  r : Nat
  cars : Nat
  entries : List FlatEntry
  deriving DecidableEq, Repr

/-- The door offsets of a car from its end nearer the train's head (R100). -/
def carOffsets (o : Orientation) (c : CarProfile) : List Nat :=
  match o with
  | .forward => c.offsets
  | .reversed => (c.offsets.map (fun x => c.length - x)).reverse

/-- One car is taken (R100). -/
def Flattening.car (u : Nat) (o : Orientation) (x : Flattening) (c : CarProfile) : Flattening where
  r := x.r + c.length
  cars := x.cars + 1
  entries := x.entries ++ (carOffsets o c).zipIdx.map (fun p => ⟨x.r + p.1, u, x.cars + 1, p.2 + 1⟩)

/-- A unit looked up: its cars from the head, its coupler allowance and its orientation (R100). -/
structure UnitCars where
  cars : List CarProfile
  allowance : Nat
  orientation : Orientation
  deriving DecidableEq, Repr

/-- Look up a unit of a consist; none when its profile is empty (R100). -/
def WorkingCopy.lookUp (c : WorkingCopy) (u : Fin 16 × Orientation) : Option UnitCars :=
  match c.units[u.1] with
  | none => none
  | some p =>
    (allSome (p.cars.map (fun k => c.cars[k]))).map (fun cs =>
      ⟨match u.2 with | .forward => cs | .reversed => cs.reverse, p.allowance, u.2⟩)

/-- The units are taken in consist order, with half the sum of two allowances between them (R100). -/
def flattenUnits (u : Nat) (x : Flattening) : List UnitCars → Flattening
  | [] => x
  | [a] => a.cars.foldl (Flattening.car u a.orientation) x
  | a :: b :: rest =>
    let y := a.cars.foldl (Flattening.car u a.orientation) x
    flattenUnits (u + 1) { y with r := y.r + (a.allowance + b.allowance) / 2 } (b :: rest)

/-- Stage 4: the Flattened Door List of a consist, or the result that refuses it (R100, R101). -/
def WorkingCopy.flatten (c : WorkingCopy) (us : List (Fin 16 × Orientation)) : Except ResultCode (List FlatEntry) :=
  match allSome (us.map c.lookUp) with
  | none => .error .undefinedProfile
  | some xs =>
    let y := flattenUnits 1 ⟨0, 0, []⟩ xs
    if 12 < y.cars || 48 < y.entries.length || 250000 < y.r then .error .consistTooLarge else .ok y.entries

/-! ### Stage 5: matching -/

/-- Distance of a car door position from a door unit centre (R102). -/
def State.distance (s : State) (f : Face) (x : Int) (j : DoorIx) : Nat :=
  (x - (((s.geo f).doors[j]).centre : Int)).natAbs

/-- The nearest fitted door unit, the lower index of two at equal distance (R102). -/
def State.nearest (s : State) (f : Face) (x : Int) : Option DoorIx :=
  (s.fitted f).foldl (fun best j =>
    match best with
    | none => some j
    | some b => if s.distance f x j < s.distance f x b then some j else some b) none

/-- The door unit cannot be served (R102). -/
def State.unavailable (s : State) (f : Face) (j : DoorIx) : Bool :=
  !s.sectionActive f j || s.isolated f j || (s.door f j).state = some .fault || (s.door f j).state = some .released

/-- The outcome of an entry, from the candidates of the earlier ones; a candidate is MATCHED until the grade is
known (R102). -/
def State.outcomeOf (s : State) (f : Face) (x : Int) (taken : List DoorIx) : MatchOutcome × Option DoorIx :=
  match s.nearest f x with
  | none => (.noDoorUnit, none)
  | some j =>
    if (s.geo f).tolerance < s.distance f x j then (.noDoorUnit, some j)
    else if s.unavailable f j then (.unavailable, some j)
    else if taken.contains j then (.conflict, some j)
    else (.matched, some j)

/-- The door units that rows have taken as candidates. -/
def candidates (rows : List MatchRow) : List DoorIx :=
  rows.filterMap (fun r => if r.outcome = .matched then r.named else none)

/-- The entries taken one by one (R102). -/
def State.matchRows (s : State) (f : Face) (head : Int) (flat : List FlatEntry) : List MatchRow :=
  flat.zipIdx.foldl (fun rows p =>
    let x := (p.1.d : Int) - head
    let o := s.outcomeOf f x (candidates rows)
    rows ++ [⟨p.2 + 1, p.1.unit, p.1.car, p.1.door, x, o.1, o.2⟩]) []

/-- The grade of a match (R103). -/
def gradeOf (partialLimit c u : Nat) : Grade :=
  if u = 0 then .full else if 1 ≤ c && u ≤ partialLimit then .partial_ else .misaligned

/-- Stage 5: Match Table, grade and Door Map (R102, R103). -/
def State.matchNow (s : State) (f : Face) (head : Int) (flat : List FlatEntry) : Alignment :=
  let rows := s.matchRows f head flat
  let cs := candidates rows
  let g := gradeOf (s.par f).partialLimit cs.length (rows.length - cs.length)
  if g = .misaligned then
    ⟨some g, some (rows.map (fun r => if r.outcome = .matched then { r with outcome := .withheld } else r)),
      cs.length, []⟩
  else ⟨some g, some rows, cs.length, (s.fitted f).filter (fun j => cs.contains j)⟩

/-! ### The result -/

/-- The alignment result of a STOPPED berth, by the table of R106, from its measurement and consist (R106, R107). -/
def State.alignment (s : State) (f : Face) (m : Measure) : Alignment :=
  match m.head, (s.berth f).consist with
  | none, _ => ⟨some .measureInvalid, none, 0, []⟩
  | some h, c =>
    if m.beyond || m.short then ⟨some .outOfWindow, none, 0, []⟩
    else match c with
      | none => ⟨some .noConsist, none, 0, []⟩
      | some c => s.matchNow f h c.flat

/-- H − Hp, when both are present, saturated to ±32,767 (R99, R108). -/
def Berth.predictionError (b : Berth) : Option Int :=
  match b.measure.bind Measure.head, b.predicted with
  | some h, some p => some (max (-32767) (min 32767 (h - p.1)))
  | _, _ => none

/-- The consist's list, empty when none is held. -/
def Berth.flat (b : Berth) : List FlatEntry := (b.consist.map Consist.flat).getD []

/-- The unserved entries that the ALIGNMENT report lists, at most eight (R108). -/
def Alignment.listed (a : Alignment) : List MatchRow :=
  ((a.table.getD []).filter (fun r => r.outcome ≠ .matched && r.outcome ≠ .withheld)).take 8

/-- The ALIGNMENT report: a summary record and the entry records (R108, R169). An entry that names no door unit carries the
absent marker as its distance (log 50). -/
def State.reportAlignment (f : Face) (s : State) : State :=
  let a := (s.face f).align
  let b := s.berth f
  let s1 := s.report .berth .alignment f none
    ([opt8 (a.grade.map Grade.code), b8 b.flat.length, b8 a.candidates, b8 a.map.length]
      ++ opt16i (b.measure.bind Measure.head) ++ opt16i b.predictionError)
  forEach a.listed (fun r t => t.report .berth .alignment f (r.named.map Fin.val)
    ([b8 r.index, b8 r.car, b8 r.door, r.outcome.code]
      ++ opt16 (r.named.map (fun j => sat16 (s.distance f r.x j))))) s1

/-- Replace the alignment result of a face (R105). -/
def State.setAlign (f : Face) (a : Alignment) (s : State) : State := s.mapFace f (fun x => { x with align := a })

/-- Clear the alignment result; the quiet condition follows the empty map (R46, R95, R104). -/
def State.clearAlign (f : Face) (s : State) : State := (s.setAlign f Alignment.blank).stopQuiet f

end Sys2Proof.Machine
end

