-- ==== Sys2Proof/Machine/Handler.lean ====
section
/-! DEFINITION. The Release Handler: release, the issue and discard of a posted open, and withdrawal
(sections 7.1 to 7.4). -/

namespace Sys2Proof.Machine

/-- Why a posted open is discarded, in the order of R115. -/
inductive DiscardCause where
  | withdrawn
  | reBerth
  | moved
  | berth
  | grade
  | mode
  | faceReset
  deriving DecidableEq, Repr

/-- The cause bits of POSTED_DISCARDED (R115, R169). -/
def DiscardCause.code : DiscardCause → Byte
  | .withdrawn => 0
  | .reBerth => 1
  | .moved => 2
  | .berth => 3
  | .grade => 4
  | .mode => 5
  | .faceReset => 6

/-- The posted open is discarded, if one is held: the posting timer stopped, the report made, and the engine told
when PROGRAM is among the sources (R115). -/
def State.discardPosted (f : Face) (c : DiscardCause) (s : State) : State :=
  match (s.berth f).posted with
  | none => s
  | some p =>
    let s1 := s.mapBerth f (fun b => { b with posted := none, postingTimer := none })
    let s2 := s1.report .berth .postedDiscarded f none
      ([c.code ||| (p.sources <<< 4), b8 p.sections.toNat] ++ be32 p.doorMask.toNat
        ++ be16 (sat16 (elapsedMs s.msClock p.postTime)))
    if p.fromProgram then s2.postedLost f else s2

/-- The posted open is issued: an OPEN to each door unit of the Door Map that its masks select; with an empty map
it is discarded instead (R114). -/
def State.issuePosted (f : Face) (s : State) : State :=
  match (s.berth f).posted with
  | none => s
  | some p =>
    if (s.map f).isEmpty then s.discardPosted f .grade
    else
      let r := s.requestAll f .open_ (s.selectMap f p.sections p.doorMask)
      (r.1.mapBerth f (fun b => { b with posted := none, postingTimer := none })).postedIssued f r.2

/-- The issue time is set, the later of post time + posted_delay and now, and the posting timer started when it
lies ahead (R114). -/
def State.setIssueTime (f : Face) (p : Posted) (s : State) : State :=
  let delay := (s.par f).postedDelay
  let past := elapsedMs s.msClock p.postTime
  if delay ≤ past then
    s.mapBerth f (fun b => { b with posted := some { p with issueTime := some s.msClock } })
  else
    s.mapBerth f (fun b => { b with
      posted := some { p with issueTime := some (p.postTime + BitVec.ofNat 32 delay) }
      postingTimer := some (s.startTimer (delay - past)) })

/-- A written result takes the posted open whose issue time is absent, by its grade (R114). -/
def State.takeByGrade (f : Face) (s : State) : State :=
  match (s.berth f).posted with
  | none => s
  | some p =>
    if p.issueTime.isSome then s
    else match (s.face f).align.grade with
      | some .full => s.setIssueTime f p
      | some .partial_ => s.setIssueTime f p
      | some .noConsist => s
      | some .misaligned => s.discardPosted f .grade
      | some .outOfWindow => s.discardPosted f .grade
      | some .measureInvalid => s.discardPosted f .grade
      | none => s

/-- A posted open whose issue time is the reading of the result is issued at once (R114). -/
def State.issueIfDue (f : Face) (s : State) : State :=
  match (s.berth f).posted with
  | none => s
  | some p => if p.issueTime = some s.msClock && (s.berth f).postingTimer.isNone then s.issuePosted f else s

/-- The release flag is cleared (R110). -/
def State.clearRelease (f : Face) (s : State) : State := s.mapBerth f (fun b => { b with release := false })

/-- A CLOSE to every fitted door unit of the face, ascending; the results are disregarded. -/
def State.closeAll (f : Face) (s : State) : State := s.requestEach f (s.fitted f) .close

/-- A withdrawal, in the four steps of R116. -/
def State.withdraw (f : Face) (s : State) : State :=
  let t := ((s.clearRelease f).discardPosted f .withdrawn).haltCause f .releaseWithdrawn
  let m := (t.face f).mode
  if (m.mode = .automatic || m.mode = .supervised) && !m.latch then t.closeAll f else t

/-- Release is given while it is not in force: the flag is set and the mode decides the rest (R112). -/
def State.giveRelease (f : Face) (s : State) : State :=
  let t := s.mapBerth f (fun b => { b with release := true })
  let e := (t.face f).engine
  match (t.face f).mode.mode with
  | .automatic =>
    if e.running then t.recheck f .onRelease
    else match e.armed with
      | some i => t.startAt f i 1
      | none => (t.openSelection f 0xFF#8 0#32 .release).1
  | .supervised => t
  | .local_ => t
  | .maintenance => t

end Sys2Proof.Machine
end

