-- ==== Sys2Proof/Machine/Modes.lean ====
section
/-! DEFINITION. The Emergency and Mode Unit: modes, keyswitch, possession and the emergency latch (chapter 8). -/

namespace Sys2Proof.Machine

/-! ### Modes -/

/-- A MODE_CHANGE report. The causes are 0 SET MODE, 1 KEYSWITCH, 2 POSSESSION GRANT, 3 POSSESSION REVOKE and
4 BERTH (R123, R167, R169). Where the mode does not change, the mode left is the present one (log 40). -/
def State.reportMode (f : Face) (left : Mode) (cause : Byte) (s : State) : State :=
  let m := (s.face f).mode
  s.report .system .modeChange f none
    [m.mode.code, left.code, m.generation, opt8 (m.saved.map Mode.code), flag m.possession, keyCode m.key, cause]

/-- The possession flag is cleared without closing (R131). -/
def State.dropPossession (f : Face) (s : State) : State := s.mapMode f (fun m => { m with possession := false })

/-- A face enters MAINTENANCE: release is cleared and the posted open discarded (R110, R115, R125, R130). -/
def State.enterMaintenance (f : Face) (s : State) : State := (s.clearRelease f).discardPosted f .mode

/-- An accepted SET MODE to a different mode, handed on in the four steps of R125. -/
def State.changeMode (f : Face) (new : Mode) (s : State) : State :=
  let old := (s.face f).mode.mode
  let s1 := s.mapMode f (fun m => { m with mode := new, generation := m.generation + 1 })
  let s2 := if old = .automatic then s1.haltCause f .modeChanged else s1
  let s3 := if new = .maintenance then s2.enterMaintenance f else s2
  let s4 := if old = .maintenance then s3.dropPossession f else s3
  s4.reportMode f old 0

/-! ### Possession (R131) -/

/-- A set possession flag is cleared with a CLOSE to every fitted door unit and a report of the cause (R131). -/
def State.revokePossession (f : Face) (cause : Byte) (s : State) : State :=
  if (s.face f).mode.possession then
    ((s.dropPossession f).closeAll f).reportMode f (s.face f).mode.mode cause
  else s

/-- A grant of possession that the checks admit (R131). -/
def State.grantPossession (f : Face) (s : State) : State :=
  if (s.face f).mode.possession then s
  else (s.mapMode f (fun m => { m with possession := true })).reportMode f (s.face f).mode.mode 2

/-! ### The keyswitch (R127 to R130) -/

/-- The door units that LOCAL-OPEN reaches, ascending (R129). -/
def State.localOpenReach (s : State) (f : Face) : List DoorIx :=
  (s.fitted f).filter (fun j => !s.isolated f j && s.sectionActive f j)

/-- A keyswitch change enters a position while the face is in LOCAL (R129). -/
def State.takeKey (f : Face) (pos : KeyPos) (s : State) : State :=
  match pos with
  | .auto => s
  | .localOpen => if (s.berth f).state = .empty then s else s.requestEach f (s.localOpenReach f) .open_
  | .localClose => if (s.face f).mode.latch then s else s.closeAll f

/-- A keyswitch change leaves AUTO: the five steps of R128, the report before the last (log 10). -/
def State.keyLeavesAuto (f : Face) (pos : KeyPos) (s : State) : State :=
  let old := (s.face f).mode.mode
  let s1 := s.mapMode f (fun m => { m with
    key := pos
    saved := some old
    mode := .local_
    generation := m.generation + 1 })
  let s2 := if old = .automatic then s1.haltCause f .modeChanged else s1
  let s3 := s2.discardPosted f .mode
  let s4 := if old = .maintenance then s3.dropPossession f else s3
  (s4.reportMode f old 1).takeKey f pos

/-- A keyswitch change enters AUTO: the face returns to its saved mode (R130). -/
def State.keyEntersAuto (f : Face) (s : State) : State :=
  let old := (s.face f).mode.mode
  let back := ((s.face f).mode.saved).getD .maintenance
  let s1 := s.mapMode f (fun m => { m with
    key := .auto
    saved := none
    mode := back
    generation := m.generation + 1 })
  (if back = .maintenance then s1.enterMaintenance f else s1).reportMode f old 1

/-- A keyswitch change (R127). -/
def State.keyChange (f : Face) (pos : KeyPos) (s : State) : State :=
  let m := (s.face f).mode
  if m.key = .auto then s.keyLeavesAuto f pos
  else if pos = .auto then s.keyEntersAuto f
  else ((s.mapMode f (fun m => { m with key := pos })).reportMode f m.mode 1).takeKey f pos

/-- An accepted keyswitch position. The first one after start is taken as it is, and only AUTO makes a change
(R127, log 30). -/
def State.keyAccepted (f : Face) (pos : KeyPos) (s : State) : State :=
  let m := (s.face f).mode
  let t := s.mapMode f (fun m => { m with keyRead := true })
  if m.keyRead then
    if pos = m.key then s else t.keyChange f pos
  else if pos = .auto then t.keyEntersAuto f
  else t.mapMode f (fun m => { m with key := pos })

/-! ### The emergency latch (R132 to R135) -/

/-- An EMERGENCY report. The causes are 0 EOI, 1 EVACUATE and 2 EMERGENCY CLEAR; the count is absent but for a
setting (R135, R169, log 18). -/
def State.reportEmergency (f : Face) (cause : Byte) (count : Option Nat) (s : State) : State :=
  let m := (s.face f).mode
  s.report .safety .emergency f none [flag m.latch, flag m.eoi, cause, opt8 (count.map b8)]

/-- The door units given EMERGENCY OPEN, by ascending section and then index (R132). One with no state yet is among them
when its section is active, and refuses (R27). That it is in no state other than LOCKED, and so is not among them in an
inactive section, is the model's reading (log 27). -/
def State.emergencyReach (s : State) (f : Face) : List DoorIx :=
  let able (j : DoorIx) : Bool :=
    match (s.door f j).state with
    | none => !s.isolated f j && s.sectionActive f j
    | some st =>
      !s.isolated f j && st ≠ .released && st ≠ .fault && (s.sectionActive f j || st ≠ .locked)
  (List.finRange 8).flatMap (fun sec =>
    (s.fitted f).filter (fun j => ((s.geo f).doors[j]).section_ = sec && able j))

/-- The emergency latch is set, in the four steps of R132. -/
def State.setLatch (f : Face) (cause : Byte) (s : State) : State :=
  let s1 := (s.mapMode f (fun m => { m with latch := true })).recomputeClp f none
  let s2 := s1.haltCause f .emergency
  let js := s2.emergencyReach f
  (s2.requestEach f js .emergencyOpen).reportEmergency f cause (some js.length)

/-- An accepted change of EOI (R132, R135). -/
def State.eoiAccepted (f : Face) (active : Bool) (s : State) : State :=
  if active = (s.face f).mode.eoi then s
  else
    let t := s.mapMode f (fun m => { m with eoi := active })
    if (t.face f).mode.latch then t.reportEmergency f 0 none
    else if active then t.setLatch f 0
    else t

/-- RELEASED door units whose handle is back (R23, R134). R23 gives no order in which several of them are resolved; that
they are taken in ascending index order is the model's choice (log 41). -/
def State.waitingReleased (s : State) (f : Face) : List DoorIx :=
  (s.fitted f).filter (fun j => (s.door f j).state = some .released && !(s.input f j).mrh)

/-- The emergency latch is cleared, in the three steps of R134; the order of the door units resolved is log 41. -/
def State.clearLatch (f : Face) (s : State) : State :=
  let s1 := (s.mapMode f (fun m => { m with latch := false })).recomputeClp f none
  (forEach (s1.waitingReleased f) (State.resolve f) s1).reportEmergency f 2 none

end Sys2Proof.Machine
end

