-- ==== Sys2Proof/Machine/Berth.lean ====
section
/-! DEFINITION. The Berth Tracker: beams, berth states and the berth events (chapter 5), and FACE RESET. -/

namespace Sys2Proof.Machine

/-! ### Causes and reports (R93) -/

/-- Why a berth state changes, in the order of R93. -/
inductive BerthCause where
  | notice
  | ab1
  | ab2
  | swBeam (i : Fin 25)
  | approachLimit
  | settleTimer
  | trainAtRest
  | movement (i : Fin 25)
  | departed
  | beamsClear
  | berthAck
  | faceReset
  deriving DecidableEq, Repr

/-- The cause code of BERTH_STATE (R93, R169). -/
def BerthCause.code : BerthCause → Byte
  | .notice => 0
  | .ab1 => 1
  | .ab2 => 2
  | .swBeam _ => 3
  | .approachLimit => 4
  | .settleTimer => 5
  | .trainAtRest => 6
  | .movement _ => 7
  | .departed => 8
  | .beamsClear => 9
  | .berthAck => 10
  | .faceReset => 11

/-- The beam that a cause carries (R93). -/
def BerthCause.beam : BerthCause → Option (Fin 25)
  | .swBeam i => some i
  | .movement i => some i
  | .notice | .ab1 | .ab2 | .approachLimit | .settleTimer | .trainAtRest | .departed | .beamsClear | .berthAck
  | .faceReset => none

/-- A BERTH_STATE report: H and the flags on entry to STOPPED alone, and the SAFETY class for MOVED_FAULT alone
(R93, R169). -/
def State.reportBerth (f : Face) (left : BerthState) (c : BerthCause) (s : State) : State :=
  let b := s.berth f
  let m := if b.state = .stopped then b.measure else none
  s.report (if b.state = .movedFault then .safety else .berth) .berthState f none
    ([b.state.code, left.code, c.code, opt8 (c.beam.map (fun i => b8 i.val))] ++ opt16i (m.bind Measure.head)
      ++ [opt8 (m.map Measure.flags), opt8 ((m.bind Measure.bridged).map (fun i => b8 i.val))])

/-- A change of berth state with the fields it sets, its report, the loss of possession on leaving EMPTY (R131),
and the recomputation of CLP (R92, R93, R120). That BERTH_STATE is reported before CLP_CHANGE is the model's choice
(log 42). -/
def State.moveBerth (f : Face) (st : BerthState) (c : BerthCause) (edit : Berth → Berth) (s : State) : State :=
  let left := (s.berth f).state
  let s1 := (s.mapBerth f (fun b => { edit b with state := st })).reportBerth f left c
  let s2 := if left = .empty && st ≠ .empty then s1.revokePossession f 4 else s1
  s2.recomputeClp f none

/-! ### Beams (R78) -/

/-- AB1, AB2 and every stop-window beam are clear. -/
def Beams.allClear (b : Beams) : Bool := !b.ab1 && !b.ab2 && !b.sw.toList.any id

/-- Some stop-window beam is interrupted. -/
def Beams.windowOccupied (b : Beams) : Bool := b.sw.toList.any id

/-- The time for which a new level must have been held, in microseconds (R78). -/
def beamFilter : Us := 500

/-- The reading of the microsecond counter at which the level of a beam change accepted now first changed (R1, R78). -/
def State.beamReading (s : State) : Us := s.usClock - beamFilter

/-- The beams of a face. -/
def State.beams (s : State) (f : Face) : Beams := (s.face f).beams

/-- Change the accepted beam levels of a face. -/
def State.mapBeams (s : State) (f : Face) (g : Beams → Beams) : State :=
  s.mapFace f (fun x => { x with beams := g x.beams })

/-! ### Entries to berth states -/

/-- The fields of a record that enters EMPTY (R90). -/
def Berth.emptied (b : Berth) : Berth :=
  { b with
    consist := none, ab1Time := none, ab2Time := none, speed := none, predicted := none, measure := none
    stopTime := none, approachTimer := none, settleTimer := none }

/-- Every gap zone of the face is disarmed (R53). The rule gives no order; that the zones are taken in ascending index order,
and so their GAP_EVENT reports, is the model's choice (log 41). -/
def State.disarmAll (f : Face) (s : State) : State := forEach (s.fitted f) (State.disarmZone f) s

/-- The berth enters EMPTY (R90). -/
def State.enterEmpty (f : Face) (c : BerthCause) (s : State) : State :=
  (((s.moveBerth f .empty c Berth.emptied).discardPosted f .berth).clearAlign f).disarmAll f

/-- The berth enters SETTLING and the settle timer starts; H, the window flags and the stop time are absent
(R79, R84, R87, R88). -/
def State.enterSettling (f : Face) (c : BerthCause) (s : State) : State :=
  s.moveBerth f .settling c (fun b => { b with
    measure := none, stopTime := none, approachTimer := none
    settleTimer := some (s.startTimer (s.par f).stopSettle) })

/-- The face is at rest: release not in force and every fitted door unit LOCKED (R87). -/
def State.atRest (s : State) (f : Face) : Bool := !(s.berth f).release && s.allLocked f

/-- Movement after stop with the face at rest: the berth re-berths (R87). The BERTH_STATE report stands before
POSTED_DISCARDED, here and at the entries to DEPARTING and EMPTY (log 37). -/
def State.reBerth (f : Face) (i : Fin 25) (s : State) : State :=
  ((s.enterSettling f (.movement i)).clearAlign f).discardPosted f .reBerth

/-- Movement after stop with the face not at rest: the berth enters MOVED_FAULT, in the order of R88; that CLP_CHANGE is
reported after the BERTH_STATE record is the model's choice (log 42), and that the items of R88 are taken in the order in which
R88 lists them is log 37. -/
def State.enterMoved (f : Face) (i : Fin 25) (s : State) : State :=
  let left := (s.berth f).state
  let s1 := (s.mapBerth f (fun b => { b with state := .movedFault, release := false })).discardPosted f .moved
  let s2 := (s1.clearAlign f).haltCause f .moved
  (s2.reportBerth f left (.movement i)).recomputeClp f none

/-- The result of a STOPPED berth is handed on: the quiet timer, the posted open by its grade, the engine, an issue
that is due at once, and the ALIGNMENT report (R86, R105, R114, log 34). -/
def State.resultWritten (f : Face) (atStop : Bool) (s : State) : State :=
  let s1 := (s.quietOfMap f).takeByGrade f
  let s2 := if atStop then s1.recheck f .onStopped else s1
  (s2.issueIfDue f).reportAlignment f

/-- The berth enters STOPPED: state, stop time, measurement and alignment written as one change, then the
neighbours told (R86, R105, log 34). -/
def State.enterStopped (f : Face) (c : BerthCause) (s : State) : State :=
  let left := (s.berth f).state
  let m := s.measureNow f
  let s1 := s.mapBerth f (fun b => { b with
    state := .stopped, measure := some m, stopTime := some s.msClock, settleTimer := none })
  let s2 := (s1.setAlign f (s1.alignment f m)).reportBerth f left c
  ((s2.clearCounts f).resultWritten f true).recomputeClp f none

/-- All beams are clear in DEPARTING: the berth enters EMPTY (R90), with the cause beams clear (R93; at DEPARTED itself log 58). -/
def State.emptyIfClear (f : Face) (s : State) : State :=
  if (s.berth f).state = .departing && (s.beams f).allClear then s.enterEmpty f .beamsClear else s

/-- DEPARTED is taken (R89). Where every beam is already clear the passage to EMPTY follows with no beam change; R93 does not say
whether its cause is DEPARTED or beams clear, and that it is beams clear is the model's choice (log 58). -/
def State.depart (f : Face) (s : State) : State :=
  (((s.moveBerth f .departing .departed id).clearAlign f).discardPosted f .berth).emptyIfClear f

/-! ### Approach (R81 to R83) -/

/-- A SLOW_APPROACH report (R82, R83, R169). -/
def State.reportSlow (f : Face) (s : State) : State :=
  s.report .berth .slowApproach f none [(s.berth f).state.code]

/-- AB1 interrupted in EMPTY or NOTIFIED (R81). -/
def State.startApproach (f : Face) (s : State) : State :=
  s.moveBerth f .approaching .ab1 (fun b => { b with
    ab1Time := some (s.beamReading, s.msClock)
    approachTimer := some (s.startTimer (s.par f).approachLimit) })

/-- The distance between the approach beams in mm (R96). -/
def Geometry.approach (g : Geometry) : Nat := (g.ab2 - g.ab1).toNat

/-- AB2 interrupted in APPROACHING (R82, R96, R97). That OVERRUN_PREDICTED or SLOW_APPROACH follows BERTH_STATE is log 42. -/
def State.arrive (f : Face) (s : State) : State :=
  let p := s.par f
  let g := s.geo f
  let t := s.beamReading
  let dt := (t - (((s.berth f).ab1Time.map Prod.fst).getD 0)).toNat
  let s1 := s.moveBerth f .arriving .ab2 (fun b =>
    if p.approachLimit * 1000 < dt then { b with ab2Time := some t, approachTimer := none }
    else
      let v := approachSpeed g.approach dt
      { b with
        ab2Time := some t, approachTimer := none
        speed := some v, predicted := some (predictedHead g.ab2 v.1 p.brakingRate) })
  match (s1.berth f).speed, (s1.berth f).predicted with
  | some v, some h =>
    if p.predictionLimit < h.1.natAbs then
      s1.report .berth .overrunPredicted f none (be16 v.1 ++ be16i h.1 ++ [satFlags v.2 h.2])
    else s1
  | _, _ => s1.reportSlow f

/-- The approach timer has expired in APPROACHING (R83). That SLOW_APPROACH follows the other reports is log 42. -/
def State.approachOver (f : Face) (s : State) : State :=
  let s1 := if (s.berth f).consist.isSome then
      s.moveBerth f .notified .approachLimit (fun b => { b with
        ab1Time := none, ab2Time := none, speed := none, predicted := none, approachTimer := none })
    else s.enterEmpty f .approachLimit
  s1.reportSlow f

/-! ### Beam changes -/

/-- A beam change whose level first changed at a reading of the microsecond counter: it is accepted when that counter
has advanced by the filter time, and taken then (R1, R78, log 5). A level that is no change does nothing (log 31). -/
def State.beamChange (held v : Bool) (first : Us) (op : State → State) (s : State) : State :=
  if held = v then s else op (s.reachMicros (first + beamFilter))

/-- A change of AB1 (R81, R90). -/
def State.ab1Changed (f : Face) (v : Bool) (s : State) : State :=
  let s1 := s.mapBeams f (fun b => { b with ab1 := v })
  let st := (s.berth f).state
  if v && (st = .empty || st = .notified) then s1.startApproach f else s1.emptyIfClear f

/-- A change of AB2 (R81, R82, R90). -/
def State.ab2Changed (f : Face) (v : Bool) (s : State) : State :=
  let s1 := s.mapBeams f (fun b => { b with ab2 := v })
  if v && (s.berth f).state = .approaching then s1.arrive f else s1.emptyIfClear f

/-- A change of a stop-window beam (R84, R87, R90). -/
def State.swChanged (f : Face) (i : Fin 25) (v : Bool) (s : State) : State :=
  let s1 := s.mapBeams f (fun b => { b with sw := put b.sw i v })
  match (s.berth f).state with
  | .empty => if v then s1.enterSettling f (.swBeam i) else s1
  | .notified => if v then s1.enterSettling f (.swBeam i) else s1
  | .approaching => if v then s1.enterSettling f (.swBeam i) else s1
  | .arriving => if v then s1.enterSettling f (.swBeam i) else s1
  | .settling =>
    s1.mapBerth f (fun b => { b with settleTimer := some (s.startTimer (s.par f).stopSettle) })
  | .stopped => if s1.atRest f then s1.reBerth f i else s1.enterMoved f i
  | .departing => s1.emptyIfClear f
  | .movedFault => s1

/-! ### Arrival notice (R80) -/

/-- A consist and its flattened list replace any held (R80). -/
def State.storeConsist (f : Face) (c : Consist) (s : State) : State :=
  s.mapBerth f (fun b => { b with consist := some c })

/-- A recomputing notice: the grade decided again with the measurement held (R107). -/
def State.recompute (f : Face) (s : State) : State :=
  match (s.berth f).measure with
  | none => s
  | some m => (s.setAlign f (s.alignment f m)).resultWritten f false

/-- An accepted notice, by the berth state (R80). -/
def State.arrivalTaken (f : Face) (c : Consist) (s : State) : State :=
  match (s.berth f).state with
  | .empty => s.moveBerth f .notified .notice (fun b => { b with
      consist := some c, ab1Time := none, ab2Time := none, speed := none, predicted := none })
  | .stopped => (s.storeConsist f c).recompute f
  | .notified => s.storeConsist f c
  | .approaching => s.storeConsist f c
  | .arriving => s.storeConsist f c
  | .settling => s.storeConsist f c
  | .departing => s
  | .movedFault => s

/-- BERTH ACK that the checks admit (R88). -/
def State.ackBerth (f : Face) (s : State) : State :=
  if (s.beams f).windowOccupied then s.enterSettling f .berthAck else s.enterEmpty f .berthAck

/-! ### Re-resolution and FACE RESET (R91) -/

/-- A berth resolved from its beams (R91). -/
def Berth.resolved (b : Beams) (t : Timer) : Berth :=
  if b.allClear then Berth.blank else { Berth.blank with state := .settling, settleTimer := some t }

/-- The Start Queues of a face are emptied; histories and spacing holds stay (R39). -/
def State.emptyQueues (f : Face) (s : State) : State :=
  s.mapFace f (fun x => { x with groups := x.groups.map (fun g => { g with queue := [] }) })

/-- FACE RESET (R27, R39, R60, R91, R115, R120, R122, R152). The order of the units and the ascending order in which door
units are handed over again are log 33. -/
def State.resetFace (f : Face) (s : State) : State :=
  let left := (s.berth f).state
  let s1 := (s.mapEngine f (fun _ => Engine.start)).discardPosted f .faceReset
  let s2 := s1.mapBerth f (fun _ => Berth.resolved (s.beams f) (s.startTimer (s.par f).stopSettle))
  let now := (s2.berth f).state
  let s3 := if now = left then s2 else s2.reportBerth f left .faceReset
  let s4 := (((s3.recomputeClp f none).clearAlign f).disarmAll f).emptyQueues f
  let s5 := forEach (s4.fitted f) (State.afterFaceReset f) s4
  if left = .empty && now ≠ .empty then s5.revokePossession f 4 else s5

end Sys2Proof.Machine
end

