-- ==== Sys2Proof/Machine/Reply.lean ====
section
/-! DEFINITION. Replies and the checks that every request passes (sections 10.4, 10.5, 11.2, 11.4). -/

namespace Sys2Proof.Machine

/-- What a request is answered with: its result code and the reply payload after the header (R157, R168). -/
structure Reply where
  code : ResultCode
  body : List Byte
  deriving DecidableEq, Repr

/-- A request refused: nothing changes, and the reply carries the header alone (R3, R168). -/
def refuse (c : ResultCode) (s : State) : State × Reply := (s, ⟨c, []⟩)

/-- A request accepted with no payload. -/
def accepted (s : State) : State × Reply := (s, ⟨.accept, []⟩)

/-- A request accepted with data in its reply. -/
def acceptedWith (body : List Byte) (s : State) : State × Reply := (s, ⟨.accept, body⟩)

/-- The links a request kind belongs to (R158). -/
inductive Owner where
  | ilOnly
  | slOnly
  | both
  deriving DecidableEq, Repr

/-- A kind belongs to a link (R158). -/
def Owner.allows : Owner → Link → Bool
  | .ilOnly, .il => true
  | .ilOnly, .sl => false
  | .slOnly, .sl => true
  | .slOnly, .il => false
  | .both, _ => true

/-- The checks of the link and of the length, then the decision of the request's own rule (R158, R168). -/
def checked (o : Owner) (l : Link) (lengthOk : Bool) (decide : State → State × Reply) (s : State) : State × Reply :=
  if !o.allows l then refuse .wrongLink s
  else if !lengthOk then refuse .badLength s
  else decide s

/-- A fixed length (R168). -/
def fixedLen (n : Nat) (p : List Byte) : Bool := p.length = n

/-- A counted length: a fixed part with the count at an offset, and items of a size (R168). -/
def countedLen (base at_ size : Nat) (p : List Byte) : Bool :=
  base ≤ p.length && p.length = base + size * byteAt p at_

/-- The face in the first byte of a payload; any other number is refused BAD_FIELD (R158). -/
def withFace (p : List Byte) (k : Face → State → State × Reply) (s : State) : State × Reply :=
  match faceOf (byteAt p 0) with
  | none => refuse .badField s
  | some f => k f s

/-- A face and a fitted door unit in the first two bytes; others are refused BAD_FIELD (R5). -/
def withDoor (p : List Byte) (k : Face → DoorIx → State → State × Reply) (s : State) : State × Reply :=
  match faceOf (byteAt p 0), ixOf 32 (byteAt p 1) with
  | some f, some j => if s.isFitted f j then k f j s else refuse .badField s
  | _, _ => refuse .badField s

/-- A reply header on a link: result, status byte, and on IL the berth states of both faces (R166). -/
def State.header (s : State) (l : Link) (c : ResultCode) : List Byte :=
  match l with
  | .sl => [c.code, s.statusByte .sl]
  | .il => [c.code, s.statusByte .il, (s.berth .f0).state.code, (s.berth .f1).state.code]

/-- The frame of a reply: KIND plus 0x80, the request's TAG, the header and the payload (R157). -/
def State.replyFrame (s : State) (l : Link) (x : Frame) (r : Reply) : Frame :=
  ⟨x.kind + 0x80#8, x.tag, s.header l r.code ++ r.body⟩

end Sys2Proof.Machine
end

