-- ==== Sys2Proof/Machine/Layouts.lean ====
section
/-! DEFINITION. The configuration items as the data that reads return and commits check (R73, R77, R168). -/

namespace Sys2Proof.Machine

/-- A parameter by its identifier, 1 to 21 in the order of R67 (R168). -/
def Params.get (p : Params) (id : Nat) : Nat :=
  match id with
  | 1 => p.lockWithdrawTimeout
  | 2 => p.unlatchSettle
  | 3 => p.openTimeout
  | 4 => p.closeTimeout
  | 5 => p.lockEngageTimeout
  | 6 => p.recloseDelay
  | 7 => p.recloseMax
  | 8 => p.startSpacing
  | 9 => p.startWindow
  | 10 => p.doorwayDeferLimit
  | 11 => p.quietTime
  | 12 => p.gapClearTime
  | 13 => if p.gapLatch then 1 else 0
  | 14 => p.stopSettle
  | 15 => p.approachLimit
  | 16 => p.brakingRate
  | 17 => p.partialLimit
  | 18 => p.predictionLimit
  | 19 => p.postedDelay
  | 20 => if p.startSupervised then 1 else 0
  | 21 => if p.haltOnError then 1 else 0
  | _ => 0

/-- Write a parameter by its identifier. -/
def Params.put (p : Params) (id v : Nat) : Params :=
  match id with
  | 1 => { p with lockWithdrawTimeout := v }
  | 2 => { p with unlatchSettle := v }
  | 3 => { p with openTimeout := v }
  | 4 => { p with closeTimeout := v }
  | 5 => { p with lockEngageTimeout := v }
  | 6 => { p with recloseDelay := v }
  | 7 => { p with recloseMax := v }
  | 8 => { p with startSpacing := v }
  | 9 => { p with startWindow := v }
  | 10 => { p with doorwayDeferLimit := v }
  | 11 => { p with quietTime := v }
  | 12 => { p with gapClearTime := v }
  | 13 => { p with gapLatch := v = 1 }
  | 14 => { p with stopSettle := v }
  | 15 => { p with approachLimit := v }
  | 16 => { p with brakingRate := v }
  | 17 => { p with partialLimit := v }
  | 18 => { p with predictionLimit := v }
  | 19 => { p with postedDelay := v }
  | 20 => { p with startSupervised := v = 1 }
  | 21 => { p with haltOnError := v = 1 }
  | _ => p

/-- The range of a numeric parameter (R67); none for the three choice parameters and for no parameter. -/
def paramRange (id : Nat) : Option (Nat × Nat) :=
  match id with
  | 1 => some (100, 1000)
  | 2 => some (0, 300)
  | 3 => some (1000, 6000)
  | 4 => some (1000, 8000)
  | 5 => some (100, 1000)
  | 6 => some (200, 3000)
  | 7 => some (1, 5)
  | 8 => some (0, 250)
  | 9 => some (200, 2000)
  | 10 => some (0, 10000)
  | 11 => some (500, 10000)
  | 12 => some (500, 5000)
  | 14 => some (500, 5000)
  | 15 => some (5000, 60000)
  | 16 => some (100, 2000)
  | 17 => some (0, 8)
  | 18 => some (100, 5000)
  | 19 => some (0, 2000)
  | _ => none

/-- READ GEOMETRY and the payload of WRITE GEOMETRY (R168). -/
def geometryBytes (f : Face) (g : Geometry) : List Byte :=
  [faceCode f, b8 g.n, b8 g.pitch] ++ be32i g.ab1 ++ be16i g.ab2 ++ [b8 g.sectionMask.toNat] ++ be16 g.tolerance
    ++ (g.doors.toList.take g.n).flatMap (fun d => be32 d.centre ++ [b8 d.group.val, b8 d.section_.val])

/-- One parameter item (R168). -/
def paramItem (id v : Nat) : List Byte := b8 id :: be32 v

/-- READ PARAMETERS: all 21 items in identifier order (R168). -/
def paramsBytes (f : Face) (p : Params) : List Byte :=
  [faceCode f, 21] ++ (List.range 21).flatMap (fun k => paramItem (k + 1) (p.get (k + 1)))

/-- READ ISOLATION (R168). -/
def isolationBytes (f : Face) (v : Vector Bool 32) : List Byte := faceCode f :: be32 (maskOf v)

/-- READ DEVICE PARAMETERS (R168). -/
def deviceBytes (c : WorkingCopy) : List Byte := be16 c.ilSilenceLimit ++ [c.speedSl.code, c.speedIl.code]

/-- READ CAR PROFILE; every byte of an empty entry is 0 (R168, log 19). The offsets stand from the first slot on, whatever
slots they were written in (log 46). -/
def carBytes (i : Fin 24) (o : Option CarProfile) : List Byte :=
  match o with
  | none => List.replicate 15 0
  | some c =>
    [b8 i.val, 1] ++ be16 c.length ++ [b8 c.offsets.length]
      ++ (List.range 5).flatMap (fun k => be16 (c.offsets.getD k 0))

/-- READ UNIT PROFILE; every byte of an empty entry is 0 (R168, log 19). The cars stand from the first slot on, whatever
slots they were written in (log 46). -/
def unitBytes (i : Fin 16) (o : Option UnitProfile) : List Byte :=
  match o with
  | none => List.replicate 13 0
  | some u =>
    [b8 i.val, 1, b8 u.cars.length] ++ be16 u.allowance
      ++ (List.range 8).map (fun k => opt8 (u.cars[k]?.map (fun c => b8 c.val)))

/-- READ DESCRIPTOR; every byte of an empty entry is 0 (R168, log 19). The mask of a SERVED selection is returned as it was
carried (log 47). -/
def descriptorBytes (i : Fin 96) (o : Option Descriptor) : List Byte :=
  match o with
  | none => List.replicate 18 0
  | some d =>
    [b8 i.val, 1, d.action.code, d.selection.kind.code] ++ be32 d.selection.mask.toNat ++ [d.trigger.code]
      ++ be16 d.hold ++ be32 d.limit ++ [d.mark, flag d.chain, b8 d.next.val]

/-- The reporting settings of a link as the payload of SET REPORTING (R73, R168). -/
def reportingBytes (l : Link) (r : Reporting) : List Byte :=
  [linkCode l, b8 r.classMask.toNat, b8 r.trigger.val, b8 r.flush.val]

/-- The content over which the CRC of the stored copy is taken, generation included (R73). -/
def WorkingCopy.bytes (c : WorkingCopy) (gen : Word16) : List Byte :=
  geometryBytes .f0 c.geo0 ++ geometryBytes .f1 c.geo1 ++ paramsBytes .f0 c.par0 ++ paramsBytes .f1 c.par1
    ++ isolationBytes .f0 c.iso0 ++ isolationBytes .f1 c.iso1 ++ deviceBytes c
    ++ (List.finRange 24).flatMap (fun i => carBytes i c.cars[i])
    ++ (List.finRange 16).flatMap (fun i => unitBytes i c.units[i])
    ++ (List.finRange 96).flatMap (fun i => descriptorBytes i c.descriptors[i])
    ++ reportingBytes .sl c.repSl ++ reportingBytes .il c.repIl ++ [flag c.geometryLock] ++ be16 gen.toNat

end Sys2Proof.Machine
end

