-- ==== Sys2Proof/Machine/Store.lean ====
section
/-! DEFINITION. The Configuration Store: configuration writes in the order of R63, the geometry lock and COMMIT
(chapter 4), and the descriptor writes of R138. -/

namespace Sys2Proof.Machine

/-! ### The common shape of a configuration write -/

/-- A write that has passed its structural checks: refused COMMIT_BUSY during a commit, then decided (R63, R73). -/
def unlessCommit (k : State → State × Reply) (s : State) : State × Reply :=
  if s.commit.isSome then refuse .commitBusy s else k s

/-- The face is at rest for a write: berth EMPTY and every fitted door unit LOCKED (R66, R67). -/
def State.writable (s : State) (f : Face) : Bool := (s.berth f).state = .empty && s.allLocked f

/-- The answer to an accepted write: ADJUSTED with the values as written when one was brought into range (R159,
R168). -/
def writeAnswer (adjusted : Bool) (values : List Byte) (s : State) : State × Reply :=
  if adjusted then (s, ⟨.adjusted, values⟩) else accepted s

/-! ### Geometry (R64 to R66) -/

/-- A signed value within a range. -/
def inRange (lo hi v : Int) : Bool := lo ≤ v && v ≤ hi

/-- The door unit record at an offset of a payload; none when a value is out of its range (R64). -/
def readGeoDoor (p : List Byte) (at_ : Nat) : Option GeoDoor :=
  match ixOf 4 (byteAt p (at_ + 4)), ixOf 8 (byteAt p (at_ + 5)) with
  | some g, some c => if intAt p at_ 4 ≤ 250000 then some ⟨intAt p at_ 4, g, c⟩ else none
  | _, _ => none

/-- The tolerance is in its range (R64). -/
def toleranceOk (t : Nat) : Bool := 50 ≤ t && t ≤ 600

/-- The geometry that a WRITE GEOMETRY carries; none when a structural value is out of its range (R64). -/
def readGeometry (p : List Byte) : Option Geometry :=
  let n := byteAt p 1
  let pitch := byteAt p 2
  let ab1 := toSigned 32 (intAt p 3 4)
  let ab2 := toSigned 16 (intAt p 7 2)
  let t := intAt p 10 2
  if 1 ≤ n && n ≤ 32 && 20 ≤ pitch && pitch ≤ 100 && pitch % 2 = 0 && inRange (-60000) (-1000) ab1
      && inRange (-30000) (-500) ab2 && toleranceOk t then
    (allSome ((itemOffsets 12 6 n).map (readGeoDoor p))).map (fun ds =>
      ⟨n, Vector.ofFn (fun j : Fin 32 => ds.getD j.val GeoDoor.blank), pitch, ab1, ab2,
        BitVec.ofNat 8 (byteAt p 9), t⟩)
  else none

/-- The centres in use lie at least 2T + 1 apart (R65). -/
def Geometry.spaced (g : Geometry) (t : Nat) : Bool :=
  (List.finRange 31).all (fun j =>
    !(j.val + 1 < g.n : Bool) || (g.doors[j.val]).centre + 2 * t + 1 ≤ (g.doors[j.val + 1]).centre)

/-- The members of a power group (R29). -/
def Geometry.members (g : Geometry) (k : GroupIx) : Nat :=
  (List.finRange 32).countP (fun j => j.val < g.n && g.doors[j].group = k)

/-- The relations of R65. -/
def Geometry.valid (g : Geometry) : Bool :=
  g.spaced g.tolerance && 500 ≤ g.ab2 - g.ab1 && g.ab2 < -(12 * (g.pitch : Int))
    && (List.finRange 4).all (fun k => g.members k ≤ 16)

/-- A position that stops being fitted loses its record and its sensing state (R5, R59, R66). -/
def State.unfit (f : Face) (j : DoorIx) (s : State) : State :=
  (s.mapDoor f j (fun _ => DoorRec.blank)).mapSense f j (fun _ => DoorSense.blank)

/-- An accepted geometry write: the geometry replaced whole, isolation flags at n and above cleared, and positions
unfitted and fitted (R5, R66). A position fitted before the first complete scan has no state yet (R27). -/
def State.setGeometry (f : Face) (g : Geometry) (s : State) : State :=
  let old := s.fitted f
  let s1 := s.mapConfig (fun c => (c.setGeo f g).setIso f
    (Vector.ofFn (fun j : Fin 32 => j.val < g.n && (s.iso f)[j])))
  let gone := old.filter (fun j => !s1.isFitted f j)
  let new := (s1.fitted f).filter (fun j => !old.contains j)
  let s2 := forEach (gone ++ new) (State.unfit f) s1
  if s.scanDone then s2.resolveNew f new else s2

/-- A geometry write that has passed its structural checks (R63, R65, R66). -/
def State.tryGeometry (f : Face) (g : Geometry) (s : State) : State × Reply :=
  if s.config.geometryLock then refuse .geometryLocked s
  else if !s.writable f then refuse .faceBusy s
  else if !g.valid then refuse .geometryInvalid s
  else accepted (s.setGeometry f g)

/-- WRITE GEOMETRY (R64 to R66). -/
def decideWriteGeometry (p : List Byte) (s : State) : State × Reply :=
  withFace p (fun f s => match readGeometry p with
    | none => refuse .badField s
    | some g => unlessCommit (State.tryGeometry f g) s) s

/-- WRITE TOLERANCE: T alone, checked against the centres held (R64 to R66). -/
def decideWriteTolerance (p : List Byte) (s : State) : State × Reply :=
  let t := intAt p 1 2
  withFace p (fun f s =>
    if !toleranceOk t then refuse .badField s
    else unlessCommit (fun s =>
      if s.config.geometryLock then refuse .geometryLocked s
      else if !s.writable f then refuse .faceBusy s
      else if !(s.geo f).spaced t then refuse .geometryInvalid s
      else accepted (s.setGeometry f { s.geo f with tolerance := t })) s) s

/-! ### Parameters (R67) -/

/-- One item of WRITE PARAMETERS brought into its range, and whether it was changed; none for no parameter, a code
outside its list, or the absent marker (R67, R165, log 20). -/
def readParam (p : List Byte) (at_ : Nat) : Option (Nat × Nat × Bool) :=
  let id := byteAt p at_
  let v := intAt p (at_ + 1) 4
  match paramRange id with
  | some (lo, hi) => if v = 0xFFFFFFFF then none else some (id, clamp lo hi v, clamp lo hi v ≠ v)
  | none => if (id = 13 || id = 20 || id = 21) && v ≤ 1 then some (id, v, false) else none

/-- The items of WRITE PARAMETERS; none when one is refused or a parameter is named twice (R67). -/
def readParams (p : List Byte) : Option (List (Nat × Nat × Bool)) :=
  let c := byteAt p 1
  if 1 ≤ c && c ≤ 21 then
    match allSome ((itemOffsets 2 5 c).map (readParam p)) with
    | none => none
    | some xs => if (xs.map Prod.fst).Nodup then some xs else none
  else none

/-- WRITE PARAMETERS (R67). -/
def decideWriteParameters (p : List Byte) (s : State) : State × Reply :=
  withFace p (fun f s => match readParams p with
    | none => refuse .badField s
    | some xs => unlessCommit (fun s =>
      if !s.writable f then refuse .faceBusy s
      else writeAnswer (xs.any (fun x => x.2.2))
        ([faceCode f, b8 xs.length] ++ xs.flatMap (fun x => paramItem x.1 x.2.1))
        (s.mapConfig (fun c => c.setPar f (xs.foldl (fun q x => q.put x.1 x.2.1) (s.par f))))) s) s

/-! ### Device parameters and reporting (R69) -/

/-- WRITE DEVICE PARAMETERS (R69). -/
def decideWriteDevice (p : List Byte) (s : State) : State × Reply :=
  let v := intAt p 0 2
  let w := clamp 500 10000 v
  match speedOf (byteAt p 2), speedOf (byteAt p 3) with
  | some a, some b =>
    if v = 0xFFFF then refuse .badField s
    else unlessCommit (fun s => writeAnswer (w ≠ v) (be16 w ++ [a.code, b.code])
      (s.mapConfig (fun c => { c with ilSilenceLimit := w, speedSl := a, speedIl := b }))) s
  | _, _ => refuse .badField s

/-- SET REPORTING; a REPORT frame that is now due is formed (R69, R161). On SL it is formed before the reply to this request,
which then waits; R156, R157 and R161 do not order the two (log 49). -/
def decideSetReporting (p : List Byte) (s : State) : State × Reply :=
  match linkOf (byteAt p 0), ixOf 4 (byteAt p 2), ixOf 6 (byteAt p 3) with
  | some l, some t, some u =>
    if 64 ≤ byteAt p 1 then refuse .badField s
    else unlessCommit (fun s => accepted
      ((s.mapConfig (fun c => c.setReporting l ⟨BitVec.ofNat 8 (byteAt p 1), t, u⟩)).considerReport l)) s
  | _, _, _ => refuse .badField s

/-! ### Profiles (R70, R71) -/

/-- The offsets strictly increase. -/
def increasing : List Nat → Bool
  | a :: b :: rest => a < b && increasing (b :: rest)
  | _ => true

/-- The definition that a WRITE CAR PROFILE carries (R70, R168). -/
def readCar (p : List Byte) : Option CarProfile :=
  let len := intAt p 2 2
  let offs := ((itemOffsets 5 2 5).map (fun o => intAt p o 2)).filter (fun o => o ≠ 0)
  if 8000 ≤ len && len ≤ 30000 && 1 ≤ byteAt p 4 && byteAt p 4 ≤ 5 && offs.length = byteAt p 4 && increasing offs
      && offs.all (fun o => 500 ≤ o && o ≤ len - 500) then some ⟨len, offs⟩ else none

/-- Some defined unit profile names a car profile (R70). -/
def WorkingCopy.carInUse (c : WorkingCopy) (i : Fin 24) : Bool :=
  c.units.toList.any (fun u => u.any (fun x => x.cars.contains i))

/-- Replace an entry of the Car Profile Library. -/
def WorkingCopy.putCar (c : WorkingCopy) (i : Fin 24) (o : Option CarProfile) : WorkingCopy :=
  { c with cars := put c.cars i o }

/-- WRITE CAR PROFILE (R70). -/
def decideWriteCar (p : List Byte) (s : State) : State × Reply :=
  match ixOf 24 (byteAt p 0), byteAt p 1 with
  | some i, 0 => unlessCommit (fun s =>
      if s.config.carInUse i then refuse .inUse s else accepted (s.mapConfig (fun c => c.putCar i none))) s
  | some i, 1 =>
    match readCar p with
    | none => refuse .badField s
    | some x => unlessCommit (fun s => accepted (s.mapConfig (fun c => c.putCar i (some x)))) s
  | _, _ => refuse .badField s

/-- The definition that a WRITE UNIT PROFILE carries (R71, R168). -/
def readUnit (p : List Byte) : Option UnitProfile :=
  let slots := ((List.range 8).map (fun k => byteAt p (5 + k))).filter (fun c => c ≠ 0xFF)
  if 1 ≤ byteAt p 2 && byteAt p 2 ≤ 8 && slots.length = byteAt p 2 && intAt p 3 2 ≤ 2000 then
    (allSome (slots.map (ixOf 24))).map (fun cs => ⟨cs, intAt p 3 2⟩)
  else none

/-- Replace an entry of the Unit Profile Library. -/
def WorkingCopy.putUnit (c : WorkingCopy) (i : Fin 16) (o : Option UnitProfile) : WorkingCopy :=
  { c with units := put c.units i o }

/-- WRITE UNIT PROFILE (R71). -/
def decideWriteUnit (p : List Byte) (s : State) : State × Reply :=
  match ixOf 16 (byteAt p 0), byteAt p 1 with
  | some i, 0 => unlessCommit (fun s => accepted (s.mapConfig (fun c => c.putUnit i none))) s
  | some i, 1 =>
    match readUnit p with
    | none => refuse .badField s
    | some x => unlessCommit (fun s =>
        if x.cars.all (fun k => (s.config.cars[k]).isSome) then
          accepted (s.mapConfig (fun c => c.putUnit i (some x)))
        else refuse .undefinedProfile s) s
  | _, _ => refuse .badField s

/-! ### Descriptors (R138) -/

/-- The greater of the two door unit counts, the limit of an EXPLICIT mask of a descriptor (R138). -/
def State.explicitLimit (s : State) : Nat := max (s.geo .f0).n (s.geo .f1).n

/-- The definition that a WRITE DESCRIPTOR carries, brought into range, and whether it was changed (R138, R165,
log 20). -/
def readDescriptor (limit : Nat) (p : List Byte) : Option (Descriptor × Bool) :=
  let hold := intAt p 9 2
  let lim := intAt p 11 4
  match actionOf (byteAt p 2), selectionOf (byteAt p 3) (intAt p 4 4) limit, triggerOf (byteAt p 8),
    flagOf (byteAt p 16), ixOf 96 (byteAt p 17) with
  | some a, some x, some t, some c, some n =>
    if hold = 0xFFFF || lim = 0xFFFFFFFF then none
    else some (⟨a, x, t, clamp 0 60000 hold, clamp 0 120000 lim, b8 (byteAt p 15), c, n⟩,
      clamp 0 60000 hold ≠ hold || clamp 0 120000 lim ≠ lim)
  | _, _, _, _, _ => none

/-- The descriptor is the current index of a running engine (R138). -/
def State.descriptorInUse (s : State) (i : Fin 96) : Bool :=
  let uses (f : Face) : Bool := (s.face f).engine.running && (s.face f).engine.current = some i
  uses .f0 || uses .f1

/-- Replace a descriptor. -/
def WorkingCopy.putDescriptor (c : WorkingCopy) (i : Fin 96) (o : Option Descriptor) : WorkingCopy :=
  { c with descriptors := put c.descriptors i o }

/-- A descriptor write that has passed its structural checks (R138). -/
def State.tryDescriptor (i : Fin 96) (o : Option Descriptor) (adjusted : Bool) (s : State) : State × Reply :=
  if s.descriptorInUse i then refuse .inUse s
  else writeAnswer adjusted (descriptorBytes i o) (s.mapConfig (fun c => c.putDescriptor i o))

/-- WRITE DESCRIPTOR (R138). With form 0 no byte after the form is examined, which R168 says of the profiles only (log 51). -/
def decideWriteDescriptor (p : List Byte) (s : State) : State × Reply :=
  match ixOf 96 (byteAt p 0), byteAt p 1 with
  | some i, 0 => unlessCommit (State.tryDescriptor i none false) s
  | some i, 1 =>
    match readDescriptor s.explicitLimit p with
    | none => refuse .badField s
    | some x => unlessCommit (State.tryDescriptor i (some x.1) x.2) s
  | _, _ => refuse .badField s

/-! ### The geometry lock (R72) -/

/-- LOCK GEOMETRY (R72). -/
def decideLock (s : State) : State × Reply :=
  unlessCommit (fun s => accepted (s.mapConfig (fun c => { c with geometryLock := true }))) s

/-- UNLOCK GEOMETRY (R72). -/
def decideUnlock (s : State) : State × Reply :=
  unlessCommit (fun s =>
    if s.maint then accepted (s.mapConfig (fun c => { c with geometryLock := false }))
    else refuse .notPermitted s) s

/-! ### COMMIT (R73) -/

/-- A commit begins: its content, generation and CRC are taken now, and it ends within 400 ms (R73). -/
def State.beginCommit (s : State) : State :=
  let gen := s.storedGen + 1
  { s with commit := some ⟨s.config, gen, crc16 (s.config.bytes gen), s.startTimer 400⟩ }

/-- COMMIT (R73). -/
def decideCommit (s : State) : State × Reply :=
  if s.commit.isSome then refuse .commitBusy s else accepted s.beginCommit

/-- Both faces have door units (R73, R75, R76). -/
def WorkingCopy.complete (c : WorkingCopy) : Bool := 1 ≤ c.geo0.n && 1 ≤ c.geo1.n

/-- The end of the commit in flight, if there is one (R73, R76). Where it clears CONFIG_INVALID, CLP of FACE 0 is computed
and reported before that of FACE 1 (order of the faces, log 36), and both before the COMMIT_DONE report (log 42). -/
def State.endCommit (s : State) : State :=
  match s.commit with
  | none => s
  | some c =>
    let s1 : State := { s with
      commit := none
      nv := .whole c.content c.gen c.crc
      storedGen := c.gen
      storedCrc := c.crc }
    let s2 : State := if s.config.complete && s.configInvalid then
        ((({ s1 with configInvalid := false } : State).recomputeClp .f0 none).recomputeClp .f1 none)
      else s1
    s2.report .system .commitDone .f0 none (be16 c.gen.toNat ++ be16 c.crc.toNat ++ [flag s2.configInvalid])

/-! ### Reads (R77, R138) -/

/-- READ GEOMETRY. -/
def decideReadGeometry (p : List Byte) (s : State) : State × Reply :=
  withFace p (fun f s => acceptedWith (geometryBytes f (s.geo f)) s) s

/-- READ PARAMETERS. -/
def decideReadParameters (p : List Byte) (s : State) : State × Reply :=
  withFace p (fun f s => acceptedWith (paramsBytes f (s.par f)) s) s

/-- READ ISOLATION. -/
def decideReadIsolation (p : List Byte) (s : State) : State × Reply :=
  withFace p (fun f s => acceptedWith (isolationBytes f (s.iso f)) s) s

/-- READ DEVICE PARAMETERS. -/
def decideReadDevice (s : State) : State × Reply := acceptedWith (deviceBytes s.config) s

/-- READ CAR PROFILE. -/
def decideReadCar (p : List Byte) (s : State) : State × Reply :=
  match ixOf 24 (byteAt p 0) with
  | none => refuse .badField s
  | some i => acceptedWith (carBytes i s.config.cars[i]) s

/-- READ UNIT PROFILE. -/
def decideReadUnit (p : List Byte) (s : State) : State × Reply :=
  match ixOf 16 (byteAt p 0) with
  | none => refuse .badField s
  | some i => acceptedWith (unitBytes i s.config.units[i]) s

/-- READ DESCRIPTOR. -/
def decideReadDescriptor (p : List Byte) (s : State) : State × Reply :=
  match ixOf 96 (byteAt p 0) with
  | none => refuse .badField s
  | some i => acceptedWith (descriptorBytes i s.config.descriptors[i]) s

end Sys2Proof.Machine
end

