-- ==== Sys2Proof/Machine/Status.lean ====
section
/-! DEFINITION. What GET STATUS, READ COUNTS, READ HISTORY and IDENTIFY return (R45, R58, R163, R168, R170). -/

namespace Sys2Proof.Machine

/-- A count of milliseconds kept within a 32-bit field (R165). -/
def sat32 (n : Nat) : Nat := min n 4294967295

/-! ### GET STATUS for a face -/

/-- A power group: member count, queue length, four history ages and the spacing remaining (R40, R170). -/
def State.groupBytes (s : State) (f : Face) (k : GroupIx) : List Byte :=
  let g := s.group f k
  [b8 ((s.geo f).members k), b8 g.queue.length]
    ++ g.history.toList.flatMap (fun t => opt16 (t.map (fun t => sat16 (elapsedMs s.msClock t.start))))
    ++ [b8 (min (timeLeft g.spacing s.msClock) 255)]

/-- A Start Queue entry: door unit, motion with class, age (R40, R170). -/
def entryBytes (now : Ms) (e : Entry) : List Byte :=
  [b8 e.door.val, packFlags [e.motion = .close, e.cls = .emergency]] ++ be16 (sat16 (elapsedMs now e.enqueued))

/-- The engine of a face (R151, R170). -/
def engineBytes (now : Ms) (e : Engine) : List Byte :=
  [e.state.code, opt8 (e.current.map (fun i => b8 i.val)), e.phase.code] ++ be32 (sat32 (timeLeft e.limitTimer now))
    ++ be16 (sat16 (timeLeft e.holdTimer now))
    ++ [b8 (e.followed.countP (fun x => x.2)), b8 (e.followed.countP (fun x => !x.2)), flag e.awaiting]
    ++ be16 e.errors.toNat
    ++ [opt8 (e.context.map (fun c => b8 c.1.val)), opt8 (e.context.map (fun c => c.2.code)), flag e.ended,
      opt8 (e.armed.map (fun i => b8 i.val))]

/-- The face reply (R170). -/
def State.faceStatus (s : State) (f : Face) : List Byte :=
  let x := s.face f
  let now := s.msClock
  [x.mode.mode.code, x.mode.generation, opt8 (x.mode.saved.map Mode.code), keyCode x.mode.key,
    flag x.mode.possession, flag x.mode.latch, flag x.mode.eoi,
    flag x.clp.value, x.clp.causes, b8 x.clp.notLocked, b8 x.clp.zones,
    x.berth.state.code, opt8 (x.align.grade.map Grade.code), b8 x.align.map.length, flag x.quiet]
    ++ be16 (sat16 (timeLeft x.quietTimer now)) ++ be16 x.boarding ++ be16 x.alighting
    ++ [opt8 (x.newest.map (fun i => b8 i.val))] ++ engineBytes now x.engine
    ++ (List.finRange 4).flatMap (s.groupBytes f)
    ++ (List.finRange 4).flatMap (fun k => (s.group f k).queue.flatMap (entryBytes now))

/-! ### GET STATUS for a door unit -/

/-- The door unit reply (R7, R61, R170; no state yet, log 16). -/
def State.doorStatus (s : State) (f : Face) (j : DoorIx) : List Byte :=
  let d := s.door f j
  let x := s.sense f j
  let now := s.msClock
  [opt8 (d.state.map DoorState.code), flag (s.isolated f j), opt8 (d.cause.map FaultCause.code), b8 d.attempts,
    flag d.pendingClose, opt8 (d.reqClass.map ReqClass.code)]
    ++ opt32 (d.state.map (fun _ => elapsedMs now d.entryTime))
    ++ [flag (s.served f j), x.tracker.code] ++ be16 x.boarding ++ be16 x.alighting
    ++ [flag x.deferral.isSome] ++ be16 (sat16 (timeLeft x.deferral now)) ++ [x.zone.code]
    ++ be16 (sat16 (timeLeft x.clearing now))
    ++ [opt8 ((x.episode.bind Episode.slot).map (fun i => b8 i.val)), inputBits (s.input f j)]

/-! ### GET STATUS for a berth -/

/-- The consist in four places, absent where it has no unit (R170); the unit count is 0 when none is held (log 38). -/
def consistBytes (o : Option Consist) : List Byte :=
  let us := (o.map Consist.units).getD []
  b8 us.length :: (List.range 4).flatMap (fun k =>
    [opt8 (us[k]?.map (fun u => b8 u.1.val)), opt8 (us[k]?.map (fun u => u.2.code))])

/-- The posted open; sources 0 and every other field absent when none is held (R170, log 16). -/
def postedBytes (o : Option Posted) : List Byte :=
  [(o.map Posted.sources).getD 0, opt8 (o.map (fun p => b8 p.sections.toNat))]
    ++ opt32 (o.map (fun p => p.doorMask.toNat)) ++ opt32 (o.map (fun p => p.postTime.toNat))
    ++ opt32 ((o.bind Posted.issueTime).map BitVec.toNat)

/-- A row of the Match Table (R170). -/
def rowBytes (r : MatchRow) : List Byte :=
  [b8 r.index, b8 r.unit, b8 r.car, b8 r.door] ++ be32i r.x
    ++ [r.outcome.code, opt8 (r.named.map (fun j => b8 j.val))]

/-- A row of the Flattened Door List, with outcome and door unit absent and d in place of x (R170). -/
def flatBytes (k : Nat) (e : FlatEntry) : List Byte :=
  [b8 k, b8 e.unit, b8 e.car, b8 e.door] ++ be32 e.d ++ [0xFF, 0xFF]

/-- The rows of a berth reply, one list of bytes for each (R170). -/
def State.berthRows (s : State) (f : Face) : List (List Byte) :=
  match (s.face f).align.table with
  | some t => t.map rowBytes
  | none => (s.berth f).flat.zipIdx.map (fun p => flatBytes (p.2 + 1) p.1)

/-- The rows that a berth reply carries on a link: 15 on SL and 14 on IL (R170). -/
def rowLimit : Link → Nat
  | .sl => 15
  | .il => 14

/-- The timer of a berth that is running, approach or settle (R94). -/
def Berth.runningTimer (b : Berth) : Option Timer :=
  match b.approachTimer with
  | some t => some t
  | none => b.settleTimer

/-- The saturation flags of a berth, absent with the speed (R170, log 16). -/
def Berth.satByte (b : Berth) : Byte :=
  match b.speed, b.predicted with
  | some v, some h => satFlags v.2 h.2
  | _, _ => 0xFF

/-- The berth reply from a first entry index (R94, R109, R170); the list length is 0 when no consist is held
(log 38), and the first row index is the index asked for, also where no row is carried (log 52). -/
def State.berthStatus (s : State) (l : Link) (f : Face) (first : Nat) : List Byte :=
  let b := s.berth f
  let a := (s.face f).align
  let rows := ((s.berthRows f).drop (first - 1)).take (rowLimit l)
  [b.state.code] ++ consistBytes b.consist ++ [b8 b.flat.length]
    ++ opt32 (b.ab1Time.map (fun t => t.1.toNat)) ++ opt32 (b.ab1Time.map (fun t => t.2.toNat))
    ++ opt32 (b.ab2Time.map BitVec.toNat)
    ++ opt16 (b.speed.map Prod.fst) ++ opt16i (b.predicted.map Prod.fst) ++ [b.satByte]
    ++ opt16i (b.measure.bind Measure.head) ++ [opt8 (b.measure.map Measure.flags)]
    ++ [opt8 ((b.measure.bind Measure.bridged).map (fun i => b8 i.val))]
    ++ opt32 (b.stopTime.map BitVec.toNat) ++ [flag b.release] ++ postedBytes b.posted
    ++ be32 (s.beams f).bits ++ be32 (sat32 (timeLeft b.runningTimer s.msClock))
    ++ [opt8 (a.grade.map Grade.code), b8 a.candidates, b8 a.map.length] ++ a.map.map (fun j => b8 j.val)
    ++ [b8 first, b8 rows.length] ++ rows.flatten

/-- GET STATUS on a link (R157, R170). -/
def decideGetStatus (l : Link) (p : List Byte) (s : State) : State × Reply :=
  match faceOf (byteAt p 1) with
  | none => refuse .badField s
  | some f =>
    match byteAt p 0 with
    | 0 => acceptedWith (s.faceStatus f) s
    | 1 =>
      match ixOf 32 (byteAt p 2) with
      | none => refuse .badField s
      | some j => if s.isFitted f j then acceptedWith (s.doorStatus f j) s else refuse .badField s
    | 2 =>
      if 1 ≤ byteAt p 2 && byteAt p 2 ≤ 48 then acceptedWith (s.berthStatus l f (byteAt p 2)) s
      else refuse .badField s
    | _ => refuse .badField s

/-! ### READ COUNTS and READ HISTORY -/

/-- READ COUNTS (R45). -/
def decideReadCounts (p : List Byte) (s : State) : State × Reply :=
  withFace p (fun f s => acceptedWith
    (be16 (s.face f).boarding ++ be16 (s.face f).alighting ++ [b8 (s.geo f).n]
      ++ (s.fitted f).flatMap (fun j => be16 (s.sense f j).boarding ++ be16 (s.sense f j).alighting)) s) s

/-- A slot of the Gap History Ring as returned (R58, R168). -/
def ringBytes (o : Option RingRecord) : List Byte :=
  match o with
  | none => List.replicate 9 0
  | some r =>
    [if r.ended.isSome then 2 else 1, b8 r.door.val] ++ be32 r.onset.toNat ++ opt16 (r.ended.map Prod.fst)
      ++ [opt8 (r.ended.map (fun e => e.2.code))]

/-- READ HISTORY (R58). -/
def decideReadHistory (p : List Byte) (s : State) : State × Reply :=
  withFace p (fun f s =>
    match ixOf 64 (byteAt p 1) with
    | none => refuse .badField s
    | some i =>
      if 1 ≤ byteAt p 2 && byteAt p 2 ≤ 8 then
        acceptedWith (opt8 ((s.face f).newest.map (fun i => b8 i.val))
          :: (List.range (byteAt p 2)).flatMap (fun k => ringBytes ((s.face f).ring[i + Fin.ofNat 64 k]))) s
      else refuse .badField s) s

/-! ### IDENTIFY -/

/-- The fields of leaf 2 (R77, R163, R168). -/
def State.leaf2 (s : State) : List Byte :=
  be16 s.storedGen.toNat ++ be16 s.storedCrc.toNat
    ++ [flag s.configInvalid, flag s.config.geometryLock, s.resetCause.code]

/-- IDENTIFY (R163, R167, R168). -/
def decideIdentify (p : List Byte) (s : State) : State × Reply :=
  match byteAt p 0 with
  | 0 => acceptedWith [2, 0x50, 0x45, 0x4C, 0x48, 0x41, 0x52, 0x54] s
  | 1 => acceptedWith [0x21, 0x40, 0x03, 2, 32, 4, 8, 96, 24, 16, 48] s
  | 2 => acceptedWith s.leaf2 s
  | _ => acceptedWith (List.replicate 7 0) s

end Sys2Proof.Machine
end

