-- ==== Sys2Proof/Machine/Requests.lean ====
section
/-! DEFINITION. The decisions of the interlocking's requests and of the supervisory commands, each in the order its
own rule gives (chapters 1, 3, 5, 7, 8, 9). -/

namespace Sys2Proof.Machine

/-! ### Requests of IL -/

/-- The consist of an ARRIVAL NOTICE; none when a structural value is out of its list (R80). -/
def readConsist (p : List Byte) : Option (List (Fin 16 × Orientation)) :=
  let u := byteAt p 1
  if 1 ≤ u && u ≤ 4 then
    allSome ((itemOffsets 2 2 u).map (fun o =>
      match ixOf 16 (byteAt p o), orientationOf (byteAt p (o + 1)) with
      | some a, some b => some (a, b)
      | _, _ => none))
  else none

/-- ARRIVAL NOTICE after its structural checks, by the berth state (R80). -/
def State.tryNotice (f : Face) (us : List (Fin 16 × Orientation)) (s : State) : State × Reply :=
  match (s.berth f).state with
  | .departing => refuse .berthState s
  | .movedFault => refuse .berthState s
  | st =>
    if st = .stopped && !s.allLocked f then refuse .faceBusy s
    else match s.config.flatten us with
      | .error c => refuse c s
      | .ok flat => accepted (s.arrivalTaken f ⟨us, flat⟩)

/-- ARRIVAL NOTICE (R80). -/
def decideArrival (p : List Byte) (s : State) : State × Reply :=
  withFace p (fun f s => match readConsist p with
    | none => refuse .badField s
    | some us => s.tryNotice f us) s

/-- DOOR RELEASE (R111, R112). -/
def decideRelease (p : List Byte) (s : State) : State × Reply :=
  withFace p (fun f s =>
    if (s.face f).mode.mode = .maintenance then refuse .wrongMode s
    else
      let take (s : State) : State × Reply := accepted (if (s.berth f).release then s else s.giveRelease f)
      match (s.berth f).state with
      | .empty => refuse .noTrain s
      | .notified => refuse .noTrain s
      | .approaching => refuse .noTrain s
      | .departing => refuse .noTrain s
      | .movedFault => refuse .berthState s
      | .arriving => take s
      | .settling => take s
      | .stopped => take s) s

/-- RELEASE WITHDRAW (R116). -/
def decideWithdraw (p : List Byte) (s : State) : State × Reply :=
  withFace p (fun f s => accepted (s.withdraw f)) s

/-- TRAIN AT REST (R85). -/
def decideAtRest (p : List Byte) (s : State) : State × Reply :=
  withFace p (fun f s =>
    if (s.berth f).state = .settling then accepted (s.enterStopped f .trainAtRest) else refuse .berthState s) s

/-- DEPARTED (R89). -/
def decideDeparted (p : List Byte) (s : State) : State × Reply :=
  withFace p (fun f s =>
    if (s.berth f).state = .stopped && !(s.berth f).release && (s.face f).clp.value then accepted (s.depart f)
    else refuse .notReady s) s

/-- POSSESSION GRANT (R131). -/
def decideGrant (p : List Byte) (s : State) : State × Reply :=
  withFace p (fun f s =>
    if (s.face f).mode.mode ≠ .maintenance then refuse .wrongMode s
    else if (s.berth f).state ≠ .empty then refuse .berthState s
    else accepted (s.grantPossession f)) s

/-- POSSESSION REVOKE (R131). -/
def decideRevoke (p : List Byte) (s : State) : State × Reply :=
  withFace p (fun f s => accepted (s.revokePossession f 3)) s

/-! ### Mode and door commands of SL -/

/-- SET MODE after its first check: the new state and the result (R124, R125). -/
def State.trySetMode (f : Face) (expected : Mode) (gen : Byte) (new : Mode) (s : State) : State × ResultCode :=
  let m := (s.face f).mode
  if new = .local_ then (s, .notPermitted)
  else if m.key ≠ .auto then (s, .keyswitch)
  else if expected ≠ m.mode || gen ≠ m.generation then (s, .modeMismatch)
  else if new = m.mode then (s, .accept)
  else if new = .maintenance && (s.berth f).state ≠ .empty then (s, .berthState)
  else if m.mode = .maintenance && !s.allLocked f then (s, .faceBusy)
  else (s.changeMode f new, .accept)

/-- The mode and generation that every SET MODE reply carries; free bytes when the request names no face (R124,
R168, log 15). -/
def State.modeBody (s : State) (face : Option Face) : State × List Byte :=
  match face with
  | some f => (s, [(s.face f).mode.mode.code, (s.face f).mode.generation])
  | none => ({ s with freeCount := s.freeCount + 2 }, [Config.freeByte s.freeCount, Config.freeByte (s.freeCount + 1)])

/-- The face that a SET MODE payload names by its first byte, whatever its length (R124, log 15). -/
def namedFace (p : List Byte) : Option Face := if p.isEmpty then none else faceOf (byteAt p 0)

/-- SET MODE with the checks of the link and of the length, its reply payload present with every result (R124,
R158, R168). -/
def decideSetMode (l : Link) (p : List Byte) (s : State) : State × Reply :=
  let r : State × ResultCode :=
    if !Owner.slOnly.allows l then (s, .wrongLink)
    else if !fixedLen 4 p then (s, .badLength)
    else match faceOf (byteAt p 0), modeOf (byteAt p 1), modeOf (byteAt p 3) with
      | some f, some a, some b => s.trySetMode f a (b8 (byteAt p 2)) b
      | _, _, _ => (s, .badField)
  let t := r.1.drain.modeBody (namedFace p)
  (t.1, ⟨r.2, t.2⟩)

/-- The reply payload of a DOOR COMMAND: the posted flag and the refusals in ascending order (R126, R168). -/
def commandBody (posted : Bool) (rs : List (DoorIx × ResultCode)) : List Byte :=
  let xs := rs.filter (fun x => x.2 ≠ .accept)
  [flag posted, b8 xs.length] ++ xs.flatMap (fun x => [b8 x.1.val, x.2.code])

/-- An OPEN of a DOOR COMMAND (R126). -/
def State.commandOpen (f : Face) (x : Selection) (s : State) : State × Reply :=
  match x.kind with
  | .explicit =>
    let r := s.requestAll f .open_ ((s.fitted f).filter (fun j => x.mask.getLsbD j.val))
    acceptedWith (commandBody false r.2) r.1
  | _ =>
    let r := s.openSelection f x.sections x.doorMask .supervisory
    match r.2 with
    | .posted => acceptedWith (commandBody true []) r.1
    | .issued rs => acceptedWith (commandBody false rs) r.1
    | .nothing => acceptedWith (commandBody false []) r.1

/-- The door units that a CLOSE of a DOOR COMMAND reaches (R126). R126 gives the ascending order of an OPEN of EXPLICIT; that a
CLOSE takes them ascending too is the model's choice (log 53). -/
def State.commandReach (s : State) (f : Face) (x : Selection) : List DoorIx :=
  match x.kind with
  | .served => s.map f
  | .sections => (s.fitted f).filter (fun j => s.inSections f j x.sections)
  | .explicit => (s.fitted f).filter (fun j => x.mask.getLsbD j.val)

/-- A CLOSE of a DOOR COMMAND, door unit by door unit in the order of `State.commandReach` (R16, R126, log 53). -/
def State.commandClose (f : Face) (x : Selection) (s : State) : State × Reply :=
  let r := s.requestAll f .close (s.commandReach f x)
  acceptedWith (commandBody false r.2) r.1

/-- DOOR COMMAND (R126). -/
def decideDoorCommand (p : List Byte) (s : State) : State × Reply :=
  withFace p (fun f s =>
    match selectionOf (byteAt p 2) (intAt p 3 4) (s.geo f).n with
    | none => refuse .badField s
    | some x =>
      if 2 ≤ byteAt p 1 then refuse .badField s
      else if (s.face f).mode.mode = .automatic || (s.face f).mode.mode = .local_ then refuse .wrongMode s
      else if byteAt p 1 = 0 then s.commandOpen f x
      else s.commandClose f x) s

/-! ### Isolation, DOOR RESET and ACK GAP -/

/-- ISOLATE (R25, R63). -/
def decideIsolate (p : List Byte) (s : State) : State × Reply :=
  withDoor p (fun f j s => unlessCommit (fun s =>
    if (s.door f j).state ≠ some .locked then refuse .notLocked s
    else if s.served f j then refuse .served s
    else if s.isolated f j then accepted s
    else accepted ((s.setIsolated f j true).reportDoor f j)) s) s

/-- RESTORE (R25, R63, R133). Under the emergency latch the DOOR_EVENT of the isolation change, which shows LOCKED, is made
before the EMERGENCY OPEN; no rule orders the two (log 48). An isolated door unit that has no state yet is restored too, with
no state in its DOOR_EVENT: R25 has RESTORE in every state, and that this takes in no state is the model's choice (log 56). -/
def decideRestore (p : List Byte) (s : State) : State × Reply :=
  withDoor p (fun f j s => unlessCommit (fun s =>
    if s.isolated f j then accepted (((s.setIsolated f j false).reportDoor f j).emergencyIfLocked f j)
    else accepted s) s) s

/-- DOOR RESET (R26). -/
def decideDoorReset (p : List Byte) (s : State) : State × Reply :=
  withDoor p (fun f j s =>
    if (s.door f j).state = some .fault then accepted (s.resolve f j) else refuse .notFaulted s) s

/-- ACK GAP (R54). -/
def decideAckGap (p : List Byte) (s : State) : State × Reply :=
  withDoor p (fun f j s =>
    if (s.sense f j).zone = .latched then accepted (s.leaveZone f j .watch .acknowledged)
    else refuse .notLatched s) s

/-! ### Face commands -/

/-- FACE RESET (R91). -/
def decideFaceReset (p : List Byte) (s : State) : State × Reply :=
  withFace p (fun f s => accepted (s.resetFace f)) s

/-- BERTH ACK (R88). -/
def decideBerthAck (p : List Byte) (s : State) : State × Reply :=
  withFace p (fun f s =>
    if (s.berth f).state ≠ .movedFault then refuse .berthState s
    else if !s.atRest f then refuse .faceBusy s
    else accepted (s.ackBerth f)) s

/-- EVACUATE (R132). -/
def decideEvacuate (p : List Byte) (s : State) : State × Reply :=
  withFace p (fun f s => accepted (if (s.face f).mode.latch then s else s.setLatch f 1)) s

/-- EMERGENCY CLEAR (R134). -/
def decideEmergencyClear (p : List Byte) (s : State) : State × Reply :=
  withFace p (fun f s =>
    if (s.face f).mode.eoi then refuse .eoiActive s
    else accepted (if (s.face f).mode.latch then s.clearLatch f else s)) s

/-! ### Program commands (R140, R149, R150) -/

/-- START PROGRAM (R140). -/
def decideStart (p : List Byte) (s : State) : State × Reply :=
  withFace p (fun f s =>
    match ixOf 96 (byteAt p 1) with
    | none => refuse .badField s
    | some i =>
      if (s.face f).mode.mode ≠ .automatic then refuse .wrongMode s
      else if (s.face f).engine.running then refuse .programBusy s
      else if (s.descriptor i).isNone then refuse .badDescriptor s
      else accepted (s.startAt f i 0)) s

/-- HALT PROGRAM (R149). -/
def decideHalt (p : List Byte) (s : State) : State × Reply :=
  withFace p (fun f s => accepted (s.haltProgram f)) s

/-- RESUME PROGRAM (R149). -/
def decideResume (p : List Byte) (s : State) : State × Reply :=
  withFace p (fun f s =>
    if (s.face f).mode.mode ≠ .automatic then refuse .wrongMode s
    else if (s.face f).engine.running then refuse .programBusy s
    else if (s.face f).engine.state = .idle then refuse .notWaiting s
    else accepted (s.resumeProgram f)) s

/-- STEP PROGRAM (R149). -/
def decideStep (p : List Byte) (s : State) : State × Reply :=
  withFace p (fun f s =>
    if (s.face f).engine.state = .waiting then accepted (s.issueAction f) else refuse .notWaiting s) s

/-- CLEAR PROGRAM ERRORS (R149). -/
def decideClearErrors (p : List Byte) (s : State) : State × Reply :=
  withFace p (fun f s => accepted (s.mapEngine f (fun e => { e with errors := 0, context := none }))) s

/-- ARM PROGRAM (R150). -/
def decideArm (p : List Byte) (s : State) : State × Reply :=
  withFace p (fun f s =>
    match ixOf 96 (byteAt p 1) with
    | none => refuse .badField s
    | some i =>
      if (s.descriptor i).isNone then refuse .badDescriptor s
      else accepted (s.mapEngine f (fun e => { e with armed := some i }))) s

/-- DISARM PROGRAM (R150). -/
def decideDisarm (p : List Byte) (s : State) : State × Reply :=
  withFace p (fun f s => accepted (s.mapEngine f (fun e => { e with armed := none }))) s

end Sys2Proof.Machine
end

