-- ==== Sys2Proof/Machine/Links.lean ====
section
/-! DEFINITION. The Link Controllers: receiving, the receive queue, and the taking and answering of a request
(sections 10.2 to 10.5, 10.8). -/

namespace Sys2Proof.Machine

/-! ### Valid frames (R118, R154, R155, R162) -/

/-- A valid IL frame restarts the silence timer and clears IL_LOST (R118, R162). -/
def State.interlockSpoke (s : State) : State :=
  let t : State := { s with silence := some (s.startTimer s.config.ilSilenceLimit) }
  if s.ilLost then ({ t with ilLost := false } : State).reportLinkState 1 else t

/-- A valid frame is offered to the receive queue of a link (R155). -/
def State.offerFrame (l : Link) (x : Frame) (s : State) : State :=
  if (s.link l).rxQueue.length < 4 then s.mapLink l (fun k => { k with rxQueue := k.rxQueue ++ [x] })
  else s.mapLink l (fun k => { k with linkOverrun := true })

/-- A valid frame arrives on a link: the receiver hunts again, the silence timer of IL is told, and the frame is
offered to the receive queue (R154, R155, R162). -/
def State.frameArrives (l : Link) (x : Frame) (s : State) : State :=
  let t := s.mapLink l (fun k => { k with receiver := .hunting })
  (match l with | .sl => t | .il => t.interlockSpoke).offerFrame l x

/-! ### Bytes (R153, R154) -/

/-- The receiver of a link. -/
def State.setReceiver (l : Link) (r : Receiver) (s : State) : State := s.mapLink l (fun k => { k with receiver := r })

/-- A byte taken while hunting: 0xC3 begins a frame, and any other is dropped (R154). -/
def State.huntByte (l : Link) (b : Byte) (s : State) : State :=
  s.setReceiver l (if b = 0xC3 then .collecting [] s.msClock else .hunting)

/-- The frame whose bytes after the start byte have all been taken, if its CRC matches (R153). -/
def frameOf (bs : List Byte) : Option Frame :=
  match bs with
  | len :: kind :: tag :: rest =>
    let x : Frame := ⟨kind, tag, rest.take len.toNat⟩
    if rest.drop len.toNat = crcBytes (crc16 (frameBody x)) then some x else none
  | _ => none

/-- A byte of a frame under collection is accepted (R154). -/
def State.collectByte (l : Link) (bs : List Byte) (s : State) : State :=
  let len := byteAt bs 0
  if 248 < len then s.setReceiver l .hunting
  else if bs.length < len + 5 then s.setReceiver l (.collecting bs s.msClock)
  else match frameOf bs with
    | some x => s.frameArrives l x
    | none => s.setReceiver l .hunting

/-- A byte is received on a link with its stop bit (R154). -/
def State.takeByte (l : Link) (b : Byte) (s : State) : State :=
  match (s.link l).receiver with
  | .hunting => s.huntByte l b
  | .collecting got last =>
    if 3 < elapsedMs s.msClock last then s.huntByte l b else s.collectByte l (got ++ [b])

/-- A frame under collection is abandoned (R154). A byte without its stop bit while the receiver is hunting is dropped and changes
nothing, also a byte of 0xC3: the table of R154 speaks of collecting only, and this is the model's choice (log 55). -/
def State.abandonFrame (l : Link) (c : AbandonCause) (s : State) : State :=
  match (s.link l).receiver with
  | .hunting => s
  | .collecting _ _ =>
    match c with
    | .byteGap b => s.huntByte l b
    | .badLength => s.setReceiver l .hunting
    | .noStopBit => s.setReceiver l .hunting
    | .badCrc => s.setReceiver l .hunting

/-! ### Silence of IL (R118) -/

/-- The silence timer has expired: IL_LOST, a withdrawal of each face, and the LINK_STATE report (R118). FACE 0 withdraws
before FACE 1 (order of the faces, log 36). R118 gives the LINK_STATE report no place among the reports of the withdrawals; that
it is made after them is the model's choice (log 57). -/
def State.interlockLost (s : State) : State :=
  let t : State := { s with ilLost := true, silence := none }
  ((t.withdraw .f0).withdraw .f1).reportLinkState 0

/-! ### Taking and answering a request (R155 to R158) -/

/-- A request of the link is still being answered: its reply waits or is being sent (R155). -/
def State.answering (s : State) (l : Link) : Bool :=
  (s.link l).waiting.isSome || (s.link l).tx.any Sending.isReply

/-- The frame can be taken now: it is the head of the receive queue and no request is being answered (R155). -/
def State.canTake (s : State) (l : Link) (x : Frame) : Bool :=
  !s.answering l && (s.link l).rxQueue.head? = some x

/-- The head frame leaves the receive queue (R155). -/
def State.popFrame (l : Link) (s : State) : State := s.mapLink l (fun k => { k with rxQueue := k.rxQueue.tail })

/-- The frame of a request command is the head of the receive queue, ready to be taken, or else it arrives now
(log 4). -/
def State.present (l : Link) (x : Frame) (s : State) : State :=
  if s.canTake l x then s else s.frameArrives l x

/-- An accepted GET STATUS clears the overrun flags of its link, after its reply has been built (R157). -/
def State.clearOverruns (l : Link) (x : Frame) (c : ResultCode) (s : State) : State :=
  if x.kind = 0x09#8 && c = .accept then
    s.mapLink l (fun k => { k with reportOverrun := false, linkOverrun := false })
  else s

/-- The head frame is taken, decided and answered (R155 to R157). The engines are told all that the decision brought
before the reply is built, and a REPORT frame that the decision makes due on a free transmitter goes out before the reply
(log 49). -/
def State.answer (l : Link) (x : Frame) (decide : State → State × Reply) (s : State) : State :=
  let r := decide (s.popFrame l)
  let t := r.1.drain
  (t.clearOverruns l x r.2.code).sendReply l (t.replyFrame l x r.2)

/-- A request command on a powered controller: the frame is present, and it is answered if it can be taken now, and
waits in the queue otherwise (log 4). A payload that no frame can carry does nothing (log 31). -/
def State.serve (l : Link) (x : Frame) (decide : State → State × Reply) (s : State) : State :=
  if s.powered && x.payload.length ≤ 248 then
    let t := s.present l x
    if t.canTake l x then t.answer l x decide else t.drain
  else s

/-- A frame that is no request is taken in its turn, dropped, and not answered (R155). -/
def State.dropFrame (l : Link) (x : Frame) (s : State) : State :=
  if s.powered && x.payload.length ≤ 248 && 0x80 ≤ x.kind.toNat then
    let t := s.present l x
    (if t.canTake l x then t.popFrame l else t).drain
  else s

/-- The KIND names no request (R158). -/
def unknownKind (l : Link) (x : Frame) : Bool :=
  Instr.ofFrame l x = .unknownKind l x.kind x.tag x.payload

end Sys2Proof.Machine
end

