-- ==== Sys2Proof/Machine/Start.lean ====
section
/-! DEFINITION. Power-on, the RESET pin, the first complete scan and loss of power (R4, R27, R74, R75, R91, R122,
R136, R152, R164). -/

namespace Sys2Proof.Machine

/-- What the stored copy gives at start (R75). -/
structure Loaded where
  config : WorkingCopy
  invalid : Bool
  gen : Word16
  crc : Word16
  deriving DecidableEq, Repr

/-- The three outcomes of the load; storage whose CRC does not check is as storage never written (R75). -/
def NvStore.load : NvStore → Loaded
  | .neverWritten => ⟨WorkingCopy.default, true, 0, 0⟩
  | .torn => ⟨WorkingCopy.default, true, 0, 0⟩
  | .whole c gen crc =>
    if crc = crc16 (c.bytes gen) then ⟨c, !c.complete, gen, crc⟩ else ⟨WorkingCopy.default, true, 0, 0⟩

/-- A commit in flight is abandoned: its storage no longer matches its CRC (R74). -/
def State.nvAfterCut (s : State) : NvStore := if s.commit.isSome then .torn else s.nv

/-- The start mode of a face (R75). -/
def Loaded.startMode (x : Loaded) (p : Params) : Mode :=
  if x.invalid then .maintenance else if p.startSupervised then .supervised else .automatic

/-- The units of a face at start, from its parameters and first readings (R78, R91, R132, R136). -/
def faceAtStart (x : Loaded) (p : Params) (r : FaceReadings) : FaceState :=
  let b : Beams := ⟨r.ab1, r.ab2, r.sw⟩
  let base := FaceState.start (x.startMode p)
  { base with
    beams := b
    berth := Berth.resolved b ⟨0, p.stopSettle⟩
    mode := { base.mode with latch := r.eoi, eoi := r.eoi } }

/-- The first reading of a keyswitch that shows one position (R127, R136). -/
def State.firstKey (f : Face) (o : Option KeyPos) (s : State) : State :=
  match o with
  | none => s
  | some pos => s.keyAccepted f pos

/-- The controller before the first keyswitch readings: everything at its start value (R164 and the start rules of
each chapter; clocks, log 5). -/
def State.startValues (cause : ResetCause) (r : StartReadings) (s : State) : State :=
  let x := s.nvAfterCut.load
  { powered := true
    msClock := 0
    usClock := 0
    usPhase := 0
    scanDone := false
    scanPhase := 0
    fieldOut := Vector.replicate 64 ⟨.off, .off⟩
    maint := r.maint
    config := x.config
    configInvalid := x.invalid
    storedGen := x.gen
    storedCrc := x.crc
    resetCause := cause
    commit := none
    nv := s.nvAfterCut
    speedSl := x.config.speedSl
    speedIl := x.config.speedIl
    f0 := faceAtStart x x.config.par0 r.f0
    f1 := faceAtStart x x.config.par1 r.f1
    sl := LinkState.start
    il := LinkState.start
    silence := none
    ilLost := true
    notices := []
    freeCount := s.freeCount
    pending := s.pending }

/-- Power-on or a RESET pin pulse (R75). The first keyswitch reading of FACE 0, with its report, is taken before that of
FACE 1 (order of the faces, log 36). -/
def State.start (cause : ResetCause) (r : StartReadings) (s : State) : State :=
  (((s.startValues cause r).firstKey .f0 r.f0.key).firstKey .f1 r.f1.key)

/-- Loss of power: a commit in flight is abandoned, a frame being sent is cut off, and no line or drive is active
(R74, R153, log 8). -/
def State.cutPower (s : State) : State :=
  { s with
    powered := false
    commit := none
    nv := s.nvAfterCut
    fieldOut := Vector.replicate 64 ⟨.off, .off⟩
    sl := { s.sl with tx := none }
    il := { s.il with tx := none } }

/-- The debounced inputs that the first complete scan gives (R4, R5). -/
def State.setInputs (v : Vector DoorInputs 64) (s : State) : State :=
  { s with
    f0 := { s.f0 with inputs := Vector.ofFn (fun j : Fin 32 => v[j.val]) }
    f1 := { s.f1 with inputs := Vector.ofFn (fun j : Fin 32 => v[32 + j.val]) } }

/-- The first complete scan: every fitted door unit of both faces is resolved, and CLP is first computed (R4, R27,
R122). FACE 0 is resolved and its CLP computed, reports included, before FACE 1 (order of the faces, log 36). -/
def State.firstScan (v : Vector DoorInputs 64) (s : State) : State :=
  let t : State := { s.setInputs v with scanDone := true }
  (t.resolveNew .f0 (t.fitted .f0)).resolveNew .f1 (t.fitted .f1)

end Sys2Proof.Machine
end

