-- ==== Sys2Proof/Machine/Events.lean ====
section
/-! DEFINITION. The meanings of the event commands: one definition for each row of the table that is an event. A
controller without power takes none but POWER_ON (log 8). A timer's expiry acts only while the timer runs, and a
timer that is not yet due brings the clock to its due reading (log 3). -/

namespace Sys2Proof.Machine

/-- What a meaning answers. -/
abbrev Answer := Host.Outcome State Fault Refusal

/-- An event on a powered controller: its effect, and then what it brings to the engines (log 10). -/
def State.event (op : State → State) (s : State) : Answer := .next (if s.powered then (op s).drain else s)

/-- The expiry of a timer that may be running (R1, log 3). -/
def State.expiry (t : Option Timer) (op : State → State) (s : State) : State :=
  match t with
  | none => s
  | some t => op (s.reach t)

/-! ### Start and power -/

/-- POWER_ON (R75). -/
def execPowerOn (r : StartReadings) (s : State) : Answer := .next ((s.start .power r).drain)

/-- RESET_PIN (R74, R75). -/
def execResetPin (r : StartReadings) (s : State) : Answer := s.event (State.start .pin r)

/-- FIRST_COMPLETE_SCAN (R4, R27). There is one after each start. -/
def execFirstCompleteScan (v : Vector DoorInputs 64) (s : State) : Answer :=
  s.event (fun s => if s.scanDone then s else s.firstScan v)

/-- LOSS_OF_POWER (R74). -/
def execLossOfPower (s : State) : Answer := s.event State.cutPower

/-! ### Field inputs -/

/-- DOOR_INPUT_CHANGE (R14). None is delivered before the first complete scan (R4). -/
def execDoorInputChange (f : Face) (j : DoorIx) (v : LeafSignals) (s : State) : Answer :=
  s.event (fun s => if s.scanDone then s.doorChange f j v else s)

/-- SENSING_INPUT_CHANGE (R41). None is delivered before the first complete scan (R4). -/
def execSensingInputChange (f : Face) (j : DoorIx) (v : SenseSignals) (s : State) : Answer :=
  s.event (fun s => if s.scanDone then s.senseChange f j v else s)

/-! ### Door timers -/

/-- UNLATCH_SETTLE_EXPIRY (R10). -/
def execUnlatchSettleExpiry (f : Face) (j : DoorIx) (s : State) : Answer :=
  s.event (fun s =>
    if (s.door f j).state = some .unlatched then s.expiry (s.door f j).timer (State.openEntry f j) else s)

/-- RECLOSE_DELAY_EXPIRY (R21). -/
def execRecloseDelayExpiry (f : Face) (j : DoorIx) (s : State) : Answer :=
  s.event (fun s =>
    if (s.door f j).state = some .recloseHold then
      s.expiry (s.door f j).timer (State.enter f j .closeWait id)
    else s)

/-- DOOR_TIMEOUT_EXPIRY (R8). -/
def execDoorTimeoutExpiry (f : Face) (j : DoorIx) (s : State) : Answer :=
  s.event (fun s =>
    match (s.door f j).state.bind DoorState.timeoutCause with
    | none => s
    | some c => s.expiry (s.door f j).timer (State.enterFault f j c))

/-! ### Arbiter timers -/

/-- SPACING_HOLD_EXPIRY (R35). -/
def execSpacingHoldExpiry (f : Face) (g : GroupIx) (s : State) : Answer :=
  s.event (fun s => s.expiry (s.group f g).spacing
    (fun s => (s.mapGroup f g (fun x => { x with spacing := none })).evalGrants f g))

/-- HISTORY_SLOT_EMPTIED (R34). -/
def execHistorySlotEmptied (f : Face) (g : GroupIx) (slot : Fin 4) (s : State) : Answer :=
  s.event (fun s => s.expiry (s.group f g).history[slot]
    (fun s => (s.mapGroup f g (fun x => { x with history := put x.history slot none })).evalGrants f g))

/-! ### Sensing timers -/

/-- QUIET_TIMER_EXPIRY (R46). -/
def execQuietTimerExpiry (f : Face) (s : State) : Answer :=
  s.event (fun s => s.expiry (s.face f).quietTimer
    (fun s =>
      let t := s.mapFace f (fun x => { x with quietTimer := none })
      if (t.map f).isEmpty then t else t.setQuiet f true))

/-- DEFERRAL_TIMER_EXPIRY (R49). -/
def execDeferralTimerExpiry (f : Face) (j : DoorIx) (s : State) : Answer :=
  s.event (fun s => s.expiry (s.sense f j).deferral (State.deferralExpired f j))

/-- CLEARING_TIMER_EXPIRY (R52). -/
def execClearingTimerExpiry (f : Face) (j : DoorIx) (s : State) : Answer :=
  s.event (fun s => s.expiry (s.sense f j).clearing (State.clearingExpired f j))

/-! ### Beams and berth timers -/

/-- AB1_CHANGE (R78, R81). -/
def execAb1Change (f : Face) (v : Bool) (t : Us) (s : State) : Answer :=
  s.event (fun s => s.beamChange (s.beams f).ab1 v t (State.ab1Changed f v))

/-- AB2_CHANGE (R78, R82). -/
def execAb2Change (f : Face) (v : Bool) (t : Us) (s : State) : Answer :=
  s.event (fun s => s.beamChange (s.beams f).ab2 v t (State.ab2Changed f v))

/-- SW_BEAM_CHANGE (R78, R84). -/
def execSwBeamChange (f : Face) (i : Fin 25) (v : Bool) (t : Us) (s : State) : Answer :=
  s.event (fun s => s.beamChange (s.beams f).sw[i] v t (State.swChanged f i v))

/-- APPROACH_TIMER_EXPIRY (R83). -/
def execApproachTimerExpiry (f : Face) (s : State) : Answer :=
  s.event (fun s =>
    if (s.berth f).state = .approaching then s.expiry (s.berth f).approachTimer (State.approachOver f) else s)

/-- SETTLE_TIMER_EXPIRY (R85). -/
def execSettleTimerExpiry (f : Face) (s : State) : Answer :=
  s.event (fun s =>
    if (s.berth f).state = .settling then
      s.expiry (s.berth f).settleTimer (State.enterStopped f .settleTimer)
    else s)

/-- POSTING_TIMER_EXPIRY (R114). -/
def execPostingTimerExpiry (f : Face) (s : State) : Answer :=
  s.event (fun s => s.expiry (s.berth f).postingTimer (State.issuePosted f))

/-! ### Lines -/

/-- KEYSWITCH_CHANGE (R127). -/
def execKeyswitchChange (f : Face) (pos : KeyPos) (s : State) : Answer := s.event (State.keyAccepted f pos)

/-- EOI_CHANGE (R132). -/
def execEoiChange (f : Face) (active : Bool) (s : State) : Answer := s.event (State.eoiAccepted f active)

/-- MAINT_CHANGE (R72). -/
def execMaintChange (active : Bool) (s : State) : Answer := s.event (fun s => { s with maint := active })

/-! ### Store and link events -/

/-- COMMIT_END (R73, log 23). -/
def execCommitEnd (s : State) : Answer := s.event State.endCommit

/-- IL_SILENCE_TIMER_EXPIRY (R118). -/
def execIlSilenceTimerExpiry (s : State) : Answer :=
  s.event (fun s => s.expiry s.silence State.interlockLost)

/-- VALID_FRAME_RECEIVED (R155). A payload that no frame can carry does nothing (log 31). -/
def execValidFrameReceived (l : Link) (x : Frame) (s : State) : Answer :=
  s.event (fun s => if x.payload.length ≤ 248 then s.frameArrives l x else s)

/-- FRAME_ABANDONED (R154). -/
def execFrameAbandoned (l : Link) (c : AbandonCause) (s : State) : Answer := s.event (State.abandonFrame l c)

/-- TRANSMIT_COMPLETE (R156). -/
def execTransmitComplete (l : Link) (s : State) : Answer :=
  s.event (fun s => if (s.link l).tx.isSome then s.transmitterFree l else s)

/-- FLUSH_TIMER_EXPIRY (R161). -/
def execFlushTimerExpiry (l : Link) (s : State) : Answer :=
  s.event (fun s => s.expiry (s.link l).flushTimer (State.flushExpired l))

/-- BYTE_RECEIVED (R154). -/
def execByteReceived (l : Link) (b : Byte) (s : State) : Answer := s.event (State.takeByte l b)

/-! ### Engine timers -/

/-- LIMIT_TIMER_EXPIRY (R145). -/
def execLimitTimerExpiry (f : Face) (s : State) : Answer :=
  s.event (fun s => s.expiry (s.face f).engine.limitTimer (State.limitOver f))

/-- HOLD_TIMER_EXPIRY (R146). -/
def execHoldTimerExpiry (f : Face) (s : State) : Answer :=
  s.event (fun s => s.expiry (s.face f).engine.holdTimer (State.holdOver f))

end Sys2Proof.Machine
end

