-- ==== Sys2Proof/Machine/Commands.lean ====
section
/-! DEFINITION. The meanings of the request commands: one definition for each request row of the table, the frame it
is, the links it belongs to, the length it needs (R158, R168), and its decision. -/

namespace Sys2Proof.Machine

/-- UNKNOWN_KIND: refused UNKNOWN_KIND on either link (R158). A command whose KIND names a request, or is no request,
does nothing (log 31). -/
def execUnknownKind (l : Link) (k t : Byte) (p : List Byte) (s : State) : Answer :=
  .next (if unknownKind l ⟨k, t, p⟩ then s.serve l ⟨k, t, p⟩ (refuse .unknownKind) else s)

/-- NON_REQUEST_FRAME: a KIND of 0x80 or above is dropped unanswered (R155). -/
def execNonRequestFrame (l : Link) (k t : Byte) (p : List Byte) (s : State) : Answer :=
  .next (s.dropFrame l ⟨k, t, p⟩)

/-- ARRIVAL_NOTICE (R80). -/
def execArrivalNotice (l : Link) (t : Byte) (p : List Byte) (s : State) : Answer :=
  .next (s.serve l ⟨0x01#8, t, p⟩ (checked .ilOnly l (countedLen 2 1 2 p) (decideArrival p)))

/-- DOOR_RELEASE (R111). -/
def execDoorRelease (l : Link) (t : Byte) (p : List Byte) (s : State) : Answer :=
  .next (s.serve l ⟨0x02#8, t, p⟩ (checked .ilOnly l (fixedLen 1 p) (decideRelease p)))

/-- RELEASE_WITHDRAW (R116). -/
def execReleaseWithdraw (l : Link) (t : Byte) (p : List Byte) (s : State) : Answer :=
  .next (s.serve l ⟨0x03#8, t, p⟩ (checked .ilOnly l (fixedLen 1 p) (decideWithdraw p)))

/-- TRAIN_AT_REST (R85). -/
def execTrainAtRest (l : Link) (t : Byte) (p : List Byte) (s : State) : Answer :=
  .next (s.serve l ⟨0x04#8, t, p⟩ (checked .ilOnly l (fixedLen 1 p) (decideAtRest p)))

/-- DEPARTED (R89). -/
def execDeparted (l : Link) (t : Byte) (p : List Byte) (s : State) : Answer :=
  .next (s.serve l ⟨0x05#8, t, p⟩ (checked .ilOnly l (fixedLen 1 p) (decideDeparted p)))

/-- POSSESSION_GRANT (R131). -/
def execPossessionGrant (l : Link) (t : Byte) (p : List Byte) (s : State) : Answer :=
  .next (s.serve l ⟨0x06#8, t, p⟩ (checked .ilOnly l (fixedLen 1 p) (decideGrant p)))

/-- POSSESSION_REVOKE (R131). -/
def execPossessionRevoke (l : Link) (t : Byte) (p : List Byte) (s : State) : Answer :=
  .next (s.serve l ⟨0x07#8, t, p⟩ (checked .ilOnly l (fixedLen 1 p) (decideRevoke p)))

/-- IDENTIFY (R163). -/
def execIdentify (l : Link) (t : Byte) (p : List Byte) (s : State) : Answer :=
  .next (s.serve l ⟨0x08#8, t, p⟩ (checked .both l (fixedLen 1 p) (decideIdentify p)))

/-- GET_STATUS_FACE (R170). -/
def execGetStatusFace (l : Link) (t : Byte) (p : List Byte) (s : State) : Answer :=
  .next (s.serve l ⟨0x09#8, t, p⟩ (checked .both l (fixedLen 3 p) (decideGetStatus l p)))

/-- GET_STATUS_DOOR_UNIT (R170). -/
def execGetStatusDoorUnit (l : Link) (t : Byte) (p : List Byte) (s : State) : Answer :=
  .next (s.serve l ⟨0x09#8, t, p⟩ (checked .both l (fixedLen 3 p) (decideGetStatus l p)))

/-- GET_STATUS_BERTH (R170). -/
def execGetStatusBerth (l : Link) (t : Byte) (p : List Byte) (s : State) : Answer :=
  .next (s.serve l ⟨0x09#8, t, p⟩ (checked .both l (fixedLen 3 p) (decideGetStatus l p)))

/-- WRITE_GEOMETRY (R64 to R66). -/
def execWriteGeometry (l : Link) (t : Byte) (p : List Byte) (s : State) : Answer :=
  .next (s.serve l ⟨0x10#8, t, p⟩ (checked .slOnly l (countedLen 12 1 6 p) (decideWriteGeometry p)))

/-- WRITE_TOLERANCE (R65). -/
def execWriteTolerance (l : Link) (t : Byte) (p : List Byte) (s : State) : Answer :=
  .next (s.serve l ⟨0x11#8, t, p⟩ (checked .slOnly l (fixedLen 3 p) (decideWriteTolerance p)))

/-- WRITE_PARAMETERS (R67). -/
def execWriteParameters (l : Link) (t : Byte) (p : List Byte) (s : State) : Answer :=
  .next (s.serve l ⟨0x12#8, t, p⟩ (checked .slOnly l (countedLen 2 1 5 p) (decideWriteParameters p)))

/-- WRITE_DEVICE_PARAMETERS (R69). -/
def execWriteDeviceParameters (l : Link) (t : Byte) (p : List Byte) (s : State) : Answer :=
  .next (s.serve l ⟨0x13#8, t, p⟩ (checked .slOnly l (fixedLen 4 p) (decideWriteDevice p)))

/-- SET_REPORTING (R69). -/
def execSetReporting (l : Link) (t : Byte) (p : List Byte) (s : State) : Answer :=
  .next (s.serve l ⟨0x14#8, t, p⟩ (checked .slOnly l (fixedLen 4 p) (decideSetReporting p)))

/-- WRITE_CAR_PROFILE (R70). -/
def execWriteCarProfile (l : Link) (t : Byte) (p : List Byte) (s : State) : Answer :=
  .next (s.serve l ⟨0x15#8, t, p⟩ (checked .slOnly l (fixedLen 15 p) (decideWriteCar p)))

/-- WRITE_UNIT_PROFILE (R71). -/
def execWriteUnitProfile (l : Link) (t : Byte) (p : List Byte) (s : State) : Answer :=
  .next (s.serve l ⟨0x16#8, t, p⟩ (checked .slOnly l (fixedLen 13 p) (decideWriteUnit p)))

/-- WRITE_DESCRIPTOR (R138). -/
def execWriteDescriptor (l : Link) (t : Byte) (p : List Byte) (s : State) : Answer :=
  .next (s.serve l ⟨0x17#8, t, p⟩ (checked .slOnly l (fixedLen 18 p) (decideWriteDescriptor p)))

/-- LOCK_GEOMETRY (R72). -/
def execLockGeometry (l : Link) (t : Byte) (p : List Byte) (s : State) : Answer :=
  .next (s.serve l ⟨0x18#8, t, p⟩ (checked .slOnly l (fixedLen 0 p) decideLock))

/-- UNLOCK_GEOMETRY (R72). -/
def execUnlockGeometry (l : Link) (t : Byte) (p : List Byte) (s : State) : Answer :=
  .next (s.serve l ⟨0x19#8, t, p⟩ (checked .slOnly l (fixedLen 0 p) decideUnlock))

/-- COMMIT (R73). -/
def execCommit (l : Link) (t : Byte) (p : List Byte) (s : State) : Answer :=
  .next (s.serve l ⟨0x1A#8, t, p⟩ (checked .slOnly l (fixedLen 0 p) decideCommit))

/-- READ_GEOMETRY (R77). -/
def execReadGeometry (l : Link) (t : Byte) (p : List Byte) (s : State) : Answer :=
  .next (s.serve l ⟨0x20#8, t, p⟩ (checked .slOnly l (fixedLen 1 p) (decideReadGeometry p)))

/-- READ_PARAMETERS (R77). -/
def execReadParameters (l : Link) (t : Byte) (p : List Byte) (s : State) : Answer :=
  .next (s.serve l ⟨0x21#8, t, p⟩ (checked .slOnly l (fixedLen 1 p) (decideReadParameters p)))

/-- READ_DEVICE_PARAMETERS (R77). -/
def execReadDeviceParameters (l : Link) (t : Byte) (p : List Byte) (s : State) : Answer :=
  .next (s.serve l ⟨0x22#8, t, p⟩ (checked .slOnly l (fixedLen 0 p) decideReadDevice))

/-- READ_CAR_PROFILE (R77). -/
def execReadCarProfile (l : Link) (t : Byte) (p : List Byte) (s : State) : Answer :=
  .next (s.serve l ⟨0x23#8, t, p⟩ (checked .slOnly l (fixedLen 1 p) (decideReadCar p)))

/-- READ_UNIT_PROFILE (R77). -/
def execReadUnitProfile (l : Link) (t : Byte) (p : List Byte) (s : State) : Answer :=
  .next (s.serve l ⟨0x24#8, t, p⟩ (checked .slOnly l (fixedLen 1 p) (decideReadUnit p)))

/-- READ_ISOLATION (R77). -/
def execReadIsolation (l : Link) (t : Byte) (p : List Byte) (s : State) : Answer :=
  .next (s.serve l ⟨0x25#8, t, p⟩ (checked .slOnly l (fixedLen 1 p) (decideReadIsolation p)))

/-- READ_DESCRIPTOR (R138). -/
def execReadDescriptor (l : Link) (t : Byte) (p : List Byte) (s : State) : Answer :=
  .next (s.serve l ⟨0x26#8, t, p⟩ (checked .slOnly l (fixedLen 1 p) (decideReadDescriptor p)))

/-- SET_MODE (R124). -/
def execSetMode (l : Link) (t : Byte) (p : List Byte) (s : State) : Answer :=
  .next (s.serve l ⟨0x30#8, t, p⟩ (decideSetMode l p))

/-- DOOR_COMMAND_OPEN (R126). -/
def execDoorCommandOpen (l : Link) (t : Byte) (p : List Byte) (s : State) : Answer :=
  .next (s.serve l ⟨0x31#8, t, p⟩ (checked .slOnly l (fixedLen 7 p) (decideDoorCommand p)))

/-- DOOR_COMMAND_CLOSE (R126). -/
def execDoorCommandClose (l : Link) (t : Byte) (p : List Byte) (s : State) : Answer :=
  .next (s.serve l ⟨0x31#8, t, p⟩ (checked .slOnly l (fixedLen 7 p) (decideDoorCommand p)))

/-- ISOLATE (R25). -/
def execIsolate (l : Link) (t : Byte) (p : List Byte) (s : State) : Answer :=
  .next (s.serve l ⟨0x32#8, t, p⟩ (checked .slOnly l (fixedLen 2 p) (decideIsolate p)))

/-- RESTORE (R25). -/
def execRestore (l : Link) (t : Byte) (p : List Byte) (s : State) : Answer :=
  .next (s.serve l ⟨0x33#8, t, p⟩ (checked .slOnly l (fixedLen 2 p) (decideRestore p)))

/-- DOOR_RESET (R26). -/
def execDoorReset (l : Link) (t : Byte) (p : List Byte) (s : State) : Answer :=
  .next (s.serve l ⟨0x34#8, t, p⟩ (checked .slOnly l (fixedLen 2 p) (decideDoorReset p)))

/-- FACE_RESET (R91). -/
def execFaceReset (l : Link) (t : Byte) (p : List Byte) (s : State) : Answer :=
  .next (s.serve l ⟨0x36#8, t, p⟩ (checked .slOnly l (fixedLen 1 p) (decideFaceReset p)))

/-- BERTH_ACK (R88). -/
def execBerthAck (l : Link) (t : Byte) (p : List Byte) (s : State) : Answer :=
  .next (s.serve l ⟨0x37#8, t, p⟩ (checked .slOnly l (fixedLen 1 p) (decideBerthAck p)))

/-- ACK_GAP (R54). -/
def execAckGap (l : Link) (t : Byte) (p : List Byte) (s : State) : Answer :=
  .next (s.serve l ⟨0x35#8, t, p⟩ (checked .slOnly l (fixedLen 2 p) (decideAckGap p)))

/-- EVACUATE (R132). -/
def execEvacuate (l : Link) (t : Byte) (p : List Byte) (s : State) : Answer :=
  .next (s.serve l ⟨0x38#8, t, p⟩ (checked .slOnly l (fixedLen 1 p) (decideEvacuate p)))

/-- EMERGENCY_CLEAR (R134). -/
def execEmergencyClear (l : Link) (t : Byte) (p : List Byte) (s : State) : Answer :=
  .next (s.serve l ⟨0x39#8, t, p⟩ (checked .slOnly l (fixedLen 1 p) (decideEmergencyClear p)))

/-- START_PROGRAM (R140). -/
def execStartProgram (l : Link) (t : Byte) (p : List Byte) (s : State) : Answer :=
  .next (s.serve l ⟨0x40#8, t, p⟩ (checked .slOnly l (fixedLen 2 p) (decideStart p)))

/-- HALT_PROGRAM (R149). -/
def execHaltProgram (l : Link) (t : Byte) (p : List Byte) (s : State) : Answer :=
  .next (s.serve l ⟨0x41#8, t, p⟩ (checked .slOnly l (fixedLen 1 p) (decideHalt p)))

/-- RESUME_PROGRAM (R149). -/
def execResumeProgram (l : Link) (t : Byte) (p : List Byte) (s : State) : Answer :=
  .next (s.serve l ⟨0x42#8, t, p⟩ (checked .slOnly l (fixedLen 1 p) (decideResume p)))

/-- STEP_PROGRAM (R149). -/
def execStepProgram (l : Link) (t : Byte) (p : List Byte) (s : State) : Answer :=
  .next (s.serve l ⟨0x43#8, t, p⟩ (checked .slOnly l (fixedLen 1 p) (decideStep p)))

/-- CLEAR_PROGRAM_ERRORS (R149). -/
def execClearProgramErrors (l : Link) (t : Byte) (p : List Byte) (s : State) : Answer :=
  .next (s.serve l ⟨0x44#8, t, p⟩ (checked .slOnly l (fixedLen 1 p) (decideClearErrors p)))

/-- ARM_PROGRAM (R150). -/
def execArmProgram (l : Link) (t : Byte) (p : List Byte) (s : State) : Answer :=
  .next (s.serve l ⟨0x45#8, t, p⟩ (checked .slOnly l (fixedLen 2 p) (decideArm p)))

/-- DISARM_PROGRAM (R150). -/
def execDisarmProgram (l : Link) (t : Byte) (p : List Byte) (s : State) : Answer :=
  .next (s.serve l ⟨0x46#8, t, p⟩ (checked .slOnly l (fixedLen 1 p) (decideDisarm p)))

/-- READ_COUNTS (R45). -/
def execReadCounts (l : Link) (t : Byte) (p : List Byte) (s : State) : Answer :=
  .next (s.serve l ⟨0x48#8, t, p⟩ (checked .slOnly l (fixedLen 1 p) (decideReadCounts p)))

/-- READ_HISTORY (R58). -/
def execReadHistory (l : Link) (t : Byte) (p : List Byte) (s : State) : Answer :=
  .next (s.serve l ⟨0x49#8, t, p⟩ (checked .slOnly l (fixedLen 3 p) (decideReadHistory p)))

end Sys2Proof.Machine
end

