-- ==== Sys2Proof/Machine/Dispatch.lean ====
section
/-! DEFINITION. The meaning of every command, one arm for each row of the table. -/

namespace Sys2Proof.Machine

/-- The effect of a command on everything but the queue. -/
def exec (i : Instr) (s : State) : Host.Outcome State Fault Refusal :=
  match i with
  | .powerOn readings => Sys2Proof.Machine.execPowerOn readings s
  | .resetPin readings => Sys2Proof.Machine.execResetPin readings s
  | .firstCompleteScan scan => Sys2Proof.Machine.execFirstCompleteScan scan s
  | .doorInputChange f j v => Sys2Proof.Machine.execDoorInputChange f j v s
  | .sensingInputChange f j v => Sys2Proof.Machine.execSensingInputChange f j v s
  | .unlatchSettleExpiry f j => Sys2Proof.Machine.execUnlatchSettleExpiry f j s
  | .recloseDelayExpiry f j => Sys2Proof.Machine.execRecloseDelayExpiry f j s
  | .doorTimeoutExpiry f j => Sys2Proof.Machine.execDoorTimeoutExpiry f j s
  | .spacingHoldExpiry f g => Sys2Proof.Machine.execSpacingHoldExpiry f g s
  | .historySlotEmptied f g slot => Sys2Proof.Machine.execHistorySlotEmptied f g slot s
  | .quietTimerExpiry f => Sys2Proof.Machine.execQuietTimerExpiry f s
  | .deferralTimerExpiry f j => Sys2Proof.Machine.execDeferralTimerExpiry f j s
  | .clearingTimerExpiry f j => Sys2Proof.Machine.execClearingTimerExpiry f j s
  | .ab1Change f interrupted at_ => Sys2Proof.Machine.execAb1Change f interrupted at_ s
  | .ab2Change f interrupted at_ => Sys2Proof.Machine.execAb2Change f interrupted at_ s
  | .swBeamChange f beam interrupted at_ => Sys2Proof.Machine.execSwBeamChange f beam interrupted at_ s
  | .approachTimerExpiry f => Sys2Proof.Machine.execApproachTimerExpiry f s
  | .settleTimerExpiry f => Sys2Proof.Machine.execSettleTimerExpiry f s
  | .postingTimerExpiry f => Sys2Proof.Machine.execPostingTimerExpiry f s
  | .keyswitchChange f pos => Sys2Proof.Machine.execKeyswitchChange f pos s
  | .eoiChange f active => Sys2Proof.Machine.execEoiChange f active s
  | .maintChange active => Sys2Proof.Machine.execMaintChange active s
  | .commitEnd => Sys2Proof.Machine.execCommitEnd s
  | .ilSilenceTimerExpiry => Sys2Proof.Machine.execIlSilenceTimerExpiry s
  | .validFrameReceived l frame => Sys2Proof.Machine.execValidFrameReceived l frame s
  | .frameAbandoned l cause => Sys2Proof.Machine.execFrameAbandoned l cause s
  | .transmitComplete l => Sys2Proof.Machine.execTransmitComplete l s
  | .flushTimerExpiry l => Sys2Proof.Machine.execFlushTimerExpiry l s
  | .unknownKind l kind tag payload => Sys2Proof.Machine.execUnknownKind l kind tag payload s
  | .nonRequestFrame l kind tag payload => Sys2Proof.Machine.execNonRequestFrame l kind tag payload s
  | .arrivalNotice l tag payload => Sys2Proof.Machine.execArrivalNotice l tag payload s
  | .doorRelease l tag payload => Sys2Proof.Machine.execDoorRelease l tag payload s
  | .releaseWithdraw l tag payload => Sys2Proof.Machine.execReleaseWithdraw l tag payload s
  | .trainAtRest l tag payload => Sys2Proof.Machine.execTrainAtRest l tag payload s
  | .departed l tag payload => Sys2Proof.Machine.execDeparted l tag payload s
  | .possessionGrant l tag payload => Sys2Proof.Machine.execPossessionGrant l tag payload s
  | .possessionRevoke l tag payload => Sys2Proof.Machine.execPossessionRevoke l tag payload s
  | .identify l tag payload => Sys2Proof.Machine.execIdentify l tag payload s
  | .getStatusFace l tag payload => Sys2Proof.Machine.execGetStatusFace l tag payload s
  | .getStatusDoorUnit l tag payload => Sys2Proof.Machine.execGetStatusDoorUnit l tag payload s
  | .getStatusBerth l tag payload => Sys2Proof.Machine.execGetStatusBerth l tag payload s
  | .writeGeometry l tag payload => Sys2Proof.Machine.execWriteGeometry l tag payload s
  | .writeTolerance l tag payload => Sys2Proof.Machine.execWriteTolerance l tag payload s
  | .writeParameters l tag payload => Sys2Proof.Machine.execWriteParameters l tag payload s
  | .writeDeviceParameters l tag payload => Sys2Proof.Machine.execWriteDeviceParameters l tag payload s
  | .setReporting l tag payload => Sys2Proof.Machine.execSetReporting l tag payload s
  | .writeCarProfile l tag payload => Sys2Proof.Machine.execWriteCarProfile l tag payload s
  | .writeUnitProfile l tag payload => Sys2Proof.Machine.execWriteUnitProfile l tag payload s
  | .writeDescriptor l tag payload => Sys2Proof.Machine.execWriteDescriptor l tag payload s
  | .lockGeometry l tag payload => Sys2Proof.Machine.execLockGeometry l tag payload s
  | .unlockGeometry l tag payload => Sys2Proof.Machine.execUnlockGeometry l tag payload s
  | .commit l tag payload => Sys2Proof.Machine.execCommit l tag payload s
  | .readGeometry l tag payload => Sys2Proof.Machine.execReadGeometry l tag payload s
  | .readParameters l tag payload => Sys2Proof.Machine.execReadParameters l tag payload s
  | .readDeviceParameters l tag payload => Sys2Proof.Machine.execReadDeviceParameters l tag payload s
  | .readCarProfile l tag payload => Sys2Proof.Machine.execReadCarProfile l tag payload s
  | .readUnitProfile l tag payload => Sys2Proof.Machine.execReadUnitProfile l tag payload s
  | .readIsolation l tag payload => Sys2Proof.Machine.execReadIsolation l tag payload s
  | .readDescriptor l tag payload => Sys2Proof.Machine.execReadDescriptor l tag payload s
  | .setMode l tag payload => Sys2Proof.Machine.execSetMode l tag payload s
  | .doorCommandOpen l tag payload => Sys2Proof.Machine.execDoorCommandOpen l tag payload s
  | .doorCommandClose l tag payload => Sys2Proof.Machine.execDoorCommandClose l tag payload s
  | .isolate l tag payload => Sys2Proof.Machine.execIsolate l tag payload s
  | .restore l tag payload => Sys2Proof.Machine.execRestore l tag payload s
  | .doorReset l tag payload => Sys2Proof.Machine.execDoorReset l tag payload s
  | .faceReset l tag payload => Sys2Proof.Machine.execFaceReset l tag payload s
  | .berthAck l tag payload => Sys2Proof.Machine.execBerthAck l tag payload s
  | .ackGap l tag payload => Sys2Proof.Machine.execAckGap l tag payload s
  | .evacuate l tag payload => Sys2Proof.Machine.execEvacuate l tag payload s
  | .emergencyClear l tag payload => Sys2Proof.Machine.execEmergencyClear l tag payload s
  | .startProgram l tag payload => Sys2Proof.Machine.execStartProgram l tag payload s
  | .haltProgram l tag payload => Sys2Proof.Machine.execHaltProgram l tag payload s
  | .resumeProgram l tag payload => Sys2Proof.Machine.execResumeProgram l tag payload s
  | .stepProgram l tag payload => Sys2Proof.Machine.execStepProgram l tag payload s
  | .clearProgramErrors l tag payload => Sys2Proof.Machine.execClearProgramErrors l tag payload s
  | .armProgram l tag payload => Sys2Proof.Machine.execArmProgram l tag payload s
  | .disarmProgram l tag payload => Sys2Proof.Machine.execDisarmProgram l tag payload s
  | .readCounts l tag payload => Sys2Proof.Machine.execReadCounts l tag payload s
  | .readHistory l tag payload => Sys2Proof.Machine.execReadHistory l tag payload s
  | .limitTimerExpiry f => Sys2Proof.Machine.execLimitTimerExpiry f s
  | .holdTimerExpiry f => Sys2Proof.Machine.execHoldTimerExpiry f s
  | .lossOfPower => Sys2Proof.Machine.execLossOfPower s
  | .byteReceived l b => Sys2Proof.Machine.execByteReceived l b s

end Sys2Proof.Machine
end

