-- ==== Sys2Proof/Machine/Idle.lean ====
section
/-! DEFINITION. What the controller does by itself when no command waits: the events that are due inside it, in a fixed
order, and the passing of one millisecond when none is (log 1, log 2). -/

namespace Sys2Proof.Machine

/-- A timer that may be running is due. -/
def State.isDue (s : State) (t : Option Timer) : Bool := t.any (fun t => t.due s.msClock)

/-- The command, if its condition holds. -/
def whenDue (b : Bool) (c : Instr) : Option Instr := if b then some c else none

/-- The taking of the head frame of a link that answers no request (R155). -/
def State.dueRequest (s : State) (l : Link) : Option Instr :=
  if s.answering l then none else (s.link l).rxQueue.head?.map (Instr.ofFrame l)

/-- The end of the frame being sent on a link (R153, R156, log 22). -/
def State.dueTransmit (s : State) (l : Link) : Option Instr :=
  whenDue ((s.link l).tx.any (fun x => x.dur ≤ (s.usClock - x.start).toNat)) (.transmitComplete l)

/-- The due timer of a door unit position (R8, R48, R52). -/
def State.dueDoor (s : State) (f : Face) (j : DoorIx) : Option Instr :=
  let d := s.door f j
  let own : Option Instr :=
    match d.state with
    | some .unlatched => whenDue (s.isDue d.timer) (.unlatchSettleExpiry f j)
    | some .recloseHold => whenDue (s.isDue d.timer) (.recloseDelayExpiry f j)
    | some st =>
      if st.timeoutCause.isSome then whenDue (s.isDue d.timer) (.doorTimeoutExpiry f j) else none
    | none => none
  own <|> whenDue (s.isDue (s.sense f j).deferral) (.deferralTimerExpiry f j)
    <|> whenDue (s.isDue (s.sense f j).clearing) (.clearingTimerExpiry f j)

/-- The due slot or hold of a power group (R34, R35). -/
def State.dueGroup (s : State) (f : Face) (g : GroupIx) : Option Instr :=
  (List.finRange 4).findSome? (fun i => whenDue (s.isDue (s.group f g).history[i]) (.historySlotEmptied f g i))
    <|> whenDue (s.isDue (s.group f g).spacing) (.spacingHoldExpiry f g)

/-- The due event of a face: door units, power groups, the quiet timer, the berth and the engine in turn. -/
def State.dueFace (s : State) (f : Face) : Option Instr :=
  let b := s.berth f
  (List.finRange 32).findSome? (s.dueDoor f)
    <|> (List.finRange 4).findSome? (s.dueGroup f)
    <|> whenDue (s.isDue (s.face f).quietTimer) (.quietTimerExpiry f)
    <|> whenDue (b.state = .approaching && s.isDue b.approachTimer) (.approachTimerExpiry f)
    <|> whenDue (b.state = .settling && s.isDue b.settleTimer) (.settleTimerExpiry f)
    <|> whenDue (s.isDue b.postingTimer) (.postingTimerExpiry f)
    <|> whenDue (s.isDue (s.face f).engine.limitTimer) (.limitTimerExpiry f)
    <|> whenDue (s.isDue (s.face f).engine.holdTimer) (.holdTimerExpiry f)

/-- The event that is due inside the controller, the first in the order of log 2; none without power. -/
def State.dueCommand (s : State) : Option Instr :=
  if s.powered then
    s.dueRequest .il <|> s.dueRequest .sl
      <|> s.dueTransmit .il <|> s.dueTransmit .sl
      <|> whenDue (s.isDue s.silence) .ilSilenceTimerExpiry
      <|> s.dueFace .f0 <|> s.dueFace .f1
      <|> whenDue (s.isDue (s.link .il).flushTimer) (.flushTimerExpiry .il)
      <|> whenDue (s.isDue (s.link .sl).flushTimer) (.flushTimerExpiry .sl)
      <|> whenDue (s.isDue (s.commit.map Commit.bound)) .commitEnd
  else none

/-- The controller with no command waiting: a due event is taken, or else one millisecond passes (log 1). Without
power nothing happens (log 8). -/
def State.idle (s : State) : Host.Outcome State Fault Refusal :=
  match s.dueCommand with
  | some c => exec c s
  | none => .next (if s.powered then s.advance 1 else s)

end Sys2Proof.Machine
end

