-- ==== Sys2Proof/Safety.lean ====
section
/-! DEFINITION. What a safe state of the controller is, the laws that the spec states of the whole machine, and the
words in which the statements say what a command leaves unchanged. -/

namespace Sys2Proof.Machine

/-! ### Laws of the whole machine -/

/-- CLP of a face is what the law of R119 gives, once the first complete scan is taken, and withheld before it
(R119, R122). -/
def State.clpLaw (s : State) (f : Face) : Prop :=
  if s.scanDone then (s.face f).clp = s.computeClp f else (s.face f).clp.value = false

/-- The Door Map of a face is empty unless the berth is STOPPED with grade FULL or PARTIAL (R104). -/
def State.mapLaw (s : State) (f : Face) : Prop :=
  s.map f ≠ [] →
    (s.berth f).state = .stopped ∧ ((s.face f).align.grade = some .full ∨ (s.face f).align.grade = some .partial_)

/-- A face is in LOCAL exactly while its keyswitch is out of AUTO, and the saved mode is present exactly then and is
not LOCAL; until its first reading the keyswitch counts as LOCAL-CLOSE (R123, R127, R128, R136). -/
def ModeUnit.lawful (m : ModeUnit) : Prop :=
  (m.mode = .local_ ↔ m.key ≠ .auto) ∧ (m.saved.isSome ↔ m.mode = .local_) ∧ m.saved ≠ some .local_
    ∧ (m.keyRead = false → m.key = .localClose)

/-- The law of R128 on a face. -/
def State.modeLaw (s : State) (f : Face) : Prop := (s.face f).mode.lawful

/-- The bounds of the queues of a link (R155, R160, R161). -/
def LinkState.bounded (k : LinkState) : Prop :=
  k.rxQueue.length ≤ 4 ∧ k.reports.length ≤ 64 ∧ k.flushCount ≤ k.reports.length

/-- The bounds of both links. -/
def State.linkLaw (s : State) : Prop := s.sl.bounded ∧ s.il.bounded

/-- The law of the Start Queues of a face (R30): a queue holds each door unit at most once, EMERGENCY entries before NORMAL
ones, and every entry is of a fitted door unit of the group that is not isolated, an OPEN entry of one in UNLATCHED whose
unlatch_settle has passed (R10), a CLOSE entry of one in CLOSE_WAIT whose deferral has ended (R12). With it stand what keeps
it: a deferral runs in CLOSE_WAIT alone (R49), a position that is not fitted has no state (R5, R27), an isolated door unit is
in LOCKED, RELEASED or FAULT (R25), and before the first complete scan no door unit has a state (R27). -/
def State.startQueueLaw (s : State) (f : Face) : Prop :=
  (∀ p : GroupIx, ((s.group f p).queue.map Entry.door).Nodup ∧
    (s.group f p).queue.Pairwise (fun a b => b.cls = .emergency → a.cls = .emergency) ∧
    ∀ e ∈ (s.group f p).queue, s.isFitted f e.door = true ∧ s.groupOf f e.door = p ∧ s.isolated f e.door = false ∧
      (e.motion = .open_ ∧ (s.door f e.door).state = some .unlatched ∧ (s.door f e.door).timer = none ∨
        e.motion = .close ∧ (s.door f e.door).state = some .closeWait ∧ (s.sense f e.door).deferral = none)) ∧
  ∀ j : DoorIx,
    ((s.sense f j).deferral.isSome = true → (s.door f j).state = some .closeWait) ∧
    ((s.door f j).state ≠ none → s.isFitted f j = true) ∧
    (s.isolated f j = true → (s.door f j).state = none ∨ (s.door f j).state = some .locked
      ∨ (s.door f j).state = some .released ∨ (s.door f j).state = some .fault) ∧
    (s.scanDone = false → (s.door f j).state = none)

/-- Under the emergency latch of a face no door unit is in CLOSE_WAIT, CLOSING, RECLOSE_HOLD or LOCKING (R133). With it
stands what keeps it there: no door unit on its way to open has pending close set, and a reversal is one by request (R18). -/
def State.emergencyLaw (s : State) (f : Face) : Prop :=
  (s.face f).mode.latch = true → ∀ j : DoorIx,
    let d := s.door f j
    (d.state ≠ some .closeWait ∧ d.state ≠ some .closing ∧ d.state ≠ some .recloseHold ∧ d.state ≠ some .locking) ∧
    (d.state = some .unlatching ∨ d.state = some .unlatched ∨ d.state = some .opening ∨ d.state = some .reversing →
      d.pendingClose = false) ∧
    (d.state = some .reversing → d.reqClass.isSome = true)

/-- reclose_max of both faces is at least 1, the lower end of its range (R68). -/
def WorkingCopy.recloses (c : WorkingCopy) : Prop := 1 ≤ c.par0.recloseMax ∧ 1 ≤ c.par1.recloseMax

/-- Reclose attempts never exceed reclose_max, and a door unit is in OBSTRUCTED only while they equal it (R21). With it stands
what keeps it: they are 0 where R7 sets them to 0, less than reclose_max in every other state but a reversal by obstruction, and
reclose_max is at least 1 in every copy of the configuration (R68). -/
def State.recloseLaw (s : State) (f : Face) : Prop :=
  s.config.recloses ∧ (∀ x, s.commit = some x → x.content.recloses) ∧ (∀ w g k, s.nv = .whole w g k → w.recloses) ∧
  ∀ j : DoorIx,
    let d := s.door f j
    let limit := (s.par f).recloseMax
    d.attempts ≤ limit ∧
    (d.state = some .obstructed → d.attempts = limit) ∧
    (d.state = none ∨ d.state = some .locked ∨ d.state = some .standOpen ∨ d.state = some .released ∨ d.state = some .fault →
      d.attempts = 0) ∧
    (d.state = some .unlatching ∨ d.state = some .unlatched ∨ d.state = some .opening ∨ d.state = some .closeWait
      ∨ d.state = some .closing ∨ d.state = some .recloseHold ∨ d.state = some .locking
      ∨ d.state = some .reversing ∧ d.reqClass.isSome = true → d.attempts < limit)

/-! ### What a command leaves unchanged -/

/-- Of a Link Controller, what no report changes: the receiver, the receive queue, the link overrun flag and the
waiting reply. -/
def LinkState.rxSide (k : LinkState) : LinkState :=
  { k with
    tx := none
    reports := []
    reportOverrun := false
    flushTimer := none
    flushCount := 0
    seq := 0 }

/-- The face that a notice is about. -/
def Notice.face : Notice → Face
  | .door f _ _ => f
  | .quiet f => f
  | .clp f => f
  | .holdEnds f => f

/-- Everything outside a face: all that the units of the face leave alone. What reports change of the links, and what
the engine of the face is still to be told, are left out. -/
def State.outside (f : Face) (s : State) : State :=
  { s with
    f0 := match f with | .f0 => FaceState.start .maintenance | .f1 => s.f0
    f1 := match f with | .f0 => s.f1 | .f1 => FaceState.start .maintenance
    sl := s.sl.rxSide
    il := s.il.rxSide
    notices := s.notices.filter (fun n => n.face ≠ f) }

/-- Of a face, what its door units, their gap zones and their power groups leave alone: its counts and quiet condition,
the debounced inputs, the beams, the berth, the alignment result, the mode and the engine. -/
def FaceState.berthSide (x : FaceState) : FaceState :=
  { x with
    doors := Vector.replicate 32 DoorRec.blank
    sense := Vector.replicate 32 DoorSense.blank
    groups := Vector.replicate 4 Group.blank
    ring := Vector.replicate 64 none
    newest := none
    clp := Clp.start }

/-- The berth side of a face. -/
def State.side (f : Face) (s : State) : FaceState := (s.face f).berthSide

/-- Sensing state less the ring slot of an open episode, which a later onset can take (R57). -/
def DoorSense.noSlot (d : DoorSense) : DoorSense :=
  { d with episode := d.episode.map (fun e => { e with slot := none }) }

/-- What a door unit holds by itself: its record and its sensing state. -/
def State.unit (f : Face) (k : DoorIx) (s : State) : DoorRec × DoorSense := (s.door f k, (s.sense f k).noSlot)

/-- The controller has power, the engine of the face does not run, and nothing is left to be told: what a command tells
the engine ends there. -/
def State.calm (s : State) (f : Face) : Bool := s.powered && s.notices.isEmpty && !(s.face f).engine.running

/-- The door unit holds no entry in the Start Queue of a group. -/
def State.noEntry (s : State) (f : Face) (p : GroupIx) (k : DoorIx) : Prop := ∀ e ∈ (s.group f p).queue, e.door ≠ k

/-- From `s` to `t` a command on door unit `j` left alone everything outside the face, the berth side of the face, and
every other door unit that holds no entry in the Start Queue of the power group of `j`. -/
def OnlyDoor (f : Face) (j : DoorIx) (s t : State) : Prop :=
  t.outside f = s.outside f ∧ t.side f = s.side f
    ∧ ∀ k, k ≠ j → s.noEntry f (s.groupOf f j) k → t.unit f k = s.unit f k

/-! ### Resolution from sensors -/

/-- What R24 finds of a door unit from its inputs: the table, with the isolated form and the form of LOCKING under the
emergency latch. -/
def resolvedState (i : DoorInputs) (isolated latch : Bool) : DoorState × Option FaultCause :=
  match i.leafClosed, i.leafOpen, i.lockEngaged with
  | true, true, _ => (.fault, some .sensorConflict)
  | false, _, true => (.fault, some .sensorConflict)
  | true, false, true => if i.mrh then (.released, none) else (.locked, none)
  | true, false, false =>
    if i.mrh then (.released, none)
    else if isolated then (.fault, some .lockLost) else if latch then (.released, none) else (.locking, none)
  | false, true, false =>
    if i.mrh then (.released, none) else if isolated then (.fault, some .positionUnknown) else (.standOpen, none)
  | false, false, false => if i.mrh then (.released, none) else (.fault, some .positionUnknown)

/-- The record of a door unit that is resolved from inputs (R7, R24): in the state found, or, found LOCKED under the
emergency latch in an active section and not isolated, in UNLATCHING with the request class EMERGENCY. -/
def State.resolvedRec (s : State) (f : Face) (j : DoorIx) (i : DoorInputs) : DoorRec :=
  let latch := (s.face f).mode.latch
  let x := resolvedState i (s.isolated f j) latch
  if x.1 = .locked ∧ latch = true ∧ s.isolated f j = false ∧ s.sectionActive f j = true then
    ⟨some .unlatching, none, 0, false, some .emergency, s.msClock, some ⟨s.msClock, (s.par f).lockWithdrawTimeout⟩⟩
  else if x.1 = .locking then
    ⟨some .locking, none, (s.door f j).attempts, false, none, s.msClock, some ⟨s.msClock, (s.par f).lockEngageTimeout⟩⟩
  else ⟨some x.1, x.2, 0, false, none, s.msClock, none⟩

/-! ### Door requests -/

/-- The permission for a door unit to leave LOCKED, its four cases written out (R19). -/
abbrev State.mayLeaveLocked (s : State) (f : Face) (j : DoorIx) : Prop :=
  ((s.face f).mode.mode = .automatic ∨ (s.face f).mode.mode = .supervised) ∧ j ∈ s.map f ∧ (s.berth f).state = .stopped
      ∧ (s.berth f).release = true
    ∨ (s.face f).mode.latch = true
    ∨ (s.face f).mode.mode = .local_ ∧ (s.face f).mode.key = .localOpen ∧ (s.berth f).state ≠ .empty
    ∨ (s.face f).mode.mode = .maintenance ∧ (s.face f).mode.possession = true ∧ (s.berth f).state = .empty

/-- From `s` to `t` a door unit has left LOCKED or LOCKING toward open with a request class: it is UNLATCHING while its lock is
engaged (R9) and UNLATCHED otherwise, where an unlatch_settle of 0 places its OPEN entry at once (R8, R10) and takes the grant
where it may be made (R31, R36). -/
def State.startsOpening (f : Face) (j : DoorIx) (c : ReqClass) (s t : State) : Prop :=
  let d := s.door f j
  let g := s.groupOf f j
  let x := s.group f g
  let settle := (s.par f).unlatchSettle
  let e : Entry := ⟨j, .open_, c, s.msClock⟩
  let q := joinQueue e x.queue
  let becomes (st : DoorState) (r : Option Timer) : Prop :=
    t.door f j = ⟨some st, none, d.attempts, false, some c, s.msClock, r⟩
  ((s.input f j).lockEngaged = true →
    becomes .unlatching (some ⟨s.msClock, (s.par f).lockWithdrawTimeout⟩) ∧ t.group f g = x) ∧
  ((s.input f j).lockEngaged = false →
    (settle ≠ 0 → becomes .unlatched (some ⟨s.msClock, settle⟩) ∧ t.group f g = x) ∧
    (settle = 0 → ¬(q.head? = some e ∧ x.mayGrant = true) →
      becomes .unlatched none ∧ t.group f g = { x with queue := q }) ∧
    (settle = 0 → q.head? = some e → x.mayGrant = true →
      becomes .opening (some ⟨s.msClock, (s.par f).openTimeout⟩) ∧ t.noEntry f g j))

/-- From `s` to `t` the CLOSE entry of a door unit in CLOSE_WAIT with record `w` has been placed (R12, R31): it waits behind the
entries there, or, where it may be granted at once, the door unit is CLOSING, and with EDGE active REVERSING (R36, R50). -/
def State.closePlaced (f : Face) (j : DoorIx) (w : DoorRec) (s t : State) : Prop :=
  let g := s.groupOf f j
  let x := s.group f g
  let grants := x.queue = [] ∧ x.mayGrant = true
  (t.sense f j).deferral = none ∧
  (¬grants → t.door f j = w ∧ t.group f g = { x with queue := x.queue ++ [⟨j, .close, .normal, s.msClock⟩] }) ∧
  (grants → (s.input f j).edge = false → t.noEntry f g j ∧ t.door f j = { w with
    state := some .closing, cause := none, entryTime := s.msClock, timer := some ⟨s.msClock, (s.par f).closeTimeout⟩ }) ∧
  (grants → (s.input f j).edge = true → t.noEntry f g j ∧ t.door f j = { w with
    state := some .reversing, cause := none, attempts := w.attempts + 1, reqClass := none, entryTime := s.msClock
    timer := some ⟨s.msClock, (s.par f).openTimeout⟩ })

/-- From `s` to `t` a door unit has entered CLOSE_WAIT with these attempts: deferred while its doorway is occupied, and with its
CLOSE entry placed otherwise (R12, R48). -/
def State.entersCloseWait (f : Face) (j : DoorIx) (attempts : Nat) (s t : State) : Prop :=
  let i := s.input f j
  let limit := (s.par f).doorwayDeferLimit
  let w : DoorRec := ⟨some .closeWait, none, attempts, false, none, s.msClock, none⟩
  (limit ≠ 0 ∧ (i.dwa = true ∨ i.dwb = true) → t.door f j = w ∧ (t.sense f j).deferral = some ⟨s.msClock, limit⟩
    ∧ t.group f (s.groupOf f j) = s.group f (s.groupOf f j)) ∧
  (¬(limit ≠ 0 ∧ (i.dwa = true ∨ i.dwb = true)) → s.closePlaced f j w t)

/-- What an OPEN (class NORMAL) or EMERGENCY OPEN among the requests of one event makes of a record, by the state before it
(R16 to R18, R133). Grants that the event brings first are those of CLOSE_WAIT and UNLATCHED. -/
def OpenedFrom (c : ReqClass) (permitted : Prop) (d e : DoorRec) : Prop :=
  let asked : DoorRec := { d with
    pendingClose := false
    reqClass := if c = .emergency then some .emergency else d.reqClass }
  let starts : Prop := (e.state = some .unlatching ∨ e.state = some .unlatched ∨ e.state = some .opening)
    ∧ e.reqClass = some c ∧ e.pendingClose = false ∧ e.attempts = d.attempts
  let reverses : Prop := e.state = some .reversing ∧ e.reqClass = some c ∧ e.pendingClose = false
  let opens : Prop := e.state = some .standOpen ∧ e.attempts = 0 ∧ e.pendingClose = false ∧ e.reqClass = none
  match d.state with
  | none | some .released | some .fault => e = d
  | some .locked | some .locking => (permitted → starts) ∧ (¬permitted → e = d)
  | some .unlatching | some .opening => e = asked
  | some .unlatched => e = asked ∨ e.state = some .opening ∧ e.reqClass = asked.reqClass ∧ e.pendingClose = false
      ∧ e.attempts = d.attempts
  | some .standOpen => e = { d with pendingClose := false }
  | some .closeWait => opens ∨ reverses
  | some .recloseHold | some .obstructed => opens
  | some .closing => reverses ∧ e.attempts = d.attempts
  | some .reversing => e = { d with
      pendingClose := false
      attempts := if d.reqClass = none then 0 else d.attempts
      reqClass := if c = .emergency ∨ d.reqClass = none then some c else d.reqClass }

/-- What a CLOSE among the requests of one event makes of a record, by the state before it, where the emergency latch is clear
(R16, R17, R117). -/
def ClosedFrom (d e : DoorRec) : Prop :=
  let waits (n : Nat) : Prop := e.pendingClose = false ∧ e.reqClass = none
    ∧ ((e.state = some .closeWait ∨ e.state = some .closing) ∧ e.attempts = n
      ∨ e.state = some .reversing ∧ e.attempts = n + 1)
  let locks : Prop := e.state = some .locking ∧ e.attempts = d.attempts ∧ e.pendingClose = false ∧ e.reqClass = none
  match d.state with
  | none | some .locked | some .closing | some .recloseHold | some .locking | some .released | some .fault => e = d
  | some .unlatching => locks
  | some .unlatched => locks ∨ e.state = some .opening ∧ e.pendingClose = true ∧ e.attempts = d.attempts
  | some .opening => e = { d with pendingClose := true }
  | some .standOpen => waits d.attempts
  | some .obstructed => waits 0
  | some .closeWait => e = d ∨ (e.state = some .closing ∧ e.attempts = d.attempts
      ∨ e.state = some .reversing ∧ e.attempts = d.attempts + 1)
  | some .reversing => e = (if d.reqClass = none then d else { d with pendingClose := true })

/-- What an OPEN makes of every door unit that is reached, fitted and not isolated, where it has the permission that `s` gives or
is given it (R16 to R19). -/
def State.opensEach (f : Face) (c : ReqClass) (reached : DoorIx → Prop) (permitted : DoorIx → Prop) (s t : State) : Prop :=
  ∀ j, s.isFitted f j = true → reached j → s.isolated f j = false → OpenedFrom c (permitted j) (s.door f j) (t.door f j)

/-- What a CLOSE makes of every door unit that is reached, fitted and not isolated (R16, R17). -/
def State.closesEach (f : Face) (reached : DoorIx → Prop) (s t : State) : Prop :=
  ∀ j, s.isFitted f j = true → reached j → s.isolated f j = false → ClosedFrom (s.door f j) (t.door f j)

/-- What the setting of the emergency latch makes of the door units: EMERGENCY OPEN for each that is fitted, not isolated and in
an active section or in a state other than LOCKED; every isolated one and every one LOCKED in an inactive section stays
(R132, R133). -/
def State.emergencyOpens (f : Face) (s t : State) : Prop :=
  let left (j : DoorIx) : Prop := s.isolated f j = true
    ∨ s.sectionActive f j = false ∧ ((s.door f j).state = some .locked ∨ (s.door f j).state = none)
  s.opensEach f .emergency (fun j => ¬left j) (fun _ => True) t ∧
  ∀ j, s.isFitted f j = true → left j → t.unit f j = s.unit f j

/-! ### What a dwell program does -/

/-- The engine fields that a completed or halted step leaves: timers stopped, followed set empty, posting awaited clear
(R140, R146 to R148). -/
def Engine.rested (e : Engine) : Engine :=
  { e with limitTimer := none, holdTimer := none, followed := [], awaiting := false }

/-- Error flags set, and the error context written with the phase where it is absent (R147). -/
def Engine.marked (m : BitVec 16) (p : Phase) (e : Engine) : Engine :=
  { e with
    errors := e.errors ||| m
    context := if e.context.isSome then e.context else e.current.map (fun i => (i, p)) }

/-- The engine in HOLDING for a time (R146). -/
def Engine.holdsFor (now : Ms) (t : Nat) (e : Engine) : Engine :=
  { e.rested with state := .holding, phase := .hold, holdTimer := some ⟨now, t⟩ }

/-- The engine halted by a cause of R148 where it stands. -/
def Engine.haltedBy (m : BitVec 16) (e : Engine) : Engine := { (e.marked m e.phase).rested with state := .halted }

/-- The engine after the results of the requests of an action (R143, R147): `js` are the door units reached, `refusal` the error
of each that refuses (DOOR_FAULT is 1 and REFUSED is 4), `enters` says which are entered into the followed set, and `u` is the
state after all the requests (log 11). The hold of a completed action runs `hold`. -/
def Engine.carried (x : Engine) (halts : Bool) (js : List DoorIx) (refusal : DoorIx → Option (BitVec 16))
    (enters : DoorIx → Bool) (atTarget : DoorIx → Bool) (now : Ms) (hold : Nat) : Engine :=
  let acting : Engine := { x with state := .acting, phase := .act, followed := [], awaiting := false }
  let followed := (js.filter enters).map (fun j => (j, (refusal j).isNone && !atTarget j))
  let goes (y : Engine) : Engine := if followed.any Prod.snd then { y with followed := followed } else y.holdsFor now hold
  match js.filterMap refusal with
  | [] => goes acting
  | m :: ms => if halts then acting.haltedBy m else goes (acting.marked (ms.foldl (· ||| ·) m) .act)

/-- The error, if any, that an OPEN brings a dwell program from a door unit (R143): DOOR_FAULT from one in RELEASED or FAULT, and
from one with no state yet (log 27), and REFUSED where R19 does not permit it. An isolated one brings none. -/
def State.openError (s : State) (f : Face) (j : DoorIx) : Option (BitVec 16) :=
  match (s.door f j).state with
  | none => some 1
  | some st =>
    if s.isolated f j then none
    else match st with
      | .released | .fault => some 1
      | .locked | .locking => if s.mayLeaveLocked f j then none else some 4
      | .unlatching | .unlatched | .opening | .standOpen | .closeWait | .closing | .reversing | .recloseHold
      | .obstructed => none

/-- The error, if any, that a CLOSE brings a dwell program from a door unit (R143). -/
def State.closeError (s : State) (f : Face) (j : DoorIx) : Option (BitVec 16) :=
  match (s.door f j).state with
  | none => some 1
  | some st =>
    if s.isolated f j then none
    else if (s.face f).mode.latch then some 4
    else if st = .released ∨ st = .fault then some 1 else none

/-- A door unit given a request with this error is entered into the followed set: every one but an isolated one and one that
refuses with REFUSED (R143, log 27). -/
def State.entersFollowed (s : State) (f : Face) (error : DoorIx → Option (BitVec 16)) (j : DoorIx) : Bool :=
  error j ≠ some 4 && ((s.door f j).state.isNone || !s.isolated f j)

/-- From `s` to `u` the action of descriptor `d` has been issued by an engine with the fields of `x` (R142 to R146): WAIT, MARK
and a CHECK that passes lead to HOLDING, and a CHECK that fails sets CHECK_FAILED, which is 8. CLOSE and an OPEN that is issued
follow the door units they reach; an OPEN that is posted awaits its issue, and one that finds nothing leads to HOLDING. A hold
of 0 of an action that completes at once runs 10 ms. -/
def State.actionIssued (f : Face) (d : Descriptor) (x : Engine) (s u : State) : Prop :=
  let b := s.berth f
  let hold := if d.hold = 0 then 10 else d.hold
  let halts := (s.par f).haltOnError
  let acting : Engine := { x with state := .acting, phase := .act, followed := [], awaiting := false }
  let becomes (e : Engine) : Prop := u.face f = { s.face f with engine := e }
  let at_ (st : DoorState) (j : DoorIx) : Bool := (u.door f j).state = some st
  let reach := s.actionReach f d.selection
  let selected := s.selectMap f d.selection.sections d.selection.doorMask
  let posts := b.state = .arriving ∨ b.state = .settling ∨ b.state = .stopped ∧ (s.face f).align.grade = some .noConsist
  let pass := ∀ j ∈ reach, (s.door f j).state = some .locked ∧ ((s.sense f j).zone = .idle ∨ (s.sense f j).zone = .watch)
  match d.action with
  | .wait | .mark => becomes (x.holdsFor s.msClock hold)
  | .check =>
    (pass → becomes (x.holdsFor s.msClock hold)) ∧
    (¬pass → becomes (if halts then acting.haltedBy 8 else (x.marked 8 .act).holdsFor s.msClock hold))
  | .close =>
    u.side f = { s.side f with
      engine := x.carried halts reach (s.closeError f) (s.entersFollowed f (s.closeError f)) (at_ .locked) s.msClock hold } ∧
    ((s.face f).mode.latch = false → s.closesEach f (fun j => j ∈ reach) u)
  | .open_ =>
    (posts → u.face f = { s.face f with
      engine := { acting with awaiting := true }
      berth := { b with posted := some (match b.posted with
        | none => ⟨d.selection.sections, d.selection.doorMask, false, false, true, s.msClock, none⟩
        | some q => { q with
            sections := q.sections ||| d.selection.sections
            doorMask := q.doorMask ||| d.selection.doorMask
            fromProgram := true }) } }) ∧
    (¬posts → b.state ≠ .stopped ∨ s.map f = [] → becomes (x.holdsFor s.msClock hold)) ∧
    (¬posts → b.state = .stopped → s.map f ≠ [] →
      u.side f = { s.side f with
        engine := x.carried halts selected (s.openError f) (s.entersFollowed f (s.openError f)) (at_ .standOpen) s.msClock
          hold } ∧
      s.opensEach f .normal (fun j => j ∈ selected) (s.mayLeaveLocked f) u)

/-! ### The train of a consist -/

/-- A unit of a consist: its profile, the cars of its car list, and its orientation (R100). -/
structure TrainUnit where
  profile : UnitProfile
  cars : List CarProfile
  orientation : Orientation
  deriving DecidableEq, Repr

/-- The cars of a unit from the end nearer the train's head (R100). -/
def TrainUnit.fromHead (t : TrainUnit) : List CarProfile :=
  match t.orientation with
  | .forward => t.cars
  | .reversed => t.cars.reverse

/-- The door offsets of a car of a unit from the end nearer the train's head, ascending (R100). -/
def TrainUnit.offsets (t : TrainUnit) (c : CarProfile) : List Nat :=
  match t.orientation with
  | .forward => c.offsets
  | .reversed => (c.offsets.map (fun o => c.length - o)).reverse

/-- The distance from the head of a train at which its unit of an index starts: the cars before it, and half the sum of the
allowances on each side of every gap before it. At the number of units it is the length of the train (R100). -/
def trainStart (ts : List TrainUnit) (k : Nat) : Nat :=
  ((ts.take k).map (fun t => (t.cars.map CarProfile.length).sum)).sum
    + (((ts.take k).zip ts.tail).map (fun p => (p.1.profile.allowance + p.2.profile.allowance) / 2)).sum

/-- The number of cars of a train (R101). -/
def trainCars (ts : List TrainUnit) : Nat := (ts.map (fun t => t.cars.length)).sum

/-- The doors of a train from its head, each with its distance and its unit, car and door numbers, which start at 1 and of
which the car number counts through the train (R100). -/
def trainDoors (ts : List TrainUnit) : List FlatEntry :=
  ts.zipIdx.flatMap (fun (t, k) => t.fromHead.zipIdx.flatMap (fun (c, i) => (t.offsets c).zipIdx.map (fun (o, n) =>
    ⟨trainStart ts k + ((t.fromHead.take i).map CarProfile.length).sum + o, k + 1, trainCars (ts.take k) + i + 1, n + 1⟩)))

/-! ### Requests -/

/-- The frame is the head of the receive queue of its link and can be taken now, by a controller with power and with
nothing left to be told (R155). -/
def State.ready (s : State) (l : Link) (x : Frame) : Bool :=
  s.powered && s.notices.isEmpty && x.payload.length ≤ 248 && s.canTake l x

/-- The answer to a taken frame: the reply with a result code and a payload, and what follows it (R156, R157). -/
def State.replied (l : Link) (x : Frame) (c : ResultCode) (body : List Byte) (s : State) : State :=
  (s.clearOverruns l x c).sendReply l (s.replyFrame l x ⟨c, body⟩)

/-- The code of a value by its place in a list of R167 that starts at 0; 0xFF where it is absent (R165). -/
def codeIn {α : Type} [DecidableEq α] (l : List α) (o : Option α) : Nat :=
  match o with
  | none => 0xFF
  | some a => l.idxOf a

/-- The door unit states in the order of R167. -/
def doorStates : List DoorState :=
  [.locked, .unlatching, .unlatched, .opening, .standOpen, .closeWait, .closing, .reversing, .recloseHold, .obstructed,
    .locking, .released, .fault]

/-- The berth states in the order of R167. -/
def berthStates : List BerthState :=
  [.empty, .notified, .approaching, .arriving, .settling, .stopped, .departing, .movedFault]

/-- The tracker states in the order of R170. -/
def trackers : List Tracker := [.clear, .a, .b, .abFromA, .abFromB, .tailFromA, .tailFromB]

/-- The fault causes in the order of R167, whose codes start at 1. -/
def faultCauses : List (Option FaultCause) :=
  [none, some .lockWithdrawTimeout, some .openTimeout, some .closeTimeout, some .lockEngageTimeout, some .lockLost,
    some .positionUnknown, some .sensorConflict]

/-- The grades in the order of R167, whose codes start at 1. -/
def grades : List (Option Grade) :=
  [none, some .full, some .partial_, some .misaligned, some .outOfWindow, some .measureInvalid, some .noConsist]

/-- Milliseconds that remain on a timer; 0 on a stopped one (for the quiet, deferral and clearing timers log 38). -/
def remaining (t : Option Timer) (now : Ms) : Nat :=
  match t with
  | none => 0
  | some t => t.dur - (now - t.start).toNat

/-- A list of flags read as a number, the first at bit 0. -/
def bitsValue : List Bool → Nat
  | [] => 0
  | b :: bs => (if b then 1 else 0) + 2 * bitsValue bs

/-- The readings that a start takes of a face. -/
def startReadings (r : StartReadings) : Face → FaceReadings
  | .f0 => r.f0
  | .f1 => r.f1

/-- The field position of a door unit position (R5). -/
def fieldPosition (f : Face) (j : DoorIx) : Fin 64 :=
  match f with
  | .f0 => ⟨j.val, by omega⟩
  | .f1 => ⟨32 + j.val, by omega⟩

/-! ### Kinds of commands -/

/-- The commands that can change the working copy: the starts, the configuration writes of R63, and RESTORE and
ISOLATE among them (R25, R62). -/
def writesConfiguration : Instr → Bool
  | .powerOn _ | .resetPin _ => true
  | .writeGeometry _ _ _ | .writeTolerance _ _ _ | .writeParameters _ _ _ | .writeDeviceParameters _ _ _ => true
  | .setReporting _ _ _ | .writeCarProfile _ _ _ | .writeUnitProfile _ _ _ | .writeDescriptor _ _ _ => true
  | .lockGeometry _ _ _ | .unlockGeometry _ _ _ | .isolate _ _ _ | .restore _ _ _ => true
  | _ => false

/-- The commands that can change the stored copy, its generation, its CRC or a commit in flight. -/
def touchesStore : Instr → Bool
  | .powerOn _ | .resetPin _ | .lossOfPower | .commitEnd | .commit _ _ _ => true
  | _ => false

/-- The face of an event that acts on one face. -/
def eventFace : Instr → Option Face
  | .doorInputChange f _ _ | .sensingInputChange f _ _ | .ab1Change f _ _ | .ab2Change f _ _ | .swBeamChange f _ _ _ => some f
  | .keyswitchChange f _ | .eoiChange f _ => some f
  | .unlatchSettleExpiry f _ | .recloseDelayExpiry f _ | .doorTimeoutExpiry f _ => some f
  | .spacingHoldExpiry f _ | .historySlotEmptied f _ _ | .quietTimerExpiry f => some f
  | .deferralTimerExpiry f _ | .clearingTimerExpiry f _ | .approachTimerExpiry f | .settleTimerExpiry f => some f
  | .postingTimerExpiry f | .limitTimerExpiry f | .holdTimerExpiry f => some f
  | _ => none

/-- The request rows whose payload begins with the face they act on. -/
def requestOnFace : Instr → Option (List Byte)
  | .arrivalNotice _ _ p | .doorRelease _ _ p | .releaseWithdraw _ _ p | .trainAtRest _ _ p | .departed _ _ p => some p
  | .possessionGrant _ _ p | .possessionRevoke _ _ p | .doorCommandOpen _ _ p | .doorCommandClose _ _ p => some p
  | .doorReset _ _ p | .ackGap _ _ p | .faceReset _ _ p | .berthAck _ _ p | .evacuate _ _ p => some p
  | .emergencyClear _ _ p | .startProgram _ _ p | .haltProgram _ _ p | .resumeProgram _ _ p | .stepProgram _ _ p => some p
  | .clearProgramErrors _ _ p | .armProgram _ _ p | .disarmProgram _ _ p | .isolate _ _ p | .restore _ _ p => some p
  | .setMode _ _ p => some p
  | _ => none

end Sys2Proof.Machine
end

