-- ==== Sys2Proof/Certificates/Slice0/Obligations.lean ====
section
/-! DEFINITION. The statements for the provers: what the commands and the whole controller do, by the numbered rules. -/

open Sys2Proof Sys2Proof.Machine

/-! ### The whole machine -/

/-- The model's step (the host's form): the command at the front of the queue is carried out with the queue's rest. -/
def Obligations.StepTakesFrontCommand : Prop :=
  ∀ (c : Instr) (rest : List Instr) (s : State), s.pending = c :: rest →
    step s = exec c { s with pending := rest }

/-- With no command waiting, a due event is taken; with none due one millisecond passes on both counters, and the
units of the faces, the configuration and the links stay as they are. Without power nothing happens, and no command
acts but POWER_ON (log 1, log 8). The order of the due events is log 2. -/
def Obligations.IdleStepTakesDueEventOrATick : Prop :=
  (∀ s : State, s.pending = [] →
     (∀ c, s.dueCommand = some c → step s = exec c s) ∧
     (s.dueCommand = none → s.powered = true →
       ∃ t, step s = .next t ∧ t.msClock = s.msClock + 1 ∧ t.usClock = s.usClock + 1000
         ∧ { t with msClock := s.msClock, usClock := s.usClock, scanPhase := s.scanPhase, fieldOut := s.fieldOut } = s) ∧
     (s.powered = false → step s = .next s)) ∧
  (∀ (c : Instr) (s : State), s.powered = false → (∀ r, c ≠ .powerOn r) → exec c s = .next s)

/-- R6: the drive values that a door unit holds follow its state by the table of R6, and those of a position that is not
fitted are off. The scan that is completed next sends them out; that the tick which ends a scan phase completes it is the
model's choice (log 1, log 7). -/
def Obligations.DrivesFollowTheDoorState : Prop :=
  ∀ (s : State) (f : Face) (j : DoorIx),
    let held : Drives := s.drivesAt (fieldPosition f j)
    (s.isFitted f j = false → held = ⟨.off, .off⟩) ∧
    (∀ st, s.isFitted f j = true → (s.door f j).state = some st →
      (held.latch = .withdraw ↔ st = .unlatching ∨ st = .unlatched ∨ st = .opening) ∧
      (held.latch = .engage ↔ st = .locking) ∧
      (held.leaf = .open_ ↔ st = .opening ∨ st = .standOpen ∨ st = .closeWait ∨ st = .reversing ∨ st = .recloseHold
        ∨ st = .obstructed) ∧
      (held.leaf = .close ↔ st = .closing ∨ st = .locking)) ∧
    (s.pending = [] → s.dueCommand = none → s.powered = true → s.scanDone = true → 3 ≤ s.scanPhase →
      ∃ t, step s = .next t ∧ t.fieldOut[fieldPosition f j] = held)

/-- A command changes everything but the queue of the commands that wait behind it (the host's form), and no step leaves
anything to be told to an engine (log 10). -/
def Obligations.CommandsKeepTheQueueAndLeaveNoNotice : Prop :=
  (∀ (c : Instr) (s t : State), exec c s = .next t → t.pending = s.pending) ∧
  (∀ s t : State, s.notices = [] → step s = .next t → t.notices = [])

/-- R62, R63, R73, R74: only a start and the configuration writes change the working copy. Only the end of a commit, the
loss of power and a start change the stored copy, and only these and COMMIT change the commit in flight. -/
def Obligations.OnlyWritesAndCommitsChangeTheConfiguration : Prop :=
  (∀ (c : Instr) (s t : State), writesConfiguration c = false → exec c s = .next t → t.config = s.config) ∧
  (∀ (c : Instr) (s t : State), exec c s = .next t →
     (touchesStore c = false → (t.nv, t.storedGen, t.storedCrc, t.commit) = (s.nv, s.storedGen, s.storedCrc, s.commit)) ∧
     (∀ l g p, c = .commit l g p → (t.nv, t.storedGen, t.storedCrc) = (s.nv, s.storedGen, s.storedCrc)))

/-- An event of one face leaves the other face as it is, with the working copy, the stored copy, the receive side of both
links and the levels and readings of the device, except that an expiry taken early brings the clock to it (log 3) and a
beam change the microsecond counter (log 5). A request that names one face leaves the units of the other face as they are. -/
def Obligations.CommandsOfAFaceStayInTheFace : Prop :=
  (∀ (c : Instr) (f : Face) (s t : State), eventFace c = some f → s.notices = [] → exec c s = .next t →
     State.outside f { t with
       msClock := s.msClock, usClock := s.usClock, usPhase := s.usPhase, scanPhase := s.scanPhase
       fieldOut := s.fieldOut } = s.outside f) ∧
  (∀ (c : Instr) (p : List Byte) (f g : Face) (s t : State), requestOnFace c = some p → faceOf (byteAt p 0) = some f →
     g ≠ f → s.notices = [] → exec c s = .next t → t.face g = s.face g)

/-! ### Start and power -/

/-- R74, R75: what a start loads, by the three outcomes of the load, with the start mode of both faces, which is the saved
mode where the keyswitch has already put the face in LOCAL. That a commit in flight leaves the storage torn, and the form
in which the stored copy is held, are the model's (log 24). -/
def Obligations.StartLoadsTheStoredCopy : Prop :=
  ∀ (c : Instr) (cause : ResetCause) (r : StartReadings) (s : State),
    (c = .powerOn r ∧ cause = .power ∨ c = .resetPin r ∧ cause = .pin ∧ s.powered = true) →
    ∃ t, exec c s = .next t ∧ t.powered = true ∧ t.resetCause = cause ∧ t.commit = none ∧ t.maint = r.maint
      ∧ t.nv = (if s.commit.isSome then NvStore.torn else s.nv)
      ∧ (∀ w g k, t.nv = .whole w g k → k = crc16 (w.bytes g) →
          t.config = w ∧ t.storedGen = g ∧ t.storedCrc = k
            ∧ (t.configInvalid = true ↔ w.geo0.n = 0 ∨ w.geo1.n = 0))
      ∧ ((∀ w g k, t.nv = .whole w g k → k ≠ crc16 (w.bytes g)) →
          t.config = WorkingCopy.default ∧ t.configInvalid = true ∧ t.storedGen = 0 ∧ t.storedCrc = 0)
      ∧ t.speedSl = t.config.speedSl ∧ t.speedIl = t.config.speedIl
      ∧ ∀ f, (((t.face f).mode.saved).getD (t.face f).mode.mode) =
          (if t.configInvalid then .maintenance else if (t.par f).startSupervised then .supervised else .automatic)

/-- R27, R39, R59, R91, R95, R122, R152: a start gives the units of both faces their start values, the berth resolved
from its beams. R127, R132, R136: the mode, keyswitch and latch after a start, by the first readings. R4, R24: the first
complete scan gives every door unit its inputs and resolves every fitted one, and CLP is computed; under the latch a door
unit that is not isolated and is found LOCKED in an active section is UNLATCHING with the request class EMERGENCY. The law of
the Start Queues holds after every start (StepsKeepTheStartQueueLaw). The values that the spec does not state are those of
log 9 and log 30. -/
def Obligations.StartResetsTheFaces : Prop :=
  (∀ (c : Instr) (r : StartReadings) (s : State),
     (c = .powerOn r ∨ c = .resetPin r ∧ s.powered = true) →
     ∃ t, exec c s = .next t ∧ t.scanDone = false ∧ t.ilLost = true ∧ t.silence = none ∧ ∀ f : Face,
       (∀ j, (t.door f j).state = none ∧ (t.door f j).cause = none ∧ (t.door f j).attempts = 0
         ∧ (t.door f j).pendingClose = false ∧ (t.door f j).reqClass = none ∧ t.sense f j = DoorSense.blank)
       ∧ (∀ g, t.group f g = Group.blank)
       ∧ (t.face f).quiet = false ∧ (t.face f).quietTimer = none
       ∧ (t.face f).ring = Vector.replicate 64 none ∧ (t.face f).newest = none
       ∧ (t.face f).beams = ⟨(startReadings r f).ab1, (startReadings r f).ab2, (startReadings r f).sw⟩
       ∧ t.berth f = (if (t.face f).beams.allClear then Berth.blank
           else { Berth.blank with state := .settling, settleTimer := some ⟨t.msClock, (t.par f).stopSettle⟩ })
       ∧ (t.face f).align = Alignment.blank ∧ (t.face f).clp.value = false ∧ (t.face f).engine = Engine.start) ∧
  (∀ (c : Instr) (r : StartReadings) (s : State),
     (c = .powerOn r ∨ c = .resetPin r ∧ s.powered = true) →
     ∃ t, exec c s = .next t ∧ ∀ f : Face,
       let m := (t.face f).mode
       let start : Mode :=
         if t.configInvalid then .maintenance else if (t.par f).startSupervised then .supervised else .automatic
       m.latch = (startReadings r f).eoi ∧ m.eoi = (startReadings r f).eoi ∧ m.possession = false
       ∧ ((startReadings r f).key = some .auto →
           m.mode = start ∧ m.saved = none ∧ m.key = .auto ∧ m.generation = 1)
       ∧ ((startReadings r f).key ≠ some .auto →
           m.mode = .local_ ∧ m.saved = some start ∧ m.key = ((startReadings r f).key).getD .localClose
             ∧ m.generation = 0)) ∧
  (∀ (v : Vector DoorInputs 64) (s : State), s.scanDone = false → (∀ f, s.calm f = true) → (∀ f, s.startQueueLaw f) →
     ∃ t, exec (.firstCompleteScan v) s = .next t ∧ t.scanDone = true
       ∧ (t.config, t.configInvalid, t.commit, t.nv, t.msClock, t.usClock, t.silence, t.ilLost, t.maint)
           = (s.config, s.configInvalid, s.commit, s.nv, s.msClock, s.usClock, s.silence, s.ilLost, s.maint)
       ∧ (∀ l, (t.link l).rxSide = (s.link l).rxSide)
       ∧ ∀ f : Face,
         (∀ j, t.input f j = v[fieldPosition f j]) ∧ (t.face f).clp = t.computeClp f
         ∧ (∀ j, t.door f j = if s.isFitted f j then s.resolvedRec f j (v[fieldPosition f j]) else s.door f j)
         ∧ (∀ g, t.group f g = s.group f g)
         ∧ (t.face f).mode = (s.face f).mode ∧ t.berth f = s.berth f ∧ (t.face f).align = (s.face f).align
         ∧ (t.face f).beams = (s.face f).beams ∧ (t.face f).engine = (s.face f).engine)

/-- R30: every step keeps the law of the Start Queues of both faces: every entry is of a door unit of the group in UNLATCHED
(OPEN) or CLOSE_WAIT (CLOSE) that is fitted and not isolated, with at most one entry for each door unit and EMERGENCY entries
before NORMAL ones. With it stand what keeps it: R10, R12: an entry is held when unlatch_settle has passed or deferral has
ended; R49: a deferral runs in CLOSE_WAIT alone; R25: an isolated door unit is in LOCKED, RELEASED or FAULT; R5, R27: a position
that is not fitted has no state, nor has any door unit before the first complete scan. -/
def Obligations.StepsKeepTheStartQueueLaw : Prop :=
  ∀ s t : State, (∀ f, s.startQueueLaw f) → step s = .next t → ∀ f, t.startQueueLaw f

/-- R73: COMMIT takes the working copy as it stands, with the stored generation plus one and the CRC-16 over the
content and that generation, and ends within 400 ms; a second one meanwhile is refused COMMIT_BUSY. R73, R76: the end
of a commit makes the content taken at acceptance the stored copy, with its generation and CRC; with no commit in
flight nothing happens; CONFIG_INVALID goes when both faces have door units. R74, R153: loss of power abandons a
commit in flight, so that its storage no longer matches its CRC, and cuts off the frames being sent; all else stays
(log 8 for the drives and for what is kept). The time of the end is log 23, the stored copy log 24. -/
def Obligations.CommitsAreTakenStoredOrAbandoned : Prop :=
  (∀ s : State, s.powered = true → s.notices = [] →
     exec .lossOfPower s = .next { s with
       powered := false
       commit := none
       nv := if s.commit.isSome then .torn else s.nv
       fieldOut := Vector.replicate 64 ⟨.off, .off⟩
       sl := { s.sl with tx := none }
       il := { s.il with tx := none } }) ∧
  (∀ s : State, s.powered = true → s.notices = [] →
     (s.commit = none → exec .commitEnd s = .next s) ∧
     (∀ x, s.commit = some x → (∀ f, s.calm f = true) → ∃ t, exec .commitEnd s = .next t
       ∧ t.nv = .whole x.content x.gen x.crc ∧ t.storedGen = x.gen ∧ t.storedCrc = x.crc ∧ t.commit = none
       ∧ t.config = s.config
       ∧ t.configInvalid = (s.configInvalid && !(1 ≤ s.config.geo0.n && 1 ≤ s.config.geo1.n))
       ∧ (∀ f, t.side f = s.side f ∧ (∀ j, t.unit f j = s.unit f j) ∧ ∀ g, t.group f g = s.group f g)
       ∧ (t.pending, t.msClock, t.usClock, t.maint, t.silence, t.ilLost)
           = (s.pending, s.msClock, s.usClock, s.maint, s.silence, s.ilLost)
       ∧ ∀ l, (t.link l).rxSide = (s.link l).rxSide)) ∧
  (∀ (g : Byte) (s : State), s.ready .sl ⟨0x1A#8, g, []⟩ = true →
     (s.commit = none → ∃ u : State, exec (.commit .sl g []) s = .next (u.replied .sl ⟨0x1A#8, g, []⟩ .accept [])
       ∧ u.commit = some ⟨s.config, s.storedGen + 1, crc16 (s.config.bytes (s.storedGen + 1)), ⟨s.msClock, 400⟩⟩
       ∧ { u with commit := none } = s.popFrame .sl) ∧
     (s.commit.isSome = true →
       exec (.commit .sl g []) s = .next ((s.popFrame .sl).replied .sl ⟨0x1A#8, g, []⟩ .commitBusy [])))

/-! ### Door units -/

/-- R22: MRH becoming active puts a door unit into RELEASED from any other state. R13, R14: contradictory leaf and lock
signals, a leaf that closes while the door unit holds it open, and a lock lost in LOCKED put the door unit into FAULT
with the cause. R23, R24: MRH becoming inactive in RELEASED resolves the door unit from the signals that the change brings;
one that would be LOCKING stays in RELEASED under the emergency latch, unless it is isolated, and one found LOCKED there in an
active section opens. In RELEASED other changes are noted alone, and MRH becoming active again keeps it. A Start Queue entry
of the door unit is removed; every other door unit without an entry in its group's queue, and all else, stays. -/
def Obligations.ManualReleaseAndInputFaults : Prop :=
  (∀ (f : Face) (j : DoorIx) (v : LeafSignals) (s : State), s.calm f = true → s.scanDone = true →
     s.isFitted f j = true → (s.input f j).mrh = false → v.mrh = true → (s.door f j).state ≠ some .released →
     ∃ t, exec (.doorInputChange f j v) s = .next t
       ∧ t.door f j = ⟨some .released, none, 0, false, none, s.msClock, none⟩
       ∧ t.noEntry f (s.groupOf f j) j
       ∧ OnlyDoor f j (s.mapInput f j (withLeaf v)) t) ∧
  (∀ (f : Face) (j : DoorIx) (v : LeafSignals) (s : State) (st : DoorState) (c : FaultCause),
     s.calm f = true → s.scanDone = true → s.isFitted f j = true → v.mrh = (s.input f j).mrh →
     (s.door f j).state = some st → st ≠ .released → st ≠ .fault →
     ((v.leafOpen = true ∧ v.leafClosed = true ∨ v.lockEngaged = true ∧ v.leafClosed = false) ∧ c = .sensorConflict
       ∨ (st = .standOpen ∨ st = .closeWait ∨ st = .recloseHold ∨ st = .obstructed)
         ∧ (s.input f j).leafClosed = false ∧ v.leafClosed = true ∧ v.leafOpen = false ∧ c = .positionUnknown
       ∨ st = .locked ∧ (s.input f j).lockEngaged = true ∧ v.lockEngaged = false ∧ v.mrh = false
         ∧ ¬(v.leafOpen = true ∧ v.leafClosed = true) ∧ c = .lockLost) →
     ∃ t, exec (.doorInputChange f j v) s = .next t
       ∧ t.door f j = ⟨some .fault, some c, 0, false, none, s.msClock, none⟩
       ∧ t.noEntry f (s.groupOf f j) j
       ∧ OnlyDoor f j (s.mapInput f j (withLeaf v)) t) ∧
  (∀ (f : Face) (j : DoorIx) (v : LeafSignals) (s : State), s.calm f = true → s.scanDone = true →
     s.isFitted f j = true → (s.door f j).state = some .released →
     let i := withLeaf v (s.input f j)
     let u := s.mapInput f j (withLeaf v)
     let found := (resolvedState i (s.isolated f j) (s.face f).mode.latch).1
     ((s.input f j).mrh = true → v.mrh = false → found ≠ .released → ∃ t, exec (.doorInputChange f j v) s = .next t
       ∧ t.door f j = s.resolvedRec f j i ∧ t.noEntry f (s.groupOf f j) j ∧ OnlyDoor f j u t) ∧
     ((s.input f j).mrh = true → v.mrh = false → found = .released → exec (.doorInputChange f j v) s = .next u) ∧
     (v.mrh = (s.input f j).mrh → exec (.doorInputChange f j v) s = .next u) ∧
     ((s.input f j).mrh = false → v.mrh = true → ∃ t, exec (.doorInputChange f j v) s = .next t
       ∧ t.face f = u.face f ∧ t.outside f = s.outside f))

/-- R9 to R13, R21, R48: an opening, or a reversal by request, that reaches LEAF_OPEN ends in OPEN, or with pending close
set in CLOSE_WAIT, where an occupied doorway defers the close and a free one has its CLOSE entry placed; a reversal by
obstruction ends in RECLOSE_HOLD while the attempts are below reclose_max, and in OBSTRUCTED otherwise; a closing that
reaches LEAF_CLOSED is LOCKING; a LOCKING door unit whose lock engages is LOCKED. An UNLATCHING door unit whose lock
withdraws is UNLATCHED, where an unlatch_settle of 0 places its OPEN entry at once, and an UNLATCHED one whose lock engages
is UNLATCHING again, without its entry. The inputs bring no contradiction. -/
def Obligations.LeafAndLockMoveTheDoorOn : Prop :=
  ∀ (f : Face) (j : DoorIx) (v : LeafSignals) (s : State),
    s.calm f = true → s.scanDone = true → s.isFitted f j = true → v.mrh = (s.input f j).mrh →
    ¬(v.leafOpen = true ∧ v.leafClosed = true ∨ v.lockEngaged = true ∧ v.leafClosed = false) →
    let d := s.door f j
    let opens := d.state = some .opening ∨ d.state = some .reversing ∧ d.reqClass.isSome = true
    (opens → d.pendingClose = false → (s.input f j).leafOpen = false → v.leafOpen = true →
      ∃ t, exec (.doorInputChange f j v) s = .next t
        ∧ t.door f j = ⟨some .standOpen, none, 0, false, none, s.msClock, none⟩
        ∧ OnlyDoor f j (s.mapInput f j (withLeaf v)) t) ∧
    (opens → d.pendingClose = true → (s.input f j).leafOpen = false → v.leafOpen = true →
      s.noEntry f (s.groupOf f j) j →
      ∃ t, exec (.doorInputChange f j v) s = .next t ∧ s.entersCloseWait f j d.attempts t
        ∧ OnlyDoor f j (s.mapInput f j (withLeaf v)) t) ∧
    ((s.door f j).state = some .closing → (s.input f j).leafClosed = false → v.leafClosed = true →
      ∃ t, exec (.doorInputChange f j v) s = .next t
        ∧ t.door f j = ⟨some .locking, none, (s.door f j).attempts, false, none, s.msClock,
            some ⟨s.msClock, (s.par f).lockEngageTimeout⟩⟩
        ∧ OnlyDoor f j (s.mapInput f j (withLeaf v)) t) ∧
    ((s.door f j).state = some .locking → (s.input f j).lockEngaged = false → v.lockEngaged = true →
      ∃ t, exec (.doorInputChange f j v) s = .next t
        ∧ t.door f j = ⟨some .locked, none, 0, false, none, s.msClock, none⟩
        ∧ OnlyDoor f j (s.mapInput f j (withLeaf v)) t) ∧
    (d.state = some .reversing → d.reqClass = none → (s.input f j).leafOpen = false → v.leafOpen = true →
      ∃ t, exec (.doorInputChange f j v) s = .next t
        ∧ t.door f j = (if d.attempts < (s.par f).recloseMax then
            ⟨some .recloseHold, none, d.attempts, d.pendingClose, none, s.msClock, some ⟨s.msClock, (s.par f).recloseDelay⟩⟩
          else ⟨some .obstructed, none, d.attempts, d.pendingClose, none, s.msClock, none⟩)
        ∧ OnlyDoor f j (s.mapInput f j (withLeaf v)) t) ∧
    (d.state = some .unlatching → (s.input f j).lockEngaged = true → v.lockEngaged = false →
      (s.par f).unlatchSettle ≠ 0 ∨ s.noEntry f (s.groupOf f j) j →
      let g := s.groupOf f j
      let e : Entry := ⟨j, .open_, d.reqClass.getD .normal, s.msClock⟩
      let q := joinQueue e (s.group f g).queue
      ∃ t, exec (.doorInputChange f j v) s = .next t ∧ OnlyDoor f j (s.mapInput f j (withLeaf v)) t
        ∧ ((s.par f).unlatchSettle ≠ 0 → t.group f g = s.group f g
            ∧ t.door f j = ⟨some .unlatched, none, d.attempts, d.pendingClose, d.reqClass, s.msClock,
                some ⟨s.msClock, (s.par f).unlatchSettle⟩⟩)
        ∧ ((s.par f).unlatchSettle = 0 → ¬(q.head? = some e ∧ (s.group f g).mayGrant = true) →
            t.group f g = { s.group f g with queue := q }
            ∧ t.door f j = ⟨some .unlatched, none, d.attempts, d.pendingClose, d.reqClass, s.msClock, none⟩)
        ∧ ((s.par f).unlatchSettle = 0 → q.head? = some e → (s.group f g).mayGrant = true → t.noEntry f g j
            ∧ t.door f j = ⟨some .opening, none, d.attempts, d.pendingClose, d.reqClass, s.msClock,
                some ⟨s.msClock, (s.par f).openTimeout⟩⟩)) ∧
    (d.state = some .unlatched → (s.input f j).lockEngaged = false → v.lockEngaged = true →
      ∃ t, exec (.doorInputChange f j v) s = .next t
        ∧ t.door f j = ⟨some .unlatching, none, d.attempts, d.pendingClose, d.reqClass, s.msClock,
            some ⟨s.msClock, (s.par f).lockWithdrawTimeout⟩⟩
        ∧ t.noEntry f (s.groupOf f j) j
        ∧ OnlyDoor f j (s.mapInput f j (withLeaf v)) t)

/-- R20, R34: EDGE becoming active in CLOSING reverses the door unit at once, with one reclose attempt more, the
request class absent, its gap zone idle and the start recorded in its group's Start History; its queue and spacing
hold stay, and so does every other door unit. The slot taken is that of log 14. -/
def Obligations.ObstructionReversesTheDoor : Prop :=
  ∀ (f : Face) (j : DoorIx) (v : SenseSignals) (s : State),
    s.calm f = true → s.scanDone = true → s.isFitted f j = true → (s.door f j).state = some .closing →
    (s.sense f j).deferral = none → (s.input f j).edge = false → v.edge = true →
    v.dwa = (s.input f j).dwa → v.dwb = (s.input f j).dwb → v.gap = (s.input f j).gap →
    let x := s.group f (s.groupOf f j)
    let start : Timer := ⟨s.msClock, (s.par f).startWindow⟩
    ∃ t, exec (.sensingInputChange f j v) s = .next t
      ∧ t.door f j = ⟨some .reversing, none, (s.door f j).attempts + 1, (s.door f j).pendingClose, none, s.msClock,
          some ⟨s.msClock, (s.par f).openTimeout⟩⟩
      ∧ (t.sense f j).zone = .idle
      ∧ (∀ g, t.group f g = if g = s.groupOf f j then
          { x with history := put x.history (x.startSlot s.msClock) (some start) } else s.group f g)
      ∧ t.outside f = s.outside f ∧ t.side f = (s.mapInput f j (withSense v)).side f
      ∧ ∀ k, k ≠ j → t.unit f k = s.unit f k

/-- R42 to R44, R46: a change of the doorway beams moves a running tracker by the table of R43 and leaves one that is held as it
is. A passage, which a tracker in a tail state counts when both beams clear, is added to the counts of the door unit and of the
face up to 65,535, for a door unit in the Door Map; there the quiet timer starts again and the quiet condition is false. Nothing
else changes. R46: when the quiet timer expires with a non-empty Door Map the quiet condition becomes true; with an empty one
only the timer stops. -/
def Obligations.DoorwaysAreWatched : Prop :=
  (∀ (f : Face) (j : DoorIx) (v : SenseSignals) (s : State),
     s.calm f = true → s.scanDone = true → s.isFitted f j = true → (s.sense f j).deferral = none →
     (v.dwa ≠ (s.input f j).dwa ∨ v.dwb ≠ (s.input f j).dwb) → v.gap = (s.input f j).gap → v.edge = (s.input f j).edge →
     -- the row of a tracker state: neither beam, DWA only, DWB only, both beams
     let row : Tracker → List Tracker
       | .clear => [.clear, .a, .b, .clear]
       | .a => [.clear, .a, .b, .abFromA]
       | .b => [.clear, .a, .b, .abFromB]
       | .abFromA => [.clear, .a, .tailFromA, .abFromA]
       | .abFromB => [.clear, .tailFromB, .b, .abFromB]
       | .tailFromA => [.clear, .a, .tailFromA, .abFromA]
       | .tailFromB => [.clear, .tailFromB, .b, .abFromB]
     let column : Nat := bitsValue [v.dwa, v.dwb]
     let st := (s.door f j).state
     let runs := st = some .opening ∨ st = some .standOpen ∨ st = some .closeWait ∨ st = some .recloseHold
       ∨ st = some .obstructed
     let held := (s.sense f j).tracker
     let map := j ∈ s.map f
     let boards : Nat := if runs ∧ held = .tailFromA ∧ column = 0 ∧ map then 1 else 0
     let alights : Nat := if runs ∧ held = .tailFromB ∧ column = 0 ∧ map then 1 else 0
     let counted (n k : Nat) : Nat := if k = 0 then n else min (n + k) 65535
     exec (.sensingInputChange f j v) s = .next (s.mapFace f (fun x => { x with
       inputs := put x.inputs j (withSense v x.inputs[j])
       sense := put x.sense j { x.sense[j] with
         tracker := if runs then (row held).getD column .clear else held
         boarding := counted x.sense[j].boarding boards
         alighting := counted x.sense[j].alighting alights }
       boarding := counted x.boarding boards
       alighting := counted x.alighting alights
       quietTimer := if map then some ⟨s.msClock, (s.par f).quietTime⟩ else x.quietTimer
       quiet := if map then false else x.quiet }))) ∧
  (∀ (f : Face) (s : State) (m : Timer), s.calm f = true → (s.face f).quietTimer = some m → m.due s.msClock = true →
     (s.map f ≠ [] → exec (.quietTimerExpiry f) s =
       .next (s.mapFace f (fun x => { x with quietTimer := none, quiet := true }))) ∧
     (s.map f = [] → exec (.quietTimerExpiry f) s = .next (s.mapFace f (fun x => { x with quietTimer := none }))))

/-- R10, R31, R36: when unlatch_settle has passed an OPEN entry joins the Start Queue in the class of the request class
(NORMAL where it is absent); as head of the queue with the spacing hold at rest and fewer than four starts it is granted
at once, and the door unit is OPENING; otherwise only the queue and the door unit's timer change. R8: a timeout in UNLATCHING,
OPENING, REVERSING, CLOSING or LOCKING puts the door unit into FAULT with the matching cause, its Start Queue entry removed. -/
def Obligations.DoorTimersExpire : Prop :=
  (∀ (f : Face) (j : DoorIx) (s : State) (m : Timer), s.calm f = true → (s.door f j).state = some .unlatched →
     (s.door f j).timer = some m → m.due s.msClock = true → s.noEntry f (s.groupOf f j) j →
     let g := s.groupOf f j
     let e : Entry := ⟨j, .open_, ((s.door f j).reqClass).getD .normal, s.msClock⟩
     let q := joinQueue e (s.group f g).queue
     (q.head? = some e ∧ (s.group f g).mayGrant = true →
       ∃ t, exec (.unlatchSettleExpiry f j) s = .next t
         ∧ t.door f j = ⟨some .opening, none, (s.door f j).attempts, (s.door f j).pendingClose, (s.door f j).reqClass,
             s.msClock, some ⟨s.msClock, (s.par f).openTimeout⟩⟩
         ∧ t.noEntry f g j ∧ OnlyDoor f j s t) ∧
     (¬(q.head? = some e ∧ (s.group f g).mayGrant = true) →
       exec (.unlatchSettleExpiry f j) s = .next ((s.mapDoor f j (fun d => { d with timer := none })).mapGroup f g
         (fun x => { x with queue := q })))) ∧
  (∀ (f : Face) (j : DoorIx) (s : State) (m : Timer) (st : DoorState) (c : FaultCause), s.calm f = true →
     (s.door f j).state = some st → (s.door f j).timer = some m → m.due s.msClock = true →
     (st = .unlatching ∧ c = .lockWithdrawTimeout ∨ (st = .opening ∨ st = .reversing) ∧ c = .openTimeout
       ∨ st = .closing ∧ c = .closeTimeout ∨ st = .locking ∧ c = .lockEngageTimeout) →
     ∃ t, exec (.doorTimeoutExpiry f j) s = .next t
       ∧ t.door f j = ⟨some .fault, some c, 0, false, none, s.msClock, none⟩
       ∧ t.noEntry f (s.groupOf f j) j ∧ OnlyDoor f j s t)

/-- R12, R21, R48, R49: when reclose_delay has passed the door unit enters CLOSE_WAIT with its attempts kept; with a doorway
beam interrupted and a deferral limit its deferral starts, and else its CLOSE entry joins the queue behind the entries
there. When doorway_defer_limit has passed, or an input change leaves both beams inactive, the deferral ends and the CLOSE
entry is placed in the same way; where it may be granted at once the door unit is CLOSING, and with EDGE active REVERSING.
While a beam stays interrupted the deferral runs on. -/
def Obligations.CloseWaitIsEnteredAndLeft : Prop :=
  (∀ (f : Face) (j : DoorIx) (s : State) (m : Timer), s.calm f = true → (s.door f j).state = some .recloseHold →
     (s.door f j).timer = some m → m.due s.msClock = true → s.noEntry f (s.groupOf f j) j →
     ∃ t, exec (.recloseDelayExpiry f j) s = .next t ∧ s.entersCloseWait f j (s.door f j).attempts t ∧ OnlyDoor f j s t) ∧
  (∀ (f : Face) (j : DoorIx) (s : State) (m : Timer), s.calm f = true → (s.door f j).state = some .closeWait →
     (s.sense f j).deferral = some m → m.due s.msClock = true → s.noEntry f (s.groupOf f j) j →
     ∃ t, exec (.deferralTimerExpiry f j) s = .next t ∧ s.closePlaced f j (s.door f j) t ∧ OnlyDoor f j s t) ∧
  (∀ (f : Face) (j : DoorIx) (s : State) (m : Timer) (v : SenseSignals),
     s.calm f = true → s.scanDone = true → s.isFitted f j = true → (s.door f j).state = some .closeWait →
     (s.sense f j).deferral = some m → s.noEntry f (s.groupOf f j) j →
     v.gap = (s.input f j).gap → v.edge = (s.input f j).edge →
     (v.dwa = false → v.dwb = false → ∃ t, exec (.sensingInputChange f j v) s = .next t
       ∧ s.closePlaced f j (s.door f j) t ∧ t.outside f = s.outside f ∧ t.berth f = s.berth f
       ∧ (t.face f).mode = (s.face f).mode ∧ (t.face f).align = (s.face f).align ∧ (t.face f).engine = (s.face f).engine
       ∧ ∀ k, k ≠ j → t.unit f k = s.unit f k) ∧
     (v.dwa = true ∨ v.dwb = true → ∃ t, exec (.sensingInputChange f j v) s = .next t
       ∧ (t.sense f j).deferral = some m ∧ (t.face f).doors = (s.face f).doors ∧ (t.face f).groups = (s.face f).groups
       ∧ t.outside f = s.outside f))

/-- R16 to R19, R31 to R34, R117, R133: one request at one door unit. It is refused ISOLATED, EMERGENCY_ACTIVE (a CLOSE
under the latch) or NOT_AVAILABLE in this order, and otherwise decided by the state, and accepted unless R19 is asked and
none of its four cases holds: then the door unit stays and the answer is NO_RELEASE. OPEN and EMERGENCY OPEN: LOCKED and
LOCKING start toward open with the request class; UNLATCHING, UNLATCHED, OPENING, REVERSING and OPEN keep their state, with
pending close cleared, the class raised by EMERGENCY, a NORMAL OPEN entry moved to the tail of the EMERGENCY class, and a
reversal by obstruction become one by request with attempts 0; CLOSE_WAIT, RECLOSE_HOLD and OBSTRUCTED are OPEN; CLOSING is
REVERSING with the start recorded. CLOSE: UNLATCHING and UNLATCHED are LOCKING; OPENING and a reversal by request keep their
state with pending close set; OPEN, and OBSTRUCTED with attempts 0, enter CLOSE_WAIT; nothing else changes. A door unit with
no state refuses first (log 27); the slot of a start is log 14. The premise is the law of the Start Queues (R30). -/
def Obligations.DoorRequestsAreDecidedByTheTable : Prop :=
  ∀ (f : Face) (j : DoorIx) (s : State), s.startQueueLaw f →
    let d := s.door f j
    let st := d.state
    let now := s.msClock
    let g := s.groupOf f j
    let x := s.group f g
    let kept (r : DoorRequest) (c : ResultCode) : Prop := s.request f j r = (s, c)
    let record (r : DoorRequest) (e : DoorRec) : Prop := s.request f j r = (s.mapDoor f j (fun _ => e), .accept)
    let moves (r : DoorRequest) (p : State → Prop) : Prop :=
      ∃ t, s.request f j r = (t, .accept) ∧ OnlyDoor f j s t ∧ p t
    (∀ r, st = none → kept r .notAvailable) ∧
    (∀ r, st ≠ none → s.isolated f j = true → kept r .isolated) ∧
    (st ≠ none → s.isolated f j = false → (s.face f).mode.latch = true → kept .close .emergencyActive) ∧
    (∀ r, st = some .released ∨ st = some .fault → s.isolated f j = false →
      r ≠ .close ∨ (s.face f).mode.latch = false → kept r .notAvailable) ∧
    (∀ (r : DoorRequest) (c : ReqClass), s.isolated f j = false →
      r = .open_ ∧ c = .normal ∨ r = .emergencyOpen ∧ c = .emergency →
      let asked : DoorRec := { d with
        pendingClose := false
        reqClass := if c = .emergency then some .emergency else d.reqClass }
      (st = some .locked ∨ st = some .locking → ¬s.mayLeaveLocked f j → kept r .noRelease) ∧
      (st = some .locked ∨ st = some .locking → s.mayLeaveLocked f j → moves r (s.startsOpening f j c)) ∧
      (st = some .unlatching ∨ st = some .opening → record r asked) ∧
      (st = some .unlatched → (c = .emergency → ∀ e ∈ x.queue, e.door = j → e.cls = .emergency) → record r asked) ∧
      (∀ e ∈ x.queue, st = some .unlatched → c = .emergency → e.door = j → e.cls = .normal →
        let e' : Entry := { e with cls := .emergency }
        let q := joinQueue e' (x.queue.filter (fun y => y.door ≠ j))
        (¬(q.head? = some e' ∧ x.mayGrant = true) → s.request f j r =
          ((s.mapDoor f j (fun _ => asked)).mapGroup f g (fun y => { y with queue := q }), .accept)) ∧
        (q.head? = some e' → x.mayGrant = true → moves r (fun t => t.noEntry f g j
          ∧ t.door f j = ⟨some .opening, none, d.attempts, false, some .emergency, now, some ⟨now, (s.par f).openTimeout⟩⟩))) ∧
      (st = some .standOpen → record r { d with pendingClose := false }) ∧
      (st = some .closeWait ∨ st = some .recloseHold ∨ st = some .obstructed → moves r (fun t => t.noEntry f g j
        ∧ (t.sense f j).deferral = none ∧ t.door f j = ⟨some .standOpen, none, 0, false, none, now, none⟩)) ∧
      (st = some .closing → moves r (fun t => (t.sense f j).zone = .idle
        ∧ t.door f j = ⟨some .reversing, none, d.attempts, false, some c, now, some ⟨now, (s.par f).openTimeout⟩⟩
        ∧ ∀ h, t.group f h = if h = g then
            { x with history := put x.history (x.startSlot now) (some ⟨now, (s.par f).startWindow⟩) } else s.group f h)) ∧
      (st = some .reversing → record r { d with
        pendingClose := false
        attempts := if d.reqClass = none then 0 else d.attempts
        reqClass := if c = .emergency ∨ d.reqClass = none then some c else d.reqClass })) ∧
    (s.isolated f j = false → (s.face f).mode.latch = false →
      (st = some .locked ∨ st = some .closeWait ∨ st = some .closing ∨ st = some .recloseHold ∨ st = some .locking
        ∨ st = some .reversing ∧ d.reqClass = none → kept .close .accept) ∧
      (st = some .unlatching ∨ st = some .unlatched → moves .close (fun t => t.noEntry f g j
        ∧ t.door f j = ⟨some .locking, none, d.attempts, false, none, now, some ⟨now, (s.par f).lockEngageTimeout⟩⟩)) ∧
      (st = some .opening ∨ st = some .reversing ∧ d.reqClass ≠ none → record .close { d with pendingClose := true }) ∧
      (st = some .standOpen → moves .close (s.entersCloseWait f j d.attempts)) ∧
      (st = some .obstructed → moves .close (s.entersCloseWait f j 0)))

/-! ### Power groups -/

/-- R34 to R36: when the spacing hold of a group stops or a slot of its Start History is emptied, its grant is
evaluated. With an empty queue, a running hold or four starts in the history nothing else happens. Otherwise the head is
granted: the entry is gone, the start recorded with its window, and the spacing hold running. The door unit of an OPEN entry
is OPENING. That of a CLOSE entry is CLOSING, and its gap zone, if idle and served, is armed (R51); with EDGE active it is
REVERSING at once, with one reclose attempt more and that start recorded too, and its zone idle (R20, R50, R53). Every other
group and door unit stays. The slots taken are those of log 14. -/
def Obligations.GrantAfterSpacingOrWindow : Prop :=
  ∀ (f : Face) (g : GroupIx) (s : State), s.calm f = true →
    ∀ (c : Instr) (x : Group),
    ((∃ m, (s.group f g).spacing = some m ∧ m.due s.msClock = true ∧ c = .spacingHoldExpiry f g
        ∧ x = { s.group f g with spacing := none }) ∨
      (∃ m i, (s.group f g).history[i] = some m ∧ m.due s.msClock = true ∧ c = .historySlotEmptied f g i
        ∧ x = { s.group f g with history := put (s.group f g).history i none })) →
    ((x.queue = [] ∨ x.spacing.isSome = true ∨ 4 ≤ x.starts) →
      exec c s = .next (s.mapGroup f g (fun _ => x))) ∧
    (∀ e rest, x.queue = e :: rest → x.spacing = none → x.starts < 4 → (s.par f).startSpacing ≠ 0 →
      e.motion = .open_ →
      ∃ t, exec c s = .next t
        ∧ t.door f e.door = { s.door f e.door with
            state := some .opening, cause := none, entryTime := s.msClock
            timer := some ⟨s.msClock, (s.par f).openTimeout⟩ }
        ∧ (∀ h, t.group f h = if h = g then
            ⟨rest, put x.history (x.startSlot s.msClock) (some ⟨s.msClock, (s.par f).startWindow⟩),
              some ⟨s.msClock, (s.par f).startSpacing⟩⟩ else s.group f h)
        ∧ t.outside f = s.outside f ∧ t.side f = s.side f ∧ ∀ k, k ≠ e.door → t.unit f k = s.unit f k) ∧
    (∀ e rest, x.queue = e :: rest → x.spacing = none → x.starts < 4 → (s.par f).startSpacing ≠ 0 →
      e.motion = .close → s.groupOf f e.door = g →
      let d := s.door f e.door
      let start : Timer := ⟨s.msClock, (s.par f).startWindow⟩
      let y : Group := ⟨rest, put x.history (x.startSlot s.msClock) (some start), some ⟨s.msClock, (s.par f).startSpacing⟩⟩
      let z := (s.sense f e.door).zone
      ∃ t, exec c s = .next t
        ∧ ((s.input f e.door).edge = false →
            t.door f e.door = { d with
              state := some .closing, cause := none, entryTime := s.msClock
              timer := some ⟨s.msClock, (s.par f).closeTimeout⟩ }
            ∧ (∀ h, t.group f h = if h = g then y else s.group f h)
            ∧ (t.sense f e.door).zone = (if s.served f e.door = true ∧ z = .idle then
                if (s.input f e.door).gap then .occupied else .watch
              else z))
        ∧ ((s.input f e.door).edge = true →
            t.door f e.door = { d with
              state := some .reversing, cause := none, attempts := d.attempts + 1, reqClass := none
              entryTime := s.msClock, timer := some ⟨s.msClock, (s.par f).openTimeout⟩ }
            ∧ (∀ h, t.group f h = if h = g then
                { y with history := put y.history (y.startSlot s.msClock) (some start) } else s.group f h)
            ∧ (t.sense f e.door).zone = .idle)
        ∧ (t.sense f e.door).deferral = none
        ∧ t.outside f = s.outside f ∧ t.side f = s.side f ∧ ∀ k, k ≠ e.door → t.unit f k = s.unit f k)

/-! ### Quiet condition and gap zones -/

/-- R52, R56: GAP becoming active in WATCH is the onset of an episode: the zone is OCCUPIED, and a record with no end is
written in the slot after the newest, which is then the newest. GAP becoming inactive in OCCUPIED starts the clearing timer
in CLEARING, and GAP becoming active in CLEARING or LATCHED is OCCUPIED again, each with the same episode and no new record;
any other change of GAP leaves the zone. R52, R55, R57, R119: when gap_clear_time passes in CLEARING, the zone becomes
LATCHED with gap_latch ON and its episode stays open; with gap_latch OFF it becomes WATCH, and the record of its episode is
completed as CLEARED, with a duration kept up to 65,535. CLP of the face is what the law of R119 gives. -/
def Obligations.GapEpisodesBeginAndEnd : Prop :=
  (∀ (f : Face) (j : DoorIx) (s : State) (m : Timer) (e : Episode) (i : Fin 64), s.calm f = true → s.scanDone = true →
     (s.sense f j).zone = .clearing → (s.sense f j).clearing = some m → m.due s.msClock = true →
     (s.sense f j).episode = some e → e.slot = some i →
     ∃ t, exec (.clearingTimerExpiry f j) s = .next t
       ∧ ((s.par f).gapLatch = true →
           t.sense f j = { s.sense f j with zone := .latched, clearing := none } ∧ (t.face f).ring = (s.face f).ring)
       ∧ ((s.par f).gapLatch = false →
           t.sense f j = { s.sense f j with zone := .watch, clearing := none, episode := none }
           ∧ (t.face f).ring = put (s.face f).ring i ((s.face f).ring[i].map (fun r =>
               { r with ended := some (min (s.msClock - e.onset).toNat 65535, .cleared) })))
       ∧ (t.face f).clp = t.computeClp f
       ∧ (t.face f).doors = (s.face f).doors ∧ (t.face f).groups = (s.face f).groups
       ∧ t.outside f = s.outside f ∧ t.side f = s.side f ∧ ∀ k, k ≠ j → t.unit f k = s.unit f k) ∧
  (∀ (f : Face) (j : DoorIx) (v : SenseSignals) (s : State),
     s.calm f = true → s.scanDone = true → s.isFitted f j = true → (s.sense f j).zone = .watch →
     (s.sense f j).deferral = none → (s.input f j).gap = false → v.gap = true →
     v.dwa = (s.input f j).dwa → v.dwb = (s.input f j).dwb → v.edge = (s.input f j).edge →
     ∃ t, exec (.sensingInputChange f j v) s = .next t
       ∧ ∃ i : Fin 64, i = (match (s.face f).newest with | none => 0 | some n => n + 1)
       ∧ t.sense f j = { s.sense f j with zone := .occupied, clearing := none, episode := some ⟨s.msClock, some i⟩ }
       ∧ (t.face f).ring = put (s.face f).ring i (some ⟨j, s.msClock, none⟩) ∧ (t.face f).newest = some i
       ∧ (t.face f).clp = t.computeClp f
       ∧ (t.face f).doors = (s.face f).doors ∧ (t.face f).groups = (s.face f).groups
       ∧ t.outside f = s.outside f ∧ t.side f = (s.mapInput f j (withSense v)).side f
       ∧ ∀ k, k ≠ j → t.unit f k = s.unit f k) ∧
  (∀ (f : Face) (j : DoorIx) (v : SenseSignals) (s : State),
     s.calm f = true → s.scanDone = true → s.isFitted f j = true → (s.sense f j).deferral = none →
     (s.input f j).gap ≠ v.gap → v.dwa = (s.input f j).dwa → v.dwb = (s.input f j).dwb → v.edge = (s.input f j).edge →
     let z := (s.sense f j).zone
     let becomes (d : DoorSense) : Prop := ∃ t, exec (.sensingInputChange f j v) s = .next t
       ∧ t.sense f j = d ∧ (t.face f).ring = (s.face f).ring ∧ (t.face f).newest = (s.face f).newest
       ∧ (t.face f).clp = t.computeClp f
       ∧ (t.face f).doors = (s.face f).doors ∧ (t.face f).groups = (s.face f).groups
       ∧ t.outside f = s.outside f ∧ t.side f = (s.mapInput f j (withSense v)).side f
       ∧ ∀ k, k ≠ j → t.sense f k = s.sense f k
     (z = .occupied → v.gap = false →
       becomes { s.sense f j with zone := .clearing, clearing := some ⟨s.msClock, (s.par f).gapClearTime⟩ }) ∧
     (z = .clearing ∨ z = .latched → v.gap = true →
       becomes { s.sense f j with zone := .occupied, clearing := none }) ∧
     (z = .idle ∨ v.gap = false ∧ (z = .watch ∨ z = .clearing ∨ z = .latched) ∨ v.gap = true ∧ z = .occupied →
       exec (.sensingInputChange f j v) s = .next (s.mapInput f j (withSense v))))

/-! ### Berth -/

/-- R1, R78, R81, R131: AB1 interrupted in EMPTY or NOTIFIED starts an approach: the two readings and the approach timer are
kept, and possession is lost on leaving EMPTY. Where no possession is lost no door unit is asked anything. The change is
taken when the microsecond counter has reached its acceptance, 500 µs after the level changed (log 5). R83: the approach
timer expires in APPROACHING. With a consist held the berth returns to NOTIFIED and the approach's times, speed and
prediction go; without one it enters EMPTY. -/
def Obligations.ApproachStartsAndIsAbandoned : Prop :=
  (∀ (f : Face) (a : Us) (s : State), s.calm f = true → (s.beams f).ab1 = false →
     ((s.berth f).state = .empty ∨ (s.berth f).state = .notified) →
     let u := s.reachMicros (a + 500#32)
     u.usClock = a + 500#32 ∧ ∃ t, exec (.ab1Change f true a) s = .next t
       ∧ t.berth f = { s.berth f with
           state := .approaching, ab1Time := some (a, u.msClock)
           approachTimer := some ⟨u.msClock, (s.par f).approachLimit⟩ }
       ∧ (t.face f).beams = { s.beams f with ab1 := true }
       ∧ (t.face f).mode = { (s.face f).mode with
           possession := (s.face f).mode.possession && (s.berth f).state = .notified }
       ∧ (t.face f).align = (s.face f).align ∧ t.outside f = u.outside f
       ∧ ((s.face f).mode.possession = false ∨ (s.berth f).state = .notified →
           ∀ k, t.unit f k = s.unit f k ∧ ∀ g, t.group f g = s.group f g)) ∧
  (∀ (f : Face) (s : State) (m : Timer), s.calm f = true → (s.berth f).state = .approaching →
     (s.berth f).approachTimer = some m → m.due s.msClock = true →
     ∃ t, exec (.approachTimerExpiry f) s = .next t
       ∧ ((s.berth f).consist.isSome = true → t.berth f = { s.berth f with
           state := .notified, ab1Time := none, ab2Time := none, speed := none, predicted := none
           approachTimer := none } ∧ (∀ k, t.unit f k = s.unit f k) ∧ (t.face f).align = (s.face f).align)
       ∧ ((s.berth f).consist = none →
           (t.berth f).state = .empty ∧ (t.berth f).ab1Time = none ∧ (t.berth f).approachTimer = none
           ∧ (t.berth f).posted = none ∧ (t.face f).align = Alignment.blank
           ∧ ∀ j, s.isFitted f j = true → (t.sense f j).zone = .idle)
       ∧ (t.face f).doors = (s.face f).doors ∧ (t.face f).beams = (s.face f).beams
       ∧ (t.face f).mode = (s.face f).mode ∧ t.outside f = s.outside f)

/-- R78, R82, R96, R97: AB2 interrupted in APPROACHING enters ARRIVING, when the change is accepted (log 5). Within
approach_limit the speed is the distance between the beams over the interval, rounded down and kept to 65,535, and the
predicted head is AB2 plus v² over twice the braking rate, rounded down and kept to 32,767; beyond it both stay absent. -/
def Obligations.Ab2PredictsTheHead : Prop :=
  ∀ (f : Face) (a b : Us) (r : Ms) (s : State), s.calm f = true → (s.beams f).ab2 = false →
    (s.berth f).state = .approaching → (s.berth f).ab1Time = some (b, r) → (s.berth f).speed = none →
    (s.berth f).predicted = none →
    let dt := (a - b).toNat
    let raw := ((s.geo f).ab2 - (s.geo f).ab1).toNat * 1000000 / dt
    let v := if dt = 0 ∨ 65535 < raw then 65535 else raw
    let h : Int := (s.geo f).ab2 + (v * v / (2 * (s.par f).brakingRate) : Nat)
    let u := s.reachMicros (a + 500#32)
    ∃ t, exec (.ab2Change f true a) s = .next t
      ∧ ((s.par f).approachLimit * 1000 < dt → t.berth f = { s.berth f with
          state := .arriving, ab2Time := some a, approachTimer := none })
      ∧ (dt ≤ (s.par f).approachLimit * 1000 → t.berth f = { s.berth f with
          state := .arriving, ab2Time := some a, approachTimer := none
          speed := some (v, decide (dt = 0 ∨ 65535 < raw)), predicted := some (min h 32767, decide (32767 < h)) })
      ∧ (t.face f).beams = { s.beams f with ab2 := true } ∧ (t.face f).mode = (s.face f).mode
      ∧ (t.face f).align = (s.face f).align ∧ t.outside f = u.outside f
      ∧ ∀ k, t.unit f k = s.unit f k ∧ ∀ g, t.group f g = s.group f g

/-- R78, R84: a stop-window beam interrupted in EMPTY, NOTIFIED, APPROACHING or ARRIVING enters SETTLING and starts the
settle timer; every change of one in SETTLING starts the timer again and changes nothing else. R53, R90, R95: in DEPARTING the
change of a beam that leaves all 27 clear enters EMPTY, where the consist, the times, the prediction and the measurement are
absent, the posted open is discarded, the alignment result cleared and every gap zone disarmed; any other change there changes
the level alone. The change is taken when it is accepted (log 5). -/
def Obligations.WindowBeamStartsSettling : Prop :=
  (∀ (f : Face) (i : Fin 25) (v : Bool) (a : Us) (s : State), s.calm f = true → (s.beams f).sw[i] ≠ v →
     let u := s.reachMicros (a + 500#32)
     let timer : Timer := ⟨u.msClock, (s.par f).stopSettle⟩
     (v = true → ((s.berth f).state = .empty ∨ (s.berth f).state = .notified ∨ (s.berth f).state = .approaching
         ∨ (s.berth f).state = .arriving) →
       ∃ t, exec (.swBeamChange f i v a) s = .next t
         ∧ t.berth f = { s.berth f with
             state := .settling, measure := none, stopTime := none, approachTimer := none, settleTimer := some timer }
         ∧ (t.face f).beams = { s.beams f with sw := put (s.beams f).sw i v }
         ∧ (t.face f).align = (s.face f).align ∧ t.outside f = u.outside f
         ∧ ((s.face f).mode.possession = false ∨ (s.berth f).state ≠ .empty → (t.face f).mode = (s.face f).mode
             ∧ ∀ k, t.unit f k = s.unit f k ∧ ∀ g, t.group f g = s.group f g)) ∧
     ((s.berth f).state = .settling →
       exec (.swBeamChange f i v a) s = .next (u.mapFace f (fun x => { x with
         beams := { x.beams with sw := put x.beams.sw i v }
         berth := { x.berth with settleTimer := some timer } })))) ∧
  (∀ (f : Face) (v : Bool) (a : Us) (c : Instr) (x : Beams) (s : State), s.calm f = true → (s.berth f).state = .departing →
     (c = .ab1Change f v a ∧ (s.beams f).ab1 ≠ v ∧ x = { s.beams f with ab1 := v } ∨
       c = .ab2Change f v a ∧ (s.beams f).ab2 ≠ v ∧ x = { s.beams f with ab2 := v } ∨
       ∃ i, c = .swBeamChange f i v a ∧ (s.beams f).sw[i] ≠ v ∧ x = { s.beams f with sw := put (s.beams f).sw i v }) →
     let u := s.reachMicros (a + 500#32)
     let clear : Prop := x.ab1 = false ∧ x.ab2 = false ∧ ∀ i : Fin 25, x.sw[i] = false
     (clear → ∃ t, exec c s = .next t
       ∧ t.berth f = { s.berth f with
           state := .empty, consist := none, ab1Time := none, ab2Time := none, speed := none, predicted := none
           measure := none, stopTime := none, approachTimer := none, settleTimer := none, posted := none
           postingTimer := if (s.berth f).posted.isSome then none else (s.berth f).postingTimer }
       ∧ (t.face f).beams = x ∧ (t.face f).align = Alignment.blank
       ∧ (∀ j, s.isFitted f j = true → (t.sense f j).zone = .idle)
       ∧ (t.face f).quiet = false ∧ (t.face f).quietTimer = none
       ∧ (t.face f).doors = (s.face f).doors ∧ (t.face f).groups = (s.face f).groups
       ∧ (t.face f).mode = (s.face f).mode ∧ t.outside f = u.outside f) ∧
     (¬clear → exec c s = .next (u.mapFace f (fun y => { y with beams := x }))))

/-- R87, R88, R104, R115: a stop-window beam change in STOPPED. With release not in force and every fitted door unit
LOCKED the berth re-berths into SETTLING; otherwise it enters MOVED_FAULT, release is cleared, and CLP is withheld. In
both cases the alignment result is cleared and the posted open discarded. The change is taken when it is accepted
(log 5). -/
def Obligations.MovementAfterStop : Prop :=
  ∀ (f : Face) (i : Fin 25) (v : Bool) (a : Us) (s : State), s.calm f = true → s.scanDone = true →
    (s.beams f).sw[i] ≠ v → (s.berth f).state = .stopped →
    let u := s.reachMicros (a + 500#32)
    ∃ t, exec (.swBeamChange f i v a) s = .next t
      ∧ (t.face f).align = Alignment.blank ∧ (t.berth f).posted = none ∧ (t.berth f).postingTimer = (if
          (s.berth f).posted.isSome then none else (s.berth f).postingTimer)
      ∧ (t.face f).quiet = false ∧ (t.face f).quietTimer = none
      ∧ ((s.berth f).release = false ∧ s.allLocked f = true →
          (t.berth f).state = .settling ∧ (t.berth f).measure = none ∧ (t.berth f).stopTime = none
          ∧ (t.berth f).settleTimer = some ⟨u.msClock, (s.par f).stopSettle⟩ ∧ (t.berth f).consist = (s.berth f).consist)
      ∧ (¬((s.berth f).release = false ∧ s.allLocked f = true) →
          (t.berth f).state = .movedFault ∧ (t.berth f).release = false ∧ (t.face f).clp.value = false
          ∧ (t.face f).clp.moved = true ∧ (t.berth f).consist = (s.berth f).consist)
      ∧ (t.face f).beams = { s.beams f with sw := put (s.beams f).sw i v } ∧ (t.face f).mode = (s.face f).mode
      ∧ t.outside f = u.outside f ∧ ∀ k, t.unit f k = s.unit f k ∧ ∀ g, t.group f g = s.group f g

/-- R45, R85, R86, R99, R106: when the settle timer expires in SETTLING, the berth is STOPPED with the measurement of the
beams, the stop time and the alignment result, and the counts of the face and of each door unit are 0; with no posted open
nothing is asked of a door unit. R114: a posted open with no issue time is taken by the grade: with FULL or PARTIAL it is
issued at once where posted_delay has passed since it was posted, and otherwise its issue time is set and the posting timer
runs up to it; with NO_CONSIST it waits as it is; with any other grade it is discarded. R114: at the
issue time the posted open is gone and its timer at rest, and every door unit of the Door Map that its masks select is given an
OPEN, which R16 to R19 decide; with an empty Door Map it is discarded and opens nothing. -/
def Obligations.StopAndPostedOpen : Prop :=
  (∀ (f : Face) (s : State) (m : Timer), s.calm f = true → (s.berth f).state = .settling →
     (s.berth f).settleTimer = some m → m.due s.msClock = true →
     ∃ t, exec (.settleTimerExpiry f) s = .next t
       ∧ (t.berth f).state = .stopped ∧ (t.berth f).measure = some (s.measureNow f)
       ∧ (t.berth f).stopTime = some s.msClock ∧ (t.berth f).settleTimer = none
       ∧ (t.face f).align = s.alignment f (s.measureNow f)
       ∧ (t.face f).boarding = 0 ∧ (t.face f).alighting = 0
       ∧ (t.berth f).release = (s.berth f).release ∧ (t.berth f).consist = (s.berth f).consist
       ∧ (t.face f).beams = (s.face f).beams ∧ (t.face f).mode = (s.face f).mode ∧ t.outside f = s.outside f
       ∧ ((s.berth f).posted = none → (t.berth f).posted = none ∧ (t.face f).doors = (s.face f).doors
           ∧ (t.face f).groups = (s.face f).groups)
       ∧ (∀ j, (t.sense f j).boarding = 0 ∧ (t.sense f j).alighting = 0)
       ∧ ∀ p, (s.berth f).posted = some p → p.issueTime = none → (s.berth f).postingTimer = none →
           let a := s.alignment f (s.measureNow f)
           let past := (s.msClock - p.postTime).toNat
           let delay := (s.par f).postedDelay
           let m := (s.face f).mode
           let serves := a.grade = some .full ∨ a.grade = some .partial_
           let leaves (o : Option Posted) (r : Option Timer) : Prop := (t.berth f).posted = o ∧ (t.berth f).postingTimer = r
           let still := (t.face f).doors = (s.face f).doors ∧ (t.face f).groups = (s.face f).groups
           (¬serves → a.grade = some .noConsist → leaves (some p) none ∧ still) ∧
           (¬serves → a.grade ≠ some .noConsist → leaves none none ∧ still) ∧
           (serves → past < delay → still ∧ leaves
             (some { p with issueTime := some (p.postTime + BitVec.ofNat 32 delay) }) (some ⟨s.msClock, delay - past⟩)) ∧
           (serves → delay ≤ past → leaves none none ∧ (s.startQueueLaw f → s.opensEach f .normal (fun j => j ∈ a.map ∧
             (p.sections.getLsbD ((s.geo f).doors[j]).section_.val = true ∨ p.doorMask.getLsbD j.val = true))
             (fun _ => (m.mode = .automatic ∨ m.mode = .supervised) ∧ (s.berth f).release = true ∨ m.latch = true
               ∨ m.mode = .local_ ∧ m.key = .localOpen) t))) ∧
  (∀ (f : Face) (s : State) (m : Timer) (p : Posted), s.calm f = true → (s.berth f).posted = some p →
     (s.berth f).postingTimer = some m → m.due s.msClock = true → s.startQueueLaw f →
     ∃ t, exec (.postingTimerExpiry f) s = .next t
       ∧ t.berth f = { s.berth f with posted := none, postingTimer := none }
       ∧ (s.map f ≠ [] → s.opensEach f .normal (fun j => j ∈ s.map f ∧
           (p.sections.getLsbD ((s.geo f).doors[j]).section_.val = true ∨ p.doorMask.getLsbD j.val = true))
           (s.mayLeaveLocked f) t)
       ∧ (s.map f = [] → (t.face f).doors = (s.face f).doors ∧ (t.face f).groups = (s.face f).groups)
       ∧ (t.face f).beams = (s.face f).beams ∧ (t.face f).mode = (s.face f).mode
       ∧ (t.face f).align = (s.face f).align ∧ t.outside f = s.outside f)

/-- R98, R99: the reading of the stop window. With the beams from SW0 up to beam `k` interrupted and every beam above clear,
H is k − 12 pitches and half a pitch, and k = 24 is BEYOND. One clear beam inside the run is bridged and named. With none
interrupted the reading is SHORT, and every other pattern is MEASURE_INVALID. The reading is made of the accepted levels.
R102: the Door Map names only fitted door units that can be served, each within the tolerance of an entry of the Flattened
Door List. R103: it is empty when the grade is MISALIGNED and holds every candidate otherwise; FULL leaves no entry
unserved, and PARTIAL leaves at most partial_limit entries unserved and serves one at least. R106: a measurement without H
gives MEASURE_INVALID, one that is BEYOND or SHORT gives OUT_OF_WINDOW, and no consist held gives NO_CONSIST, the first that
applies, each with no Match Table and an empty Door Map; only otherwise the doors are matched. -/
def Obligations.StopIsMeasuredAndMatched : Prop :=
  ((∀ (s : State) (f : Face), s.measureNow f = (readWindow (s.beams f).sw.toList).measure (s.geo f).pitch) ∧
   ∀ (sw : List Bool) (pitch : Nat), sw.length = 25 →
     let head (k : Nat) : Option Int := some (((k : Int) - 12) * pitch + (pitch / 2 : Nat))
     let reads (m : Measure) : Prop := (readWindow sw).measure pitch = m
     let run (k : Nat) : Prop := sw = (List.range 25).map (fun i => decide (i ≤ k))
     let bridged (k b : Nat) : Prop := b < k ∧ sw = (List.range 25).map (fun i => decide (i ≤ k ∧ i ≠ b))
     let clear : Prop := sw = List.replicate 25 false
     (∀ k, k < 24 → run k → reads ⟨head k, false, false, none, false⟩) ∧
     (run 24 → reads ⟨head 24, true, false, none, false⟩) ∧
     (∀ (k : Nat) (b : Fin 25), k < 24 → bridged k b.val → reads ⟨head k, false, false, some b, false⟩) ∧
     (∀ b : Fin 25, bridged 24 b.val → reads ⟨head 24, true, false, some b, false⟩) ∧
     (clear → reads ⟨some (-((12 * pitch + pitch / 2 : Nat) : Int)), false, true, none, false⟩) ∧
     (¬clear → (∀ k, k ≤ 24 → ¬run k) → (∀ k b, k ≤ 24 → ¬bridged k b) → reads ⟨none, false, false, none, true⟩)) ∧
  ((∀ (s : State) (f : Face) (m : Measure) (j : DoorIx), j ∈ (s.alignment f m).map →
      s.isFitted f j = true ∧ s.sectionActive f j = true ∧ s.isolated f j = false
      ∧ (s.door f j).state ≠ some .fault ∧ (s.door f j).state ≠ some .released
      ∧ ∃ h c e, m.head = some h ∧ (s.berth f).consist = some c ∧ e ∈ c.flat
          ∧ ((e.d : Int) - h - ((s.geo f).doors[j]).centre).natAbs ≤ (s.geo f).tolerance) ∧
   (∀ (s : State) (f : Face) (h : Int) (flat : List FlatEntry),
      let a := s.matchNow f h flat
      let n := flat.length
      a.candidates ≤ n
      ∧ (a.grade = some .full ↔ a.candidates = n)
      ∧ (a.grade = some .partial_ ↔ a.candidates < n ∧ 1 ≤ a.candidates ∧ n - a.candidates ≤ (s.par f).partialLimit)
      ∧ (a.grade = some .misaligned ↔ a.candidates < n ∧ ¬(1 ≤ a.candidates ∧ n - a.candidates ≤ (s.par f).partialLimit))
      ∧ (a.grade = some .misaligned → a.map = [])
      ∧ (a.grade ≠ some .misaligned → a.map.length = a.candidates))) ∧
  (∀ (s : State) (f : Face) (m : Measure),
     let grades (g : Grade) : Prop := s.alignment f m = ⟨some g, none, 0, []⟩
     let outside := m.beyond = true ∨ m.short = true
     (m.head = none → grades .measureInvalid) ∧
     (m.head ≠ none → outside → grades .outOfWindow) ∧
     (m.head ≠ none → ¬outside → (s.berth f).consist = none → grades .noConsist) ∧
     (∀ h c, m.head = some h → ¬outside → (s.berth f).consist = some c → s.alignment f m = s.matchNow f h c.flat))

/-! ### Lines: keyswitch and EOI -/

/-- R115, R127 to R130: a keyswitch change from AUTO: the face is in LOCAL with the mode it left saved, the generation one
higher, the posted open discarded and, from MAINTENANCE, possession lost. A change between LOCAL-OPEN and LOCAL-CLOSE leaves
the mode and the generation. At LOCAL-CLOSE every fitted door unit is given a CLOSE, unless the latch is set; at LOCAL-OPEN
every one of an active section that is not isolated is given an OPEN, unless the berth is EMPTY; R16 to R19 decide them. A
change into AUTO returns the face to its saved mode, which is then absent, with the generation one higher; entering
MAINTENANCE clears release and discards the posted open; no door unit is asked anything, and a halted program stays halted. -/
def Obligations.KeyswitchMovesTheFaceToLocalAndBack : Prop :=
  -- the requests of R129 at a position entered
  let asks (f : Face) (pos : KeyPos) (s t : State) : Prop :=
    let quiet : Prop := ∀ k, t.unit f k = s.unit f k ∧ ∀ g, t.group f g = s.group f g
    (pos = .localClose → (s.face f).mode.latch = true → quiet) ∧
    (pos = .localClose → (s.face f).mode.latch = false → s.startQueueLaw f → s.closesEach f (fun _ => True) t) ∧
    (pos = .localOpen → (s.berth f).state = .empty → quiet) ∧
    (pos = .localOpen → (s.berth f).state ≠ .empty → s.startQueueLaw f →
      s.opensEach f .normal (fun j => s.sectionActive f j = true) (fun _ => True) t)
  (∀ (f : Face) (pos : KeyPos) (s : State), s.calm f = true → (s.face f).mode.keyRead = true →
     (s.face f).mode.key = .auto → pos ≠ .auto →
     let m := (s.face f).mode
     ∃ t, exec (.keyswitchChange f pos) s = .next t
       ∧ (t.face f).mode = { m with
           key := pos, saved := some m.mode, mode := .local_, generation := m.generation + 1
           possession := m.possession && m.mode ≠ .maintenance }
       ∧ (t.berth f).posted = none ∧ (t.berth f).state = (s.berth f).state ∧ (t.berth f).release = (s.berth f).release
       ∧ (t.face f).align = (s.face f).align ∧ (t.face f).beams = (s.face f).beams ∧ t.outside f = s.outside f
       ∧ asks f pos s t) ∧
  (∀ (f : Face) (pos : KeyPos) (s : State), s.calm f = true → (s.face f).mode.keyRead = true →
     (s.face f).mode.key ≠ .auto → pos ≠ .auto → pos ≠ (s.face f).mode.key → (s.face f).mode.mode = .local_ →
     ∃ t, exec (.keyswitchChange f pos) s = .next t
       ∧ (t.face f).mode = { (s.face f).mode with key := pos }
       ∧ t.berth f = s.berth f ∧ (t.face f).align = (s.face f).align ∧ (t.face f).beams = (s.face f).beams
       ∧ (t.face f).engine = (s.face f).engine ∧ t.outside f = s.outside f ∧ asks f pos s t) ∧
  (∀ (f : Face) (b : Mode) (s : State), s.calm f = true → (s.face f).mode.key ≠ .auto → (s.face f).mode.saved = some b →
     let m := (s.face f).mode
     ∃ t, exec (.keyswitchChange f .auto) s = .next t
       ∧ (t.face f).mode = { m with
           key := .auto, keyRead := true, saved := none, mode := b, generation := m.generation + 1 }
       ∧ (b = .maintenance → (t.berth f).release = false ∧ (t.berth f).posted = none)
       ∧ (b ≠ .maintenance → t.berth f = s.berth f)
       ∧ (t.berth f).state = (s.berth f).state ∧ (t.face f).align = (s.face f).align
       ∧ (t.face f).engine = (s.face f).engine
       ∧ t.outside f = s.outside f ∧ ∀ k, t.unit f k = s.unit f k ∧ ∀ g, t.group f g = s.group f g)

/-- R18, R119, R132, R133: EOI going active while the emergency latch is clear sets it: CLP of the face is withheld with the
cause EMERGENCY, and EMERGENCY OPEN is given to every fitted door unit that is not isolated, and in an active section or in
a state other than LOCKED. LOCKED and LOCKING ones start toward open, those on their way have pending close cleared and the
class raised, CLOSE_WAIT, RECLOSE_HOLD and OBSTRUCTED ones are OPEN, CLOSING ones reverse, and RELEASED and FAULT ones stay;
then no door unit is in CLOSE_WAIT, CLOSING, RECLOSE_HOLD or LOCKING. EOI going inactive leaves the latch. -/
def Obligations.EoiSetsTheEmergencyLatch : Prop :=
  ∀ (f : Face) (s : State), s.calm f = true →
    ((s.face f).mode.eoi = false → (s.face f).mode.latch = false → s.scanDone = true →
      ∃ t, exec (.eoiChange f true) s = .next t
        ∧ (t.face f).mode = { (s.face f).mode with eoi := true, latch := true }
        ∧ (t.face f).clp.value = false ∧ (t.face f).clp.emergency = true
        ∧ t.berth f = s.berth f ∧ (t.face f).align = (s.face f).align ∧ t.outside f = s.outside f
        ∧ (s.startQueueLaw f → s.emergencyOpens f t ∧ t.emergencyLaw f)) ∧
    ((s.face f).mode.eoi = true → (s.face f).mode.latch = true →
      ∃ t, exec (.eoiChange f false) s = .next t ∧ (t.face f).mode = { (s.face f).mode with eoi := false }
        ∧ t.outside f = s.outside f ∧ t.berth f = s.berth f
        ∧ ∀ k, t.unit f k = s.unit f k ∧ ∀ g, t.group f g = s.group f g)

/-! ### Links -/

/-- R116 to R118: when the silence timer of IL expires IL_LOST is set and each face is withdrawn: release cleared and the
posted open discarded. R116: in AUTOMATIC and SUPERVISED without the emergency latch the withdrawal gives every fitted door
unit a CLOSE, which R16 and R117 decide; elsewhere no door unit is asked anything. What it does to a running program is in
HaltingCausesHaltTheEngine. -/
def Obligations.SilenceLosesTheInterlocking : Prop :=
  ∀ (s : State) (m : Timer), (∀ f, s.calm f = true) → s.silence = some m → m.due s.msClock = true →
    ∃ t, exec .ilSilenceTimerExpiry s = .next t ∧ t.ilLost = true ∧ t.silence = none
      ∧ (∀ f, (t.berth f).release = false ∧ (t.berth f).posted = none ∧ (t.berth f).state = (s.berth f).state
          ∧ (t.face f).align = (s.face f).align ∧ (t.face f).mode = (s.face f).mode
          ∧ ((s.face f).mode.mode = .local_ ∨ (s.face f).mode.mode = .maintenance ∨ (s.face f).mode.latch = true →
              ∀ k, t.unit f k = s.unit f k ∧ ∀ g, t.group f g = s.group f g)
          ∧ (((s.face f).mode.mode = .automatic ∨ (s.face f).mode.mode = .supervised) → (s.face f).mode.latch = false →
              s.startQueueLaw f → s.closesEach f (fun _ => True) t))
      ∧ (t.config, t.msClock, t.usClock, t.pending, t.commit, t.nv, t.maint)
          = (s.config, s.msClock, s.usClock, s.pending, s.commit, s.nv, s.maint)
      ∧ ∀ l, (t.link l).rxSide = (s.link l).rxSide

/-- R118, R154, R155, R162: a valid frame leaves the receiver hunting and joins the receive queue of its link, which holds
four; at a full queue it is dropped and the link overrun flag is set. On IL it starts the silence timer again, and the first
one after a loss clears IL_LOST. A frame under collection that is abandoned leaves the receiver hunting, and nothing else
changes; the byte that ends a gap is itself the start of a frame when it is 0xC3. The commands stand for whole frames (log
29). R154: a byte taken while hunting begins a frame when it is 0xC3 and is dropped otherwise; a frame under collection
whose next byte comes after more than 3 ms is given up, and that byte is taken as one while hunting. Within 3 ms the byte is
collected: a LEN above 248 and a complete frame whose CRC does not match leave the receiver hunting, and a complete frame
whose CRC matches is taken as the valid frame. That a byte without its stop bit while hunting changes nothing is log 55. -/
def Obligations.ReceiversTakeFramesAndBytes : Prop :=
  (∀ (l : Link) (x : Frame) (s : State), s.powered = true → s.notices = [] → x.payload.length ≤ 248 →
     (l = .il → s.ilLost = false) →
     let u : State := match l with
       | .sl => s
       | .il => { s with silence := some ⟨s.msClock, s.config.ilSilenceLimit⟩ }
     ((s.link l).rxQueue.length < 4 → exec (.validFrameReceived l x) s =
       .next (u.mapLink l (fun k => { k with receiver := .hunting, rxQueue := k.rxQueue ++ [x] }))) ∧
     (4 ≤ (s.link l).rxQueue.length → exec (.validFrameReceived l x) s =
       .next (u.mapLink l (fun k => { k with receiver := .hunting, linkOverrun := true })))) ∧
  (∀ (x : Frame) (s : State), s.powered = true → s.notices = [] → x.payload.length ≤ 248 → s.ilLost = true →
     ∃ t, exec (.validFrameReceived .il x) s = .next t ∧ t.ilLost = false
       ∧ t.silence = some ⟨s.msClock, s.config.ilSilenceLimit⟩ ∧ (∀ f, t.face f = s.face f)
       ∧ (t.config, t.msClock, t.pending) = (s.config, s.msClock, s.pending)) ∧
  (∀ (l : Link) (c : AbandonCause) (s : State), s.powered = true → s.notices = [] →
     ((s.link l).receiver = .hunting → exec (.frameAbandoned l c) s = .next s) ∧
     (∀ got last, (s.link l).receiver = .collecting got last →
       (c ≠ .byteGap 0xC3#8 →
         exec (.frameAbandoned l c) s = .next (s.mapLink l (fun k => { k with receiver := .hunting }))) ∧
       (c = .byteGap 0xC3#8 →
         exec (.frameAbandoned l c) s = .next (s.mapLink l (fun k => { k with receiver := .collecting [] s.msClock }))))) ∧
  (∀ (l : Link) (b : Byte) (s : State), s.powered = true → s.notices = [] →
     let becomes (r : Receiver) : Prop :=
       exec (.byteReceived l b) s = .next (s.mapLink l (fun k => { k with receiver := r }))
     let hunts : Prop := becomes (if b = 0xC3#8 then .collecting [] s.msClock else .hunting)
     ((s.link l).receiver = .hunting → hunts) ∧
     (∀ got last, (s.link l).receiver = .collecting got last →
       let bs := got ++ [b]
       let len := byteAt bs 0
       (3 < (s.msClock - last).toNat → hunts) ∧
       ((s.msClock - last).toNat ≤ 3 → 248 < len → becomes .hunting) ∧
       ((s.msClock - last).toNat ≤ 3 → len ≤ 248 → bs.length < len + 5 → becomes (.collecting bs s.msClock)) ∧
       (∀ x : Frame, (s.msClock - last).toNat ≤ 3 → x.payload.length = len → len ≤ 248 →
         (bs = frameBody x ++ crcBytes (crc16 (frameBody x)) →
           exec (.byteReceived l b) s = exec (.validFrameReceived l x) s) ∧
         (∀ c : List Byte, c.length = 2 → bs = frameBody x ++ c → c ≠ crcBytes (crc16 (frameBody x)) →
           becomes .hunting))))

/-- R153, R154: the bytes of a frame, sent without a gap to a hunting receiver, do what the valid frame does, whatever its
KIND, TAG and payload. -/
def Obligations.FrameBytesAreReceivedAsTheFrame : Prop :=
  ∀ (l : Link) (x : Frame) (s t : State), s.powered = true → s.notices = [] →
    s.pending = (frameBytes x).map (.byteReceived l) → x.payload.length ≤ 248 → (s.link l).receiver = .hunting →
    exec (.validFrameReceived l x) { s with pending := [] } = .next t →
    Host.Core.run Sys2Proof.core (frameBytes x).length s = .next t

/-- R126, R155, R158, R166, R168, R170: every frame taken from a receive queue is exactly one row of the table, which keeps
its link, KIND, TAG and payload whole. A KIND of 0x80 or above is no request, a KIND below that is unknown exactly when it
names no request, and any other KIND has one row, which for GET STATUS the scope and for DOOR COMMAND the action chooses. A
scope or an action that names none goes to the first of its rows, which refuses it (log 31). -/
def Obligations.EveryFrameIsOneRow : Prop :=
  ∀ (l : Link) (x : Frame),
    let k := x.kind.toNat
    let row := Instr.ofFrame l x
    let request := 0x01 ≤ k ∧ k ≤ 0x09 ∨ 0x10 ≤ k ∧ k ≤ 0x1A ∨ 0x20 ≤ k ∧ k ≤ 0x26 ∨ 0x30 ≤ k ∧ k ≤ 0x39
      ∨ 0x40 ≤ k ∧ k ≤ 0x46 ∨ k = 0x48 ∨ k = 0x49
    row.frame? = some (l, x) ∧
    (0x80 ≤ k ↔ row = .nonRequestFrame l x.kind x.tag x.payload) ∧
    (k < 0x80 ∧ ¬request ↔ row = .unknownKind l x.kind x.tag x.payload) ∧
    (request → k ≠ 0x09 → k ≠ 0x31 → ∀ c : Instr, c.frame? = some (l, x) →
      c ≠ .unknownKind l x.kind x.tag x.payload → c ≠ .nonRequestFrame l x.kind x.tag x.payload → c = row) ∧
    (k = 0x09 →
      (x.payload.head? = some 1#8 → row = .getStatusDoorUnit l x.tag x.payload) ∧
      (x.payload.head? = some 2#8 → row = .getStatusBerth l x.tag x.payload) ∧
      (x.payload.head? ≠ some 1#8 → x.payload.head? ≠ some 2#8 → row = .getStatusFace l x.tag x.payload)) ∧
    (k = 0x31 → row = if x.payload[1]? = some 1#8 then .doorCommandClose l x.tag x.payload
      else .doorCommandOpen l x.tag x.payload)

/-- R156, R161: when the transmitter becomes free a waiting reply is sent at once, before any REPORT frame; with none
waiting, a REPORT frame that is due is sent with up to eight records, oldest first, and else the transmitter stays
free. When the flush timer expires with records held, the transmitter free and no reply waiting, a REPORT frame is
sent; with the transmitter busy the flush count is set to the records held. Where records remain after a REPORT frame the
flush timer starts again, and with the flush time OFF it is stopped, which is log 21. The time that sending takes is that of
log 22. -/
def Obligations.TransmittersSendRepliesAndReports : Prop :=
  (∀ (l : Link) (s : State) (x : Sending), s.powered = true → s.notices = [] → (s.link l).tx = some x →
     (∀ y, (s.link l).waiting = some y → exec (.transmitComplete l) s = .next (s.mapLink l (fun k => { k with
       waiting := none, tx := some ⟨y, true, s.usClock, s.frameTime l y⟩ }))) ∧
     ((s.link l).waiting = none → s.reportDue l = false →
       exec (.transmitComplete l) s = .next (s.mapLink l (fun k => { k with tx := none }))) ∧
     ((s.link l).waiting = none → s.reportDue l = true →
       let y := reportFrame (s.link l).seq ((s.link l).reports.take 8)
       exec (.transmitComplete l) s = .next (s.mapLink l (fun k => { k with
         tx := some ⟨y, false, s.usClock, s.frameTime l y⟩
         reports := k.reports.drop 8, flushCount := k.flushCount - min 8 k.reports.length, seq := k.seq + 1
         flushTimer := if (k.reports.drop 8).isEmpty then none else s.flushStart l })))) ∧
  (∀ (l : Link) (s : State) (m : Timer), s.powered = true → s.notices = [] → (s.link l).flushTimer = some m →
     m.due s.msClock = true → (s.link l).reports ≠ [] →
     ((s.link l).tx = none → (s.link l).waiting = none →
       let y := reportFrame (s.link l).seq ((s.link l).reports.take 8)
       exec (.flushTimerExpiry l) s = .next (s.mapLink l (fun k => { k with
         tx := some ⟨y, false, s.usClock, s.frameTime l y⟩
         reports := k.reports.drop 8, flushCount := k.reports.length - min 8 k.reports.length, seq := k.seq + 1
         flushTimer := if (k.reports.drop 8).isEmpty then none else s.flushStart l }))) ∧
     ((s.link l).tx.isSome = true → exec (.flushTimerExpiry l) s = .next (s.mapLink l (fun k => { k with
         flushTimer := none, flushCount := k.reports.length }))))

/-- R160, R161: a report of a class in the class mask of a link joins the tail of its Report Queue while it holds fewer
than 64 records, and else sets the report overrun flag; a class outside the mask changes nothing on that link. A report of
any kind but LINK_STATE is offered to both links, and LINK_STATE to SL alone. Here the transmitter is busy, so that no frame is
formed. -/
def Obligations.ReportsJoinTheQueueOfEachLink : Prop :=
  ∀ (s : State) (l : Link), (s.link l).tx.isSome = true →
    let q := s.link l
    let joins (c : ReportClass) (r : Record) (t : State) : Prop :=
      ((s.reporting l).classMask.getLsbD c.bit = false → t.link l = q) ∧
      ((s.reporting l).classMask.getLsbD c.bit = true → q.reports.length < 64 →
        t.link l = { q with
          reports := q.reports ++ [r]
          flushTimer := if q.reports = [] then s.flushStart l else q.flushTimer
          flushCount := if c = .safety then q.reports.length + 1 else q.flushCount }) ∧
      ((s.reporting l).classMask.getLsbD c.bit = true → 64 ≤ q.reports.length →
        t.link l = { q with reportOverrun := true })
    (∀ (c : ReportClass) (k : ReportKind) (f : Face) (o : Option Nat) (d : List Byte), k ≠ .linkState →
      let t := s.report c k f o d
      joins c ⟨k, f, o, s.msClock, d⟩ t ∧ (∀ g, t.face g = s.face g) ∧ t.config = s.config) ∧
    (∀ code : Byte,
      let t := s.reportLinkState code
      (l = .sl → joins .system ⟨.linkState, .f0, none, s.msClock, code :: be16 s.config.ilSilenceLimit⟩ t)
      ∧ (l = .il → t.link l = q) ∧ (∀ g, t.face g = s.face g) ∧ t.config = s.config)

/-! ### Dwell programs -/

/-- R145 to R147, R151: the limit timer sets TIMEOUT; with halt_on_error ON the engine halts where it stands, and
with it OFF it enters HOLDING. A hold that is over ends the program, or goes on to the next descriptor of the chain, which
is waited at, or halts the engine with EMPTY_DESCRIPTOR when it is empty. The error context is written once. R140, R149, R150:
the program commands that issue no action: START at a descriptor whose trigger is not met puts the engine in WAITING; HALT
halts a running engine; RESUME goes on in the phase WAIT, with the trigger not met, or HOLD; CLEAR empties the errors; ARM and
DISARM keep the armed index. Nothing of the face but the engine changes. The phase that stays after an end is log 44, and the
emptied followed set and stopped limit timer in HOLDING are log 28. -/
def Obligations.EngineTimersMoveTheProgram : Prop :=
  ∀ (f : Face) (s : State), s.powered = true → s.notices = [] →
    let e := (s.face f).engine
    let stopped : Engine := { e with limitTimer := none, holdTimer := none, followed := [], awaiting := false }
    (∀ m : Timer, m.due s.msClock = true → e.limitTimer = some m →
      let flagged : Engine := { stopped with
        errors := e.errors ||| 0x20#16
        context := if e.context.isSome then e.context else e.current.map (fun i => (i, e.phase)) }
      ((s.par f).haltOnError = true → ∃ t, exec (.limitTimerExpiry f) s = .next t
        ∧ t.face f = { s.face f with engine := { flagged with state := .halted } } ∧ t.outside f = s.outside f) ∧
      (∀ d, (s.par f).haltOnError = false → s.currentDescriptor f = some d → d.hold ≠ 0 → e.state ≠ .halted →
        ∃ t, exec (.limitTimerExpiry f) s = .next t
          ∧ t.face f = { s.face f with engine := { flagged with
              state := .holding, phase := .hold, holdTimer := some ⟨s.msClock, d.hold⟩ } }
          ∧ t.outside f = s.outside f)) ∧
    (∀ (m : Timer) d, m.due s.msClock = true → e.holdTimer = some m → s.currentDescriptor f = some d →
      (d.chain = false → ∃ t, exec (.holdTimerExpiry f) s = .next t
        ∧ t.face f = { s.face f with engine := { stopped with state := .idle, current := none, ended := true } }
        ∧ t.outside f = s.outside f) ∧
      (∀ d', d.chain = true → s.descriptor d.next = some d' → s.triggerMet f d'.trigger = false →
        ∃ t, exec (.holdTimerExpiry f) s = .next t
          ∧ t.face f = { s.face f with engine := { stopped with
              state := .waiting, phase := .wait, current := some d.next
              limitTimer := if d'.limit = 0 then none else some ⟨s.msClock, d'.limit⟩ } }
          ∧ t.outside f = s.outside f) ∧
      (d.chain = true → s.descriptor d.next = none → ∃ t, exec (.holdTimerExpiry f) s = .next t
        ∧ t.face f = { s.face f with engine := { stopped with
            state := .halted, phase := .wait, current := some d.next, errors := e.errors ||| 0x40#16
            context := if e.context.isSome then e.context else some (d.next, .wait) } }
        ∧ t.outside f = s.outside f)) ∧
    (∀ g : Byte,
      let p := [faceCode f]
      let limit (d : Descriptor) : Option Timer := if d.limit = 0 then none else some ⟨s.msClock, d.limit⟩
      let becomes (c : Instr) (y : Frame) (e' : Engine) : Prop :=
        s.ready .sl y = true → ∃ u : State, exec c s = .next (u.replied .sl y .accept [])
          ∧ u.face f = { s.face f with engine := e' } ∧ u.outside f = (s.popFrame .sl).outside f
      (∀ (i : Fin 96) (d : Descriptor), (s.face f).mode.mode = .automatic → e.running = false →
        s.descriptor i = some d → s.triggerMet f d.trigger = false →
        becomes (.startProgram .sl g [faceCode f, b8 i.val]) ⟨0x40#8, g, [faceCode f, b8 i.val]⟩ { stopped with
          state := .waiting, phase := .wait, current := some i, errors := 0, context := none, ended := false
          limitTimer := limit d }) ∧
      becomes (.haltProgram .sl g p) ⟨0x41#8, g, p⟩ (if e.running then { stopped with state := .halted } else e) ∧
      (∀ d, (s.face f).mode.mode = .automatic → e.state = .halted → s.currentDescriptor f = some d →
        (e.phase = .hold → d.hold ≠ 0 → becomes (.resumeProgram .sl g p) ⟨0x42#8, g, p⟩ { stopped with
          state := .holding, phase := .hold, holdTimer := some ⟨s.msClock, d.hold⟩ }) ∧
        (e.phase = .wait → s.triggerMet f d.trigger = false →
          becomes (.resumeProgram .sl g p) ⟨0x42#8, g, p⟩ { stopped with
            state := .waiting, phase := .wait, limitTimer := limit d })) ∧
      becomes (.clearProgramErrors .sl g p) ⟨0x44#8, g, p⟩ { e with errors := 0, context := none } ∧
      (∀ i : Fin 96, (s.descriptor i).isSome = true →
        becomes (.armProgram .sl g [faceCode f, b8 i.val]) ⟨0x45#8, g, [faceCode f, b8 i.val]⟩ { e with armed := some i }) ∧
      becomes (.disarmProgram .sl g p) ⟨0x46#8, g, p⟩ { e with armed := none })

/-- R140 to R147, R149: the program commands that issue an action, each accepted: START and RESUME in the phase WAIT at a
descriptor whose trigger is met, RESUME in the phase ACT, and STEP. WAIT, MARK and a CHECK that passes lead to HOLDING, and a
CHECK that fails sets CHECK_FAILED. CLOSE and an OPEN that is issued follow the door units they reach, each settled at its
target and pending elsewhere, with DOOR_FAULT or REFUSED for a door unit that refuses, the results after all the requests
(log 11); a door unit with no state refuses first (log 27); the followed set is empty in HOLDING (log 28). An OPEN that is
posted awaits its issue, and one that finds nothing leads to HOLDING. Of the face only the engine changes, the posted open,
and what door units do with the requests made to them. The premise is the law of the Start Queues
(StepsKeepTheStartQueueLaw, R30). -/
def Obligations.ProgramCommandsMoveTheEngine : Prop :=
  ∀ (f : Face) (g : Byte) (s : State), s.startQueueLaw f →
    let e := (s.face f).engine
    let p := [faceCode f]
    let limit (d : Descriptor) : Option Timer := if d.limit = 0 then none else some ⟨s.msClock, d.limit⟩
    let acts (c : Instr) (y : Frame) (x : Engine) (d : Descriptor) : Prop :=
      ∃ u : State, exec c s = .next (u.replied .sl y .accept []) ∧ s.actionIssued f d x u
        ∧ u.outside f = (s.popFrame .sl).outside f
    (∀ (i : Fin 96) (d : Descriptor), s.ready .sl ⟨0x40#8, g, [faceCode f, b8 i.val]⟩ = true →
      (s.face f).mode.mode = .automatic → e.running = false → s.descriptor i = some d → s.triggerMet f d.trigger = true →
      acts (.startProgram .sl g [faceCode f, b8 i.val]) ⟨0x40#8, g, [faceCode f, b8 i.val]⟩ { e.rested with
        state := .waiting, phase := .wait, current := some i, errors := 0, context := none, ended := false
        limitTimer := limit d } d) ∧
    (∀ d, s.ready .sl ⟨0x42#8, g, p⟩ = true → (s.face f).mode.mode = .automatic → e.state = .halted →
      s.currentDescriptor f = some d →
      (e.phase = .act → acts (.resumeProgram .sl g p) ⟨0x42#8, g, p⟩ { e with limitTimer := limit d } d) ∧
      (e.phase = .wait → s.triggerMet f d.trigger = true →
        acts (.resumeProgram .sl g p) ⟨0x42#8, g, p⟩ { e.rested with limitTimer := limit d } d)) ∧
    (∀ d, s.ready .sl ⟨0x43#8, g, p⟩ = true → e.state = .waiting → s.currentDescriptor f = some d →
      acts (.stepProgram .sl g p) ⟨0x43#8, g, p⟩ e d)

/-- R87, R88, R116, R118, R125, R128, R132, R147, R148: the causes that halt a running program whatever halt_on_error says:
the emergency latch set by EOI or EVACUATE (EMERGENCY, 0x80), a withdrawal by RELEASE WITHDRAW or silence of IL
(RELEASE_WITHDRAWN, 0x100), movement into MOVED_FAULT (MOVED, 0x200), and AUTOMATIC left by SET MODE or the keyswitch
(MODE_CHANGED, 0x400). In WAITING, ACTING and HOLDING the engine is HALTED with the flag set, the context written where it
is absent, timers stopped and the followed set empty; in IDLE and HALTED it stays. An engine awaiting a posted open that the
withdrawal or the movement discards first sets POSTED_DISCARDED (0x10), and halts with it alone where halt_on_error is ON.
All else the event does is what it does with a program already halted so; that R88 discards before it halts is log 37. -/
def Obligations.HaltingCausesHaltTheEngine : Prop :=
  ∀ (f : Face) (s : State),
    let e := (s.face f).engine
    let b := s.berth f
    let m := (s.face f).mode
    let awaited := e.state = .acting ∧ e.awaiting = true ∧ ∃ p, b.posted = some p ∧ p.fromProgram = true
    let halted (mask : BitVec 16) : Engine := if e.running then e.haltedBy mask else e
    let discarded (mask : BitVec 16) : Engine :=
      if awaited then
        if (s.par f).haltOnError then e.haltedBy 0x10 else ({ e.marked 0x10 e.phase with phase := .hold } : Engine).haltedBy mask
      else halted mask
    let with_ (x : Engine) : State := s.mapEngine f (fun _ => x)
    let event (c : Instr) (x : Engine) : Prop := ∃ t u : State, exec c s = .next t ∧ exec c (with_ x) = .next u
      ∧ (t.face f).engine = x ∧ t.face f = u.face f ∧ t.outside f = u.outside f
    let request (c : Instr) (l : Link) (y : Frame) (body : List Byte) (x : Engine) : Prop := s.ready l y = true →
      ∃ t u : State, exec c s = .next (t.replied l y .accept body) ∧ exec c (with_ x) = .next (u.replied l y .accept body)
        ∧ (t.face f).engine = x ∧ t.face f = u.face f ∧ t.outside f = u.outside f
    s.powered = true → s.notices = [] →
    (m.eoi = false → m.latch = false → event (.eoiChange f true) (halted 0x80)) ∧
    (∀ g, m.latch = false → request (.evacuate .sl g [faceCode f]) .sl ⟨0x38#8, g, [faceCode f]⟩ [] (halted 0x80)) ∧
    (∀ g, request (.releaseWithdraw .il g [faceCode f]) .il ⟨0x03#8, g, [faceCode f]⟩ [] (discarded 0x100)) ∧
    (∀ r, s.silence = some r → r.due s.msClock = true → event .ilSilenceTimerExpiry (discarded 0x100)) ∧
    (∀ (i : Fin 25) (v : Bool) (a : Us), (s.beams f).sw[i] ≠ v → b.state = .stopped →
      b.release = true ∨ s.allLocked f = false → event (.swBeamChange f i v a) (discarded 0x200)) ∧
    (∀ pos, m.keyRead = true → m.key = .auto → pos ≠ .auto → m.mode = .automatic →
      event (.keyswitchChange f pos) (halted 0x400)) ∧
    (∀ (g : Byte) (new : Mode), m.key = .auto → m.mode = .automatic → new = .supervised ∨ new = .maintenance ∧ b.state = .empty →
      let y : Frame := ⟨0x30#8, g, [faceCode f, Mode.automatic.code, m.generation, new.code]⟩
      request (.setMode .sl g y.payload) .sl y [new.code, m.generation + 1] (halted 0x400))

/-- R92, R110, R112, R139, R141: a program in WAITING is told of the changes of its face. Where the event meets the trigger,
that is the berth reaching STOPPED for ON_STOPPED, the quiet timer for ON_QUIET, a door unit that locks or a gap zone that
clears for ON_CLP, or release given for ON_RELEASE, the action is issued in the state that the event leaves; where it does
not, the engine waits on. All else the event does is what it does with a program that does not run. A release given while a
program runs opens nothing by itself. In the action issued the results come after all its requests (log 11), a door unit
with no state refuses first (log 27), and the followed set is empty in HOLDING (log 28). The premises are the law of the
Start Queues (R30), and no posted open held at the stop. -/
def Obligations.WaitingProgramSeesItsTrigger : Prop :=
  ∀ (f : Face) (d : Descriptor) (s : State), s.powered = true → s.notices = [] → s.startQueueLaw f →
    let e := (s.face f).engine
    let idle : State := s.mapEngine f (fun x => { x with state := .halted })
    let goesOn (w t : State) : Prop :=
      let u := w.mapEngine f (fun _ => e)
      (u.triggerMet f d.trigger = false → t.face f = u.face f) ∧
      (u.triggerMet f d.trigger = true → u.actionIssued f d e t)
    e.state = .waiting → s.currentDescriptor f = some d → s.triggerMet f d.trigger = false →
    (∀ c : Instr,
      (c = .quietTimerExpiry f ∧ (∃ m, (s.face f).quietTimer = some m ∧ m.due s.msClock = true)) ∨
      (c = .settleTimerExpiry f ∧ (s.berth f).posted = none
        ∧ ∃ m, (s.berth f).settleTimer = some m ∧ m.due s.msClock = true) ∨
      (∃ j v, c = .doorInputChange f j v) ∨
      (∃ j m, c = .clearingTimerExpiry f j ∧ (s.sense f j).clearing = some m ∧ m.due s.msClock = true) →
      ∃ w t : State, exec c idle = .next w ∧ exec c s = .next t ∧ t.outside f = w.outside f ∧ goesOn w t) ∧
    (∀ g : Byte, s.ready .il ⟨0x02#8, g, [faceCode f]⟩ = true → (s.face f).mode.mode = .automatic →
      (s.berth f).state = .arriving ∨ (s.berth f).state = .settling ∨ (s.berth f).state = .stopped →
      (s.berth f).release = false →
      let w := (s.popFrame .il).mapBerth f (fun b => { b with release := true })
      ∃ t, exec (.doorRelease .il g [faceCode f]) s = .next (t.replied .il ⟨0x02#8, g, [faceCode f]⟩ .accept [])
        ∧ t.outside f = w.outside f ∧ goesOn w t)

/-- R114, R115, R139, R143, R144, R146, R147: a program in ACTING is told of the door units it follows and of the posted
open it awaits. A pending door unit that reaches the target of the action is settled, one that enters FAULT or RELEASED is
settled with DOOR_FAULT (1), and one that enters OBSTRUCTED with OBSTRUCTED (2); any other change leaves it pending. With
none pending the action is complete. At the issue of the posted open the engine follows the door units that its own
selection names, with the errors of those that refuse, and a discard sets POSTED_DISCARDED (0x10) and completes the action.
With halt_on_error ON an error halts the engine. All else is what the event does with a program that does not run. A
completed action goes on to HOLDING, here with a hold above 0, with the followed set empty (log 28). The results at an issue
come after all its requests (log 11), and a door unit with no state refuses first (log 27). The premises are an engine as
ACTING leaves it, a door unit that is not RELEASED before the event, and the law of the Start Queues (R30). -/
def Obligations.ActingProgramFollowsItsDoors : Prop :=
  ∀ (f : Face) (d : Descriptor) (s : State), s.powered = true → s.notices = [] → s.startQueueLaw f →
    let e := (s.face f).engine
    let halts := (s.par f).haltOnError
    let idle : State := s.mapEngine f (fun x => { x with state := .halted })
    let tells (c : Instr) (engine : State → Engine) : Prop := ∃ w t : State, exec c idle = .next w ∧ exec c s = .next t
      ∧ t.outside f = w.outside f ∧ t.face f = { w.face f with engine := engine w }
    let complete (x : Engine) : Engine := x.holdsFor s.msClock d.hold
    let failed (m : BitVec 16) (x : Engine) (on : Engine → Engine) : Engine :=
      if halts then x.haltedBy m else on (x.marked m .act)
    e.state = .acting → e.phase = .act → s.currentDescriptor f = some d → d.hold ≠ 0 →
    (∀ (j : DoorIx) (c : Instr), e.awaiting = false → (s.door f j).state ≠ some .released →
      (∃ v, c = .doorInputChange f j v) ∨ (∃ m, c = .doorTimeoutExpiry f j ∧ (s.door f j).timer = some m
        ∧ m.due s.msClock = true) →
      let target : DoorState := if d.action = .close then .locked else .standOpen
      let settles (x : Engine) : Engine :=
        let followed := x.followed.map (fun y => if y.1 = j then (j, false) else y)
        if followed.any Prod.snd then { x with followed := followed } else complete x
      tells c (fun w =>
        let now := (w.door f j).state
        if (j, true) ∉ e.followed ∨ now = (s.door f j).state then e
        else if now = some target then settles e
        else if now = some .fault ∨ now = some .released then failed 1 e settles
        else if now = some .obstructed then failed 2 e settles
        else e)) ∧
    (∀ (m : Timer) (p : Posted), (s.berth f).posted = some p → (s.berth f).postingTimer = some m → m.due s.msClock = true →
      (e.awaiting = true → e.followed = [] → s.map f ≠ [] →
        let own := (s.selectMap f p.sections p.doorMask).filter (fun j => s.selectionNames f d.selection j)
        tells (.postingTimerExpiry f) (fun w => e.carried halts own (s.openError f) (s.entersFollowed f (s.openError f))
          (fun j => (w.door f j).state = some .standOpen) s.msClock d.hold)) ∧
      (e.awaiting = true → e.followed = [] → s.map f = [] → p.fromProgram = true →
        tells (.postingTimerExpiry f) (fun _ => failed 0x10 e complete)) ∧
      (e.awaiting = false → tells (.postingTimerExpiry f) (fun _ => e))) ∧
    (∀ (m : Timer) (p : Posted), (s.berth f).state = .settling → (s.berth f).settleTimer = some m → m.due s.msClock = true →
      (s.berth f).posted = some p → p.issueTime = none → p.fromProgram = true → e.awaiting = true → e.followed = [] →
      let g := (s.alignment f (s.measureNow f)).grade
      g = some .misaligned ∨ g = some .outOfWindow ∨ g = some .measureInvalid →
      tells (.settleTimerExpiry f) (fun _ => failed 0x10 e complete))

/-! ### Replies, reads and refusals -/

/-- R156, R157, R166: the reply to a taken frame has its KIND plus 0x80, its TAG, the result code, the status byte
and, on IL, both berth states, and then the payload; it is sent at once when the transmitter is free, and waits
otherwise. An accepted GET STATUS clears the overrun flags of its link after the reply is built. The time that sending
takes is that of log 22. -/
def Obligations.RepliesCarryResultAndStatus : Prop :=
  ∀ (l : Link) (x : Frame) (c : ResultCode) (body : List Byte) (s : State),
    let status : Byte := BitVec.ofNat 8 ((if s.f0.clp.value then 1 else 0) + (if s.f1.clp.value then 2 else 0)
      + (if s.ilLost then 4 else 0) + (if s.configInvalid then 8 else 0)
      + (if (s.link l).reportOverrun then 16 else 0) + (if (s.link l).linkOverrun then 32 else 0))
    let extra : List Byte := match l with
      | .sl => []
      | .il => [s.f0.berth.state.code, s.f1.berth.state.code]
    let y : Frame := ⟨x.kind + 0x80#8, x.tag, [c.code, status] ++ extra ++ body⟩
    let t := s.replied l x c body
    let cleared := x.kind = 0x09#8 ∧ c = .accept
    ((s.link l).tx = none → t.link l = { s.link l with
      tx := some ⟨y, true, s.usClock, s.frameTime l y⟩
      reportOverrun := if cleared then false else (s.link l).reportOverrun
      linkOverrun := if cleared then false else (s.link l).linkOverrun }) ∧
    ((s.link l).tx.isSome = true → t.link l = { s.link l with
      waiting := some y
      reportOverrun := if cleared then false else (s.link l).reportOverrun
      linkOverrun := if cleared then false else (s.link l).linkOverrun }) ∧
    (∀ k, k ≠ l → t.link k = s.link k) ∧ (∀ f, t.face f = s.face f) ∧ t.config = s.config ∧ t.pending = s.pending

/-- R45, R58, R77, R163, R168: a read is answered ACCEPT with the item as the working copy or the unit holds it, and
changes nothing but that its frame is taken and answered. An empty entry reads as log 19 says. The slots in which a profile
is read back are those of log 46, and the mask of a SERVED selection is read back as log 47 says. -/
def Obligations.ReadsAnswerWithTheItem : Prop :=
  ∀ (g : Byte) (s : State),
    let reads (c : Instr) (x : Frame) (body : List Byte) : Prop :=
      exec c s = .next ((s.popFrame .sl).replied .sl x .accept body)
    (∀ f : Face,
      let p := [faceCode f]
      (s.ready .sl ⟨0x20#8, g, p⟩ = true → reads (.readGeometry .sl g p) ⟨0x20#8, g, p⟩ (geometryBytes f (s.geo f))) ∧
      (s.ready .sl ⟨0x21#8, g, p⟩ = true → reads (.readParameters .sl g p) ⟨0x21#8, g, p⟩ (paramsBytes f (s.par f))) ∧
      (s.ready .sl ⟨0x25#8, g, p⟩ = true → reads (.readIsolation .sl g p) ⟨0x25#8, g, p⟩ (isolationBytes f (s.iso f))) ∧
      (s.ready .sl ⟨0x48#8, g, p⟩ = true → reads (.readCounts .sl g p) ⟨0x48#8, g, p⟩
        (be16 (s.face f).boarding ++ be16 (s.face f).alighting ++ [b8 (s.geo f).n]
          ++ (s.fitted f).flatMap (fun j => be16 (s.sense f j).boarding ++ be16 (s.sense f j).alighting))) ∧
      (∀ (i : Fin 64) (n : Nat), 1 ≤ n → n ≤ 8 → s.ready .sl ⟨0x49#8, g, [faceCode f, b8 i.val, b8 n]⟩ = true →
        reads (.readHistory .sl g [faceCode f, b8 i.val, b8 n]) ⟨0x49#8, g, [faceCode f, b8 i.val, b8 n]⟩
          (opt8 ((s.face f).newest.map (fun k => b8 k.val))
            :: (List.range n).flatMap (fun k => ringBytes ((s.face f).ring[i + Fin.ofNat 64 k]))))) ∧
    (s.ready .sl ⟨0x22#8, g, []⟩ = true → reads (.readDeviceParameters .sl g []) ⟨0x22#8, g, []⟩
      (be16 s.config.ilSilenceLimit ++ [s.config.speedSl.code, s.config.speedIl.code])) ∧
    (∀ i : Fin 24, s.ready .sl ⟨0x23#8, g, [b8 i.val]⟩ = true →
      reads (.readCarProfile .sl g [b8 i.val]) ⟨0x23#8, g, [b8 i.val]⟩ (carBytes i s.config.cars[i])) ∧
    (∀ i : Fin 16, s.ready .sl ⟨0x24#8, g, [b8 i.val]⟩ = true →
      reads (.readUnitProfile .sl g [b8 i.val]) ⟨0x24#8, g, [b8 i.val]⟩ (unitBytes i s.config.units[i])) ∧
    (∀ i : Fin 96, s.ready .sl ⟨0x26#8, g, [b8 i.val]⟩ = true →
      reads (.readDescriptor .sl g [b8 i.val]) ⟨0x26#8, g, [b8 i.val]⟩ (descriptorBytes i s.config.descriptors[i])) ∧
    (∀ l : Link, s.ready l ⟨0x08#8, g, [2#8]⟩ = true →
      exec (.identify l g [2#8]) s = .next ((s.popFrame l).replied l ⟨0x08#8, g, [2#8]⟩ .accept
        (be16 s.storedGen.toNat ++ be16 s.storedCrc.toNat
          ++ [flag s.configInvalid, flag s.config.geometryLock, s.resetCause.code])))

/-- R157, R170: GET STATUS of a face, of a fitted door unit and of a berth is answered on either link with the reply
that R170 gives, and changes nothing but that its frame is taken and answered and the overrun flags of its link are
cleared. R40, R61, R94, R109, R151, R165, R167: the fields of the three replies stand at the offsets that the order of R170
gives, each with its code, high byte first, absent as its marker, and times saturating at the largest value of their field.
Fields that the spec gives no value for, absent ones with nothing to carry, are those of log 16; the time remaining of a
stopped quiet, deferral or clearing timer, and the unit count and list length with no consist held, are 0 by log 38. The first
row index is the index asked for, also with no row carried, by log 52. -/
def Obligations.GetStatusAnswersAndClearsOverruns : Prop :=
  ∀ (l : Link) (f : Face) (g : Byte) (s : State),
    let x (scope : Byte) (n : Nat) : Frame := ⟨0x09#8, g, [scope, faceCode f, b8 n]⟩
    let u := s.popFrame l
    (∀ n, s.ready l (x 0 n) = true → exec (.getStatusFace l g (x 0 n).payload) s =
      .next (u.replied l (x 0 n) .accept (s.faceStatus f))) ∧
    (∀ j : DoorIx, s.isFitted f j = true → s.ready l (x 1 j.val) = true →
      exec (.getStatusDoorUnit l g (x 1 j.val).payload) s =
        .next (u.replied l (x 1 j.val) .accept (s.doorStatus f j))) ∧
    (∀ n, 1 ≤ n → n ≤ 48 → s.ready l (x 2 n) = true → exec (.getStatusBerth l g (x 2 n).payload) s =
      .next (u.replied l (x 2 n) .accept (s.berthStatus l f n))) ∧
    (∀ (body : List Byte) (n : Nat), ((u.replied l (x 0 n) .accept body).link l).linkOverrun = false
      ∧ ((u.replied l (x 0 n) .accept body).link l).reportOverrun = false) ∧
    let now := s.msClock
    let elapsed (r : Ms) : Nat := (now - r).toNat
    let flagged (b : Bool) : Nat := if b then 1 else 0
    let index {n : Nat} (o : Option (Fin n)) : Nat := (o.map Fin.val).getD 0xFF
    let signed (o : Option Int) : Nat := (o.map (fun z => (z % 65536).toNat)).getD 0x8000
    let word (o : Option (BitVec 32)) : Nat := (o.map BitVec.toNat).getD 0xFFFFFFFF
    let modes := [Mode.automatic, .supervised, .local_, .maintenance]
    let zones := [Zone.idle, .watch, .occupied, .clearing, .latched]
    let phases := [Phase.wait, .act, .hold]
    let F := s.faceStatus f
    let w := s.face f
    let e := w.engine
    (byteAt F 0 = codeIn modes w.mode.mode ∧ byteAt F 1 = w.mode.generation.toNat ∧ byteAt F 2 = codeIn modes w.mode.saved
      ∧ byteAt F 3 = codeIn [KeyPos.auto, .localOpen, .localClose] w.mode.key ∧ byteAt F 4 = flagged w.mode.possession
      ∧ byteAt F 5 = flagged w.mode.latch ∧ byteAt F 6 = flagged w.mode.eoi ∧ byteAt F 7 = flagged w.clp.value
      ∧ byteAt F 8 = bitsValue [w.clp.config, w.clp.door, w.clp.gap, w.clp.emergency, w.clp.moved]
      ∧ byteAt F 9 = w.clp.notLocked % 256 ∧ byteAt F 10 = w.clp.zones % 256 ∧ byteAt F 11 = codeIn berthStates w.berth.state
      ∧ byteAt F 12 = codeIn grades (w.align.grade.map some) ∧ byteAt F 13 = w.align.map.length % 256
      ∧ byteAt F 14 = flagged w.quiet ∧ intAt F 15 2 = min (remaining w.quietTimer now) 65535
      ∧ intAt F 17 2 = w.boarding % 65536 ∧ intAt F 19 2 = w.alighting % 65536 ∧ byteAt F 21 = index w.newest
      ∧ byteAt F 22 = codeIn [EngineState.idle, .waiting, .acting, .holding, .halted] e.state
      ∧ byteAt F 23 = index e.current ∧ byteAt F 24 = codeIn phases e.phase
      ∧ intAt F 25 4 = min (remaining e.limitTimer now) 4294967295 ∧ intAt F 29 2 = min (remaining e.holdTimer now) 65535
      ∧ byteAt F 31 = (e.followed.filter (fun y => y.2)).length % 256
      ∧ byteAt F 32 = (e.followed.filter (fun y => !y.2)).length % 256 ∧ byteAt F 33 = flagged e.awaiting
      ∧ intAt F 34 2 = e.errors.toNat ∧ byteAt F 36 = index (e.context.map Prod.fst)
      ∧ byteAt F 37 = codeIn phases (e.context.map Prod.snd) ∧ byteAt F 38 = flagged e.ended ∧ byteAt F 39 = index e.armed
      ∧ (∀ k : GroupIx,
          let at_ := 40 + 11 * k.val
          let y := s.group f k
          byteAt F at_ = ((s.fitted f).filter (fun j => s.groupOf f j = k)).length
          ∧ byteAt F (at_ + 1) = y.queue.length % 256
          ∧ (∀ i : Fin 4, intAt F (at_ + 2 + 2 * i.val) 2 = ((y.history[i]).map (fun t => min (elapsed t.start) 65535)).getD 65535)
          ∧ byteAt F (at_ + 10) = min (remaining y.spacing now) 255)
      ∧ F.drop 84 = (List.finRange 4).flatMap (fun k => (s.group f k).queue.flatMap (fun y =>
          [b8 y.door.val, b8 (bitsValue [y.motion = .close, y.cls = .emergency])] ++ be16 (min (elapsed y.enqueued) 65535)))) ∧
    (∀ j : DoorIx,
      let D := s.doorStatus f j
      let d := s.door f j
      let y := s.sense f j
      let i := s.input f j
      D.length = 24 ∧ byteAt D 0 = codeIn doorStates d.state ∧ byteAt D 1 = flagged (s.isolated f j)
      ∧ byteAt D 2 = codeIn faultCauses (d.cause.map some) ∧ byteAt D 3 = d.attempts % 256 ∧ byteAt D 4 = flagged d.pendingClose
      ∧ byteAt D 5 = codeIn [ReqClass.normal, .emergency] d.reqClass
      ∧ intAt D 6 4 = (if d.state = none then 4294967295 else elapsed d.entryTime) ∧ byteAt D 10 = flagged (s.served f j)
      ∧ byteAt D 11 = codeIn trackers y.tracker ∧ intAt D 12 2 = y.boarding % 65536 ∧ intAt D 14 2 = y.alighting % 65536
      ∧ byteAt D 16 = flagged y.deferral.isSome ∧ intAt D 17 2 = min (remaining y.deferral now) 65535
      ∧ byteAt D 19 = codeIn zones y.zone ∧ intAt D 20 2 = min (remaining y.clearing now) 65535
      ∧ byteAt D 22 = index (y.episode.bind Episode.slot)
      ∧ byteAt D 23 = bitsValue [i.leafClosed, i.leafOpen, i.lockEngaged, i.mrh, i.edge, i.dwa, i.dwb, i.gap]) ∧
    (∀ n : Nat,
      let T := s.berthStatus l f n
      let b := s.berth f
      let us := (b.consist.map Consist.units).getD []
      let flat := (b.consist.map Consist.flat).getD []
      let h := b.measure.bind Measure.head
      let m := w.align.map.length
      let rows : List (List Byte) := match w.align.table with
        | some t => t.map (fun r => [b8 r.index, b8 r.unit, b8 r.car, b8 r.door] ++ be32 (r.x % 4294967296).toNat
            ++ [b8 (codeIn [MatchOutcome.matched, .noDoorUnit, .unavailable, .conflict, .withheld] r.outcome), b8 (index r.named)])
        | none => (List.range flat.length).zipWith (fun k r => [b8 (k + 1), b8 r.unit, b8 r.car, b8 r.door] ++ be32 r.d
            ++ [255, 255]) flat
      let carried := (rows.drop (n - 1)).take (match l with | .sl => 15 | .il => 14)
      byteAt T 0 = codeIn berthStates b.state ∧ byteAt T 1 = us.length % 256
      ∧ (∀ k : Fin 4, byteAt T (2 + 2 * k.val) = index (us[k.val]?.map Prod.fst)
          ∧ byteAt T (3 + 2 * k.val) = codeIn [Orientation.forward, .reversed] (us[k.val]?.map Prod.snd))
      ∧ byteAt T 10 = flat.length % 256 ∧ intAt T 11 4 = word (b.ab1Time.map Prod.fst)
      ∧ intAt T 15 4 = word (b.ab1Time.map Prod.snd) ∧ intAt T 19 4 = word b.ab2Time
      ∧ intAt T 23 2 = ((b.speed.map (fun v => v.1 % 65536)).getD 65535)
      ∧ intAt T 25 2 = signed (b.predicted.map Prod.fst)
      ∧ byteAt T 27 = (match b.speed, b.predicted with | some v, some p => bitsValue [v.2, p.2] | _, _ => 255)
      ∧ intAt T 28 2 = signed h
      ∧ byteAt T 30 = ((b.measure.map (fun r => bitsValue [r.beyond, r.short, r.bridged.isSome, r.invalid])).getD 255)
      ∧ byteAt T 31 = index (b.measure.bind Measure.bridged) ∧ intAt T 32 4 = word b.stopTime ∧ byteAt T 36 = flagged b.release
      ∧ byteAt T 37 = ((b.posted.map (fun p => bitsValue [p.fromRelease, p.fromSupervisory, p.fromProgram])).getD 0)
      ∧ byteAt T 38 = ((b.posted.map (fun p => p.sections.toNat)).getD 255)
      ∧ intAt T 39 4 = word (b.posted.map Posted.doorMask) ∧ intAt T 43 4 = word (b.posted.map Posted.postTime)
      ∧ intAt T 47 4 = word (b.posted.bind Posted.issueTime)
      ∧ intAt T 51 4 = bitsValue (w.beams.ab1 :: w.beams.ab2 :: w.beams.sw.toList)
      ∧ intAt T 55 4 = min (remaining (if b.approachTimer.isSome then b.approachTimer else b.settleTimer) now) 4294967295
      ∧ byteAt T 59 = codeIn grades (w.align.grade.map some) ∧ byteAt T 60 = w.align.candidates % 256 ∧ byteAt T 61 = m % 256
      ∧ (T.drop 62).take m = w.align.map.map (fun j => b8 j.val)
      ∧ T.drop (62 + m) = [b8 n, b8 carried.length] ++ carried.flatten)

/-- R3, R156, R157: a frame of a KIND below 0x80 that can be taken is answered with one reply, and where its result is neither
ACCEPT nor ADJUSTED nothing changes but that the frame is taken and answered (and that the model's counter of free values
may advance, log 15). R155, R158, R168: a request that belongs to the other link is refused WRONG_LINK, a KIND below 0x80 that
names no request is refused UNKNOWN_KIND, and a payload of another length than its KIND requires is refused BAD_LENGTH; SET
MODE carries the mode and generation of the face with each refusal, which face its first byte names being log 15. R27 gives a
door unit no state before the first complete scan; that ISOLATE of one is then refused NOT_LOCKED and DOOR RESET NOT_FAULTED
is log 27. A KIND of 0x80 or above is dropped unanswered. -/
def Obligations.RefusalsChangeNothing : Prop :=
  ∀ (l : Link) (x : Frame) (s : State), s.ready l x = true →
    let k := x.kind.toNat
    let p := x.payload
    let answered (c : ResultCode) (body : List Byte) : Prop :=
      exec (Instr.ofFrame l x) s = .next ((s.popFrame l).replied l x c body)
    let refused (c : ResultCode) : Prop := answered c []
    let ilOnly := 0x01 ≤ k ∧ k ≤ 0x07
    let both := k = 0x08 ∨ k = 0x09
    let slOnly := 0x10 ≤ k ∧ k ≤ 0x1A ∨ 0x20 ≤ k ∧ k ≤ 0x26 ∨ 0x30 ≤ k ∧ k ≤ 0x39 ∨ 0x40 ≤ k ∧ k ≤ 0x46 ∨ k = 0x48 ∨ k = 0x49
    let right := l = .il ∧ ilOnly ∨ both ∨ l = .sl ∧ slOnly
    -- the length that a KIND requires, by the layouts of R168
    let needs : Nat :=
      if k = 0x18 ∨ k = 0x19 ∨ k = 0x1A ∨ k = 0x22 then 0
      else if 0x32 ≤ k ∧ k ≤ 0x35 ∨ k = 0x40 ∨ k = 0x45 then 2
      else if k = 0x09 ∨ k = 0x11 ∨ k = 0x49 then 3
      else if k = 0x13 ∨ k = 0x14 ∨ k = 0x30 then 4
      else if k = 0x31 then 7
      else if k = 0x15 then 15
      else if k = 0x16 then 13
      else if k = 0x17 then 18
      else if k = 0x01 then 2 + 2 * byteAt p 1
      else if k = 0x10 then 12 + 6 * byteAt p 1
      else if k = 0x12 then 2 + 5 * byteAt p 1
      else 1
    (k < 0x80 → ∃ (u : State) (c : ResultCode) (body : List Byte),
      exec (Instr.ofFrame l x) s = .next (u.replied l x c body)
      ∧ (c ≠ .accept → c ≠ .adjusted → { u with freeCount := s.freeCount } = s.popFrame l)) ∧
    (l = .sl → ilOnly → refused .wrongLink) ∧
    (l = .il → slOnly → k ≠ 0x30 → refused .wrongLink) ∧
    (k < 0x80 → ¬(ilOnly ∨ both ∨ slOnly) →
      exec (.unknownKind l x.kind x.tag x.payload) s = .next ((s.popFrame l).replied l x .unknownKind [])) ∧
    (right → k ≠ 0x30 → p.length ≠ needs → refused .badLength) ∧
    (∀ f, k = 0x30 → p ≠ [] → faceOf (byteAt p 0) = some f →
      let body := [(s.face f).mode.mode.code, (s.face f).mode.generation]
      (l = .il → answered .wrongLink body) ∧ (l = .sl → p.length ≠ needs → answered .badLength body)) ∧
    (∀ (f : Face) (j : DoorIx), l = .sl → p = [faceCode f, b8 j.val] → s.isFitted f j = true → (s.door f j).state = none →
      (k = 0x32 → s.commit = none → refused .notLocked) ∧ (k = 0x34 → refused .notFaulted)) ∧
    (0x80 ≤ k → exec (.nonRequestFrame l x.kind x.tag x.payload) s = .next (s.popFrame l))

/-! ### Configuration writes -/

/-- R5, R64 to R66: WRITE GEOMETRY and WRITE TOLERANCE with no commit in flight, the lock clear, the berth EMPTY, every
fitted door unit LOCKED and the relations of R65 met. The geometry is replaced whole, or its tolerance alone; isolated
flags of positions no longer fitted are cleared; without the emergency latch, door units that stay fitted keep their records
and their sensing, and positions no longer fitted lose them. The rest of the working copy stays. R72: LOCK
GEOMETRY sets the geometry lock flag; UNLOCK GEOMETRY clears it while MAINT is active and is refused NOT_PERMITTED otherwise; a
change of MAINT itself leaves the flag. During a commit both are refused COMMIT_BUSY. -/
def Obligations.GeometryIsWrittenAndLocked : Prop :=
  (∀ (f : Face) (g : Byte) (s : State), s.calm f = true → s.commit = none → s.config.geometryLock = false →
     (s.berth f).state = .empty → s.allLocked f = true →
     let keeps (u : State) (q : Geometry) : Prop :=
       u.config = (s.config.setGeo f q).setIso f (Vector.ofFn (fun j : Fin 32 => decide (j.val < q.n) && (s.iso f)[j]))
       ∧ (∀ k, k ≠ f → u.face k = s.face k)
       ∧ ((s.face f).mode.latch = false → ∀ j, s.isFitted f j = true → j.val < q.n → u.unit f j = s.unit f j)
       ∧ ((s.face f).mode.latch = false →
           ∀ j : DoorIx, s.isFitted f j = true → q.n ≤ j.val → u.unit f j = (DoorRec.blank, DoorSense.blank))
       ∧ (s.scanDone = true → (u.face f).clp = u.computeClp f)
     (∀ (p : List Byte) (q : Geometry), s.ready .sl ⟨0x10#8, g, p⟩ = true → faceOf (byteAt p 0) = some f →
       p.length = 12 + 6 * byteAt p 1 → readGeometry p = some q → q.valid = true →
       ∃ u : State, exec (.writeGeometry .sl g p) s = .next (u.replied .sl ⟨0x10#8, g, p⟩ .accept []) ∧ keeps u q) ∧
     (∀ t : Nat, 50 ≤ t → t ≤ 600 → (s.geo f).spaced t = true → s.ready .sl ⟨0x11#8, g, faceCode f :: be16 t⟩ = true →
       ∃ u : State, exec (.writeTolerance .sl g (faceCode f :: be16 t)) s =
           .next (u.replied .sl ⟨0x11#8, g, faceCode f :: be16 t⟩ .accept [])
         ∧ keeps u { s.geo f with tolerance := t })) ∧
  (∀ (g : Byte) (s : State),
     let u := s.popFrame .sl
     let lock : Frame := ⟨0x18#8, g, []⟩
     let unlock : Frame := ⟨0x19#8, g, []⟩
     let writes (x : Frame) (v : Bool) : State :=
       (u.mapConfig (fun c => { c with geometryLock := v })).replied .sl x .accept []
     (s.ready .sl lock = true →
       exec (.lockGeometry .sl g []) s =
         .next (if s.commit.isSome then u.replied .sl lock .commitBusy [] else writes lock true)) ∧
     (s.ready .sl unlock = true →
       exec (.unlockGeometry .sl g []) s =
         .next (if s.commit.isSome then u.replied .sl unlock .commitBusy []
           else if s.maint then writes unlock false else u.replied .sl unlock .notPermitted [])) ∧
     (∀ v, s.powered = true → s.notices = [] → exec (.maintChange v) s = .next { s with maint := v }))

/-- R67, R69 to R71, R138, R159: with no commit in flight each of these writes is answered ACCEPT, or ADJUSTED with
the values as written when one was brought to the nearer end of its range, and the working copy holds the item
written: WRITE PARAMETERS of one item, WRITE DEVICE PARAMETERS, SET REPORTING, and the definition or emptying of a car
profile, a unit profile and a descriptor. A value that is the absent marker of its width is left out (log 20). That the
emptying of a descriptor examines no byte after the form is log 51, and that a SERVED selection keeps the mask carried is
log 47; both are the model's choice. -/
def Obligations.ItemWritesStoreTheItem : Prop :=
  ∀ (g : Byte) (s : State), s.commit = none →
    let u := s.popFrame .sl
    (∀ (f : Face) (id lo hi v : Nat), (s.berth f).state = .empty → s.allLocked f = true →
      paramRange id = some (lo, hi) → v < 0xFFFFFFFF →
      let p := [faceCode f, 1] ++ b8 id :: be32 v
      let w := if v < lo then lo else if hi < v then hi else v
      s.ready .sl ⟨0x12#8, g, p⟩ = true →
      exec (.writeParameters .sl g p) s =
          .next ((u.mapConfig (fun c => c.setPar f ((s.par f).put id w))).replied .sl ⟨0x12#8, g, p⟩
            (if w = v then .accept else .adjusted) (if w = v then [] else [faceCode f, 1] ++ b8 id :: be32 w))
        ∧ ((s.par f).put id w).get id = w
        ∧ ∀ k, k ≠ id → ((s.par f).put id w).get k = (s.par f).get k) ∧
    (∀ (v : Nat) (a b : LinkSpeed), v < 0xFFFF →
      let p := be16 v ++ [a.code, b.code]
      let w := if v < 500 then 500 else if 10000 < v then 10000 else v
      s.ready .sl ⟨0x13#8, g, p⟩ = true →
      exec (.writeDeviceParameters .sl g p) s =
        .next ((u.mapConfig (fun c => { c with ilSilenceLimit := w, speedSl := a, speedIl := b })).replied .sl
          ⟨0x13#8, g, p⟩ (if w = v then .accept else .adjusted) (if w = v then [] else be16 w ++ [a.code, b.code]))) ∧
    (∀ (l : Link) (m : Fin 64) (t : Fin 4) (h : Fin 6),
      let p : List Byte := [linkCode l, b8 m.val, b8 t.val, b8 h.val]
      (s.link l).tx.isSome = true → s.ready .sl ⟨0x14#8, g, p⟩ = true →
      exec (.setReporting .sl g p) s = .next ((u.mapConfig (fun c => c.setReporting l ⟨BitVec.ofNat 8 m.val, t, h⟩)).replied
        .sl ⟨0x14#8, g, p⟩ .accept [])) ∧
    (∀ (i : Fin 24) (p : List Byte), p.length = 15 → byteAt p 0 = i.val → s.ready .sl ⟨0x15#8, g, p⟩ = true →
      (∀ x, byteAt p 1 = 1 → readCar p = some x → exec (.writeCarProfile .sl g p) s =
        .next ((u.mapConfig (fun c => { c with cars := put c.cars i (some x) })).replied .sl ⟨0x15#8, g, p⟩ .accept [])) ∧
      (byteAt p 1 = 0 → (∀ (k : Fin 16) (x : UnitProfile), s.config.units[k] = some x → i ∉ x.cars) →
        exec (.writeCarProfile .sl g p) s = .next ((u.mapConfig (fun c => { c with cars := put c.cars i none })).replied .sl
          ⟨0x15#8, g, p⟩ .accept [])) ∧
      (byteAt p 1 = 0 → (∃ (k : Fin 16) (x : UnitProfile), s.config.units[k] = some x ∧ i ∈ x.cars) →
        exec (.writeCarProfile .sl g p) s = .next (u.replied .sl ⟨0x15#8, g, p⟩ .inUse []))) ∧
    (∀ (i : Fin 16) (p : List Byte), p.length = 13 → byteAt p 0 = i.val → s.ready .sl ⟨0x16#8, g, p⟩ = true →
      (∀ x, byteAt p 1 = 1 → readUnit p = some x → (∀ k ∈ x.cars, (s.config.cars[k]).isSome = true) →
        exec (.writeUnitProfile .sl g p) s =
          .next ((u.mapConfig (fun c => { c with units := put c.units i (some x) })).replied .sl ⟨0x16#8, g, p⟩ .accept [])) ∧
      (∀ x, byteAt p 1 = 1 → readUnit p = some x → (∃ k ∈ x.cars, s.config.cars[k] = none) →
        exec (.writeUnitProfile .sl g p) s = .next (u.replied .sl ⟨0x16#8, g, p⟩ .undefinedProfile [])) ∧
      (byteAt p 1 = 0 → exec (.writeUnitProfile .sl g p) s =
        .next ((u.mapConfig (fun c => { c with units := put c.units i none })).replied .sl ⟨0x16#8, g, p⟩ .accept []))) ∧
    (∀ (i : Fin 96) (p : List Byte), p.length = 18 → byteAt p 0 = i.val → s.ready .sl ⟨0x17#8, g, p⟩ = true →
      let busy := ∃ f, (s.face f).engine.running = true ∧ (s.face f).engine.current = some i
      (∀ x a, byteAt p 1 = 1 → readDescriptor s.explicitLimit p = some (x, a) → ¬busy →
        exec (.writeDescriptor .sl g p) s = .next ((u.mapConfig (fun c => { c with
          descriptors := put c.descriptors i (some x) })).replied .sl ⟨0x17#8, g, p⟩
            (if a then .adjusted else .accept) (if a then descriptorBytes i (some x) else []))) ∧
      (byteAt p 1 = 0 → ¬busy → exec (.writeDescriptor .sl g p) s = .next ((u.mapConfig (fun c => { c with
          descriptors := put c.descriptors i none })).replied .sl ⟨0x17#8, g, p⟩ .accept [])) ∧
      (byteAt p 1 = 0 ∨ byteAt p 1 = 1 ∧ (readDescriptor s.explicitLimit p).isSome = true → busy →
        exec (.writeDescriptor .sl g p) s = .next (u.replied .sl ⟨0x17#8, g, p⟩ .inUse [])))

/-! ### Requests of the interlocking -/

/-- R80: ARRIVAL NOTICE whose consist can be flattened, in EMPTY, enters NOTIFIED with the consist and its list held;
in NOTIFIED, APPROACHING, ARRIVING or SETTLING the consist is replaced; in STOPPED with every door unit LOCKED the
alignment result is made again with the measurement held; in DEPARTING and MOVED_FAULT it is refused BERTH_STATE, in STOPPED
with a door unit not LOCKED FACE_BUSY, and otherwise with the code that flattening gives, and nothing else changes. R100, R101:
flattening makes the list of the train's doors from the head, each with its distance, unit, car and door number; a consist
with an empty unit profile is UNDEFINED_PROFILE, whatever its size, and one of more than 12 cars, 48 doors or 250,000 mm is
CONSIST_TOO_LARGE. -/
def Obligations.ArrivalNoticeHoldsTheConsist : Prop :=
  (∀ (c : WorkingCopy) (us : List (Fin 16 × Orientation)),
    ((∃ u ∈ us, c.units[u.1] = none) → c.flatten us = .error .undefinedProfile) ∧
    (∀ ts : List TrainUnit,
      ts.map (fun t => (some t.profile, t.orientation)) = us.map (fun u => (c.units[u.1], u.2)) →
      (∀ t ∈ ts, t.profile.cars.map (fun k => c.cars[k]) = t.cars.map some) →
      let large := 12 < trainCars ts ∨ 48 < (trainDoors ts).length ∨ 250000 < trainStart ts ts.length
      (¬large → c.flatten us = .ok (trainDoors ts)) ∧ (large → c.flatten us = .error .consistTooLarge))) ∧
  ∀ (f : Face) (g : Byte) (p : List Byte) (us : List (Fin 16 × Orientation)) (s : State), s.calm f = true →
    s.ready .il ⟨0x01#8, g, p⟩ = true → faceOf (byteAt p 0) = some f → p.length = 2 + 2 * byteAt p 1 →
    readConsist p = some us →
    let b := s.berth f
    (b.state = .departing ∨ b.state = .movedFault →
      exec (.arrivalNotice .il g p) s = .next ((s.popFrame .il).replied .il ⟨0x01#8, g, p⟩ .berthState [])) ∧
    (b.state = .stopped → s.allLocked f = false →
      exec (.arrivalNotice .il g p) s = .next ((s.popFrame .il).replied .il ⟨0x01#8, g, p⟩ .faceBusy [])) ∧
    (∀ c, s.config.flatten us = .error c → b.state ≠ .departing → b.state ≠ .movedFault →
      (b.state = .stopped → s.allLocked f = true) →
      exec (.arrivalNotice .il g p) s = .next ((s.popFrame .il).replied .il ⟨0x01#8, g, p⟩ c [])) ∧
    (∀ flat, s.config.flatten us = .ok flat →
      (b.state = .empty → ∃ u : State, exec (.arrivalNotice .il g p) s = .next (u.replied .il ⟨0x01#8, g, p⟩ .accept [])
        ∧ u.berth f = { b with
            state := .notified, consist := some ⟨us, flat⟩, ab1Time := none, ab2Time := none, speed := none
            predicted := none }
        ∧ u.outside f = (s.popFrame .il).outside f) ∧
      (b.state = .notified ∨ b.state = .approaching ∨ b.state = .arriving ∨ b.state = .settling →
        exec (.arrivalNotice .il g p) s = .next (((s.popFrame .il).mapBerth f (fun x => { x with
          consist := some ⟨us, flat⟩ })).replied .il ⟨0x01#8, g, p⟩ .accept [])) ∧
      (∀ m, b.state = .stopped → s.allLocked f = true → b.measure = some m → b.posted = none →
        ∃ u : State, exec (.arrivalNotice .il g p) s = .next (u.replied .il ⟨0x01#8, g, p⟩ .accept [])
          ∧ u.berth f = { b with consist := some ⟨us, flat⟩ }
          ∧ (u.face f).align = (s.mapBerth f (fun x => { x with consist := some ⟨us, flat⟩ })).alignment f m
          ∧ u.outside f = (s.popFrame .il).outside f
          ∧ ∀ k, u.unit f k = s.unit f k ∧ ∀ h, u.group f h = s.group f h))

/-- R111 to R113: DOOR RELEASE. It is refused WRONG_MODE in MAINTENANCE, NO_TRAIN with no train at the platform and
BERTH_STATE in MOVED_FAULT; taken in SUPERVISED or LOCAL it sets the release flag alone; while release is in force it
changes nothing; in AUTOMATIC with no program running or armed it opens the door units of the Door Map at a STOPPED berth
and posts the opening before the stop. R112, R150: with a program armed and none running it starts that program instead,
with release in force, the errors cleared and no opening made: WAITING where the trigger is not met, HOLDING where it is met
and the action is WAIT or MARK, and HALTED with EMPTY_DESCRIPTOR where the armed descriptor is empty. R110, R115, R116:
RELEASE WITHDRAW clears release and the posted open; in AUTOMATIC and SUPERVISED without the latch every fitted door unit is
given a CLOSE, and elsewhere none. R16 to R19 and R117 decide the requests. That HOLDING has the limit timer stopped and the
followed set empty is log 28. What a withdrawal does to a running program is in HaltingCausesHaltTheEngine. -/
def Obligations.ReleaseAndWithdrawal : Prop :=
  ∀ (f : Face) (g : Byte) (s : State), s.calm f = true →
    let p := [faceCode f]
    let b := s.berth f
    let v := s.popFrame .il
    let m := (s.face f).mode
    (s.ready .il ⟨0x02#8, g, p⟩ = true →
      let answers (t : State) (c : ResultCode) : Prop :=
        exec (.doorRelease .il g p) s = .next (t.replied .il ⟨0x02#8, g, p⟩ c [])
      let train := b.state = .arriving ∨ b.state = .settling ∨ b.state = .stopped
      (m.mode = .maintenance → answers v .wrongMode) ∧
      (m.mode ≠ .maintenance → b.state = .movedFault → answers v .berthState) ∧
      (m.mode ≠ .maintenance → b.state ≠ .movedFault → ¬train → answers v .noTrain) ∧
      (m.mode ≠ .maintenance → train → b.release = true → answers v .accept) ∧
      ((m.mode = .supervised ∨ m.mode = .local_) → train → b.release = false →
        answers (v.mapBerth f (fun x => { x with release := true })) .accept) ∧
      (m.mode = .automatic → train → b.release = false → (s.face f).engine.armed = none →
        (b.state = .stopped → (s.face f).align.grade ≠ some .noConsist → ∃ u, answers u .accept
          ∧ u.berth f = { b with release := true } ∧ (u.face f).mode = m ∧ u.outside f = v.outside f
          ∧ (s.startQueueLaw f → s.opensEach f .normal (fun j => j ∈ s.map f) (fun _ => True) u)) ∧
        (b.state ≠ .stopped → b.posted = none → answers (v.mapBerth f (fun x => { x with
            release := true
            posted := some ⟨0xFF#8, 0#32, true, false, false, s.msClock, none⟩ })) .accept)) ∧
      (∀ i : Fin 96, m.mode = .automatic → train → b.release = false → (s.face f).engine.armed = some i →
        let started : Engine := { (s.face f).engine with
          state := .waiting, phase := .wait, current := some i, limitTimer := none, holdTimer := none, followed := []
          awaiting := false, errors := 0, context := none, ended := false }
        let starts (e : Engine) : Prop := ∃ u, answers u .accept
          ∧ u.face f = { s.face f with berth := { b with release := true }, engine := e } ∧ u.outside f = v.outside f
        (s.descriptor i = none →
          starts { started with state := .halted, errors := 0x40#16, context := some (i, .wait) }) ∧
        (∀ d, s.descriptor i = some d →
          let met := (s.mapBerth f (fun x => { x with release := true })).triggerMet f d.trigger
          let limit : Option Timer := if d.limit = 0 then none else some ⟨s.msClock, d.limit⟩
          (met = false → starts { started with limitTimer := limit }) ∧
          (met = true → d.action = .wait ∨ d.action = .mark → starts { started with
            state := .holding, phase := .hold, holdTimer := some ⟨s.msClock, if d.hold = 0 then 10 else d.hold⟩ })))) ∧
    (s.ready .il ⟨0x03#8, g, p⟩ = true → ∃ u : State,
      exec (.releaseWithdraw .il g p) s = .next (u.replied .il ⟨0x03#8, g, p⟩ .accept [])
      ∧ (u.berth f).release = false ∧ (u.berth f).posted = none ∧ (u.berth f).state = b.state
      ∧ (u.face f).align = (s.face f).align ∧ (u.face f).mode = m ∧ u.outside f = v.outside f
      ∧ (m.mode = .local_ ∨ m.mode = .maintenance ∨ m.latch = true →
          ∀ k, u.unit f k = s.unit f k ∧ ∀ h, u.group f h = s.group f h)
      ∧ ((m.mode = .automatic ∨ m.mode = .supervised) → m.latch = false → s.startQueueLaw f →
          s.closesEach f (fun _ => True) u))

/-- R45, R85, R86: TRAIN AT REST in SETTLING stops the berth with its measurement and alignment, and the counts of the face
and of each door unit are 0. R89, R90: DEPARTED, at a STOPPED berth with release not in force and CLP asserted, enters
DEPARTING, or EMPTY when every beam is already clear, with the alignment result cleared; else it is refused NOT_READY. R131:
POSSESSION GRANT in MAINTENANCE with the berth EMPTY sets the possession flag; POSSESSION REVOKE clears it and gives every
fitted door unit a CLOSE, which R16 and R17 decide. -/
def Obligations.BerthAndPossessionRequests : Prop :=
  ∀ (f : Face) (g : Byte) (s : State), s.calm f = true →
    let p := [faceCode f]
    let b := s.berth f
    let v := s.popFrame .il
    let m := (s.face f).mode
    (s.ready .il ⟨0x04#8, g, p⟩ = true → b.state = .settling → ∃ u : State,
      exec (.trainAtRest .il g p) s = .next (u.replied .il ⟨0x04#8, g, p⟩ .accept [])
      ∧ (u.berth f).state = .stopped ∧ (u.berth f).measure = some (s.measureNow f)
      ∧ (u.berth f).stopTime = some s.msClock ∧ (u.face f).align = s.alignment f (s.measureNow f)
      ∧ (u.face f).boarding = 0 ∧ (u.face f).alighting = 0
      ∧ (∀ j, (u.sense f j).boarding = 0 ∧ (u.sense f j).alighting = 0) ∧ u.outside f = v.outside f) ∧
    (s.ready .il ⟨0x05#8, g, p⟩ = true →
      (b.state = .stopped → b.release = false → (s.face f).clp.value = true → ∃ u : State,
        exec (.departed .il g p) s = .next (u.replied .il ⟨0x05#8, g, p⟩ .accept [])
        ∧ (u.berth f).state = (if (s.beams f).allClear then .empty else .departing)
        ∧ (u.face f).align = Alignment.blank ∧ (u.berth f).posted = none
        ∧ ((s.beams f).allClear = true → (u.berth f).consist = none ∧ (u.berth f).measure = none)
        ∧ (u.face f).mode = m ∧ u.outside f = v.outside f ∧ (u.face f).doors = (s.face f).doors) ∧
      (¬(b.state = .stopped ∧ b.release = false ∧ (s.face f).clp.value = true) →
        exec (.departed .il g p) s = .next (v.replied .il ⟨0x05#8, g, p⟩ .notReady []))) ∧
    (s.ready .il ⟨0x06#8, g, p⟩ = true → m.mode = .maintenance → b.state = .empty → ∃ u : State,
      exec (.possessionGrant .il g p) s = .next (u.replied .il ⟨0x06#8, g, p⟩ .accept [])
      ∧ u.face f = { s.face f with mode := { m with possession := true } } ∧ u.outside f = v.outside f) ∧
    (s.ready .il ⟨0x07#8, g, p⟩ = true → m.possession = true → ∃ u : State,
      exec (.possessionRevoke .il g p) s = .next (u.replied .il ⟨0x07#8, g, p⟩ .accept [])
      ∧ (u.face f).mode = { m with possession := false } ∧ u.berth f = b ∧ u.outside f = v.outside f
      ∧ (m.latch = true → ∀ k, u.unit f k = s.unit f k ∧ ∀ h, u.group f h = s.group f h)
      ∧ (m.latch = false → s.startQueueLaw f → s.closesEach f (fun _ => True) u))

/-! ### Supervisory commands -/

/-- R124, R125: SET MODE names the mode and generation it expects. Accepted, the face is in the new mode with the
generation one higher, MAINTENANCE clearing release and the posted open and possession going with it; with the keyswitch
out of AUTO it is refused KEYSWITCH, with another mode or generation MODE_MISMATCH, and the reply carries the mode and
generation as they then are. No door unit is asked anything. -/
def Obligations.SetModeChangesTheMode : Prop :=
  ∀ (f : Face) (e new : Mode) (gen g : Byte) (s : State), s.calm f = true → new ≠ .local_ →
    let p := [faceCode f, e.code, gen, new.code]
    let x : Frame := ⟨0x30#8, g, p⟩
    let m := (s.face f).mode
    let v := s.popFrame .sl
    s.ready .sl x = true →
    (m.key ≠ .auto → exec (.setMode .sl g p) s = .next (v.replied .sl x .keyswitch [m.mode.code, m.generation])) ∧
    (m.key = .auto → ¬(e = m.mode ∧ gen = m.generation) →
      exec (.setMode .sl g p) s = .next (v.replied .sl x .modeMismatch [m.mode.code, m.generation])) ∧
    (m.key = .auto → e = m.mode → gen = m.generation → new ≠ m.mode →
      (new = .maintenance → (s.berth f).state = .empty) → (m.mode = .maintenance → s.allLocked f = true) →
      ∃ u : State, exec (.setMode .sl g p) s = .next (u.replied .sl x .accept [new.code, m.generation + 1])
        ∧ (u.face f).mode = { m with
            mode := new, generation := m.generation + 1, possession := m.possession && m.mode ≠ .maintenance }
        ∧ (new = .maintenance → (u.berth f).release = false ∧ (u.berth f).posted = none)
        ∧ (new ≠ .maintenance → u.berth f = s.berth f) ∧ (u.face f).align = (s.face f).align
        ∧ u.outside f = v.outside f ∧ ∀ k, u.unit f k = s.unit f k ∧ ∀ h, u.group f h = s.group f h)

/-- R113, R126: DOOR COMMAND, with the selection SERVED, SECTIONS or EXPLICIT. In AUTOMATIC and LOCAL it is refused
WRONG_MODE. An OPEN of SERVED or SECTIONS at a STOPPED berth opens the selected door units of the Door Map that may leave
LOCKED; before the stop, or with NO_CONSIST, it posts the opening with the source SUPERVISORY, or adds it to the one posted,
and says so in the reply; otherwise it does nothing. An OPEN of EXPLICIT goes to the selected fitted door units at once, and
a CLOSE to the selected ones. R16 to R19 decide each. EXPLICIT for one door unit makes the one request that
DoorRequestsAreDecidedByTheTable decides, and the reply names its refusal; with none of the cases of R19 a LOCKED or LOCKING
door unit stays, with NO_RELEASE. That a mask of all ones is no absent marker on a face of 32 door units is log 20. -/
def Obligations.DoorCommandsOpenAndClose : Prop :=
  ∀ (f : Face) (g kind : Byte) (n : Nat) (s : State), s.calm f = true → n < 2 ^ 32 →
    kind = 0 ∨ kind = 1 ∧ n < 2 ^ 8 ∨ kind = 2 ∧ n < 2 ^ (s.geo f).n →
    let m := (s.face f).mode
    let b := s.berth f
    let v := s.popFrame .sl
    let po := [faceCode f, 0#8, kind] ++ be32 n
    let pc := [faceCode f, 1#8, kind] ++ be32 n
    let xo : Frame := ⟨0x31#8, g, po⟩
    let xc : Frame := ⟨0x31#8, g, pc⟩
    let flagged (j : DoorIx) : Prop := kind = 0 ∨ kind = 1 ∧ n.testBit ((s.geo f).doors[j]).section_.val = true
      ∨ kind = 2 ∧ n.testBit j.val = true
    -- an OPEN that is given to the door units `js`
    let opens (js : DoorIx → Prop) : Prop :=
      ∃ (u : State) (body : List Byte), exec (.doorCommandOpen .sl g po) s = .next (u.replied .sl xo .accept (0 :: body))
        ∧ u.side f = s.side f ∧ u.outside f = v.outside f
        ∧ (s.startQueueLaw f → s.opensEach f .normal js (s.mayLeaveLocked f) u)
    ((m.mode = .automatic ∨ m.mode = .local_) →
      (s.ready .sl xo = true → exec (.doorCommandOpen .sl g po) s = .next (v.replied .sl xo .wrongMode [])) ∧
      (s.ready .sl xc = true → exec (.doorCommandClose .sl g pc) s = .next (v.replied .sl xc .wrongMode []))) ∧
    ((m.mode = .supervised ∨ m.mode = .maintenance) → s.ready .sl xo = true →
      let posts := b.state = .arriving ∨ b.state = .settling
        ∨ b.state = .stopped ∧ (s.face f).align.grade = some .noConsist
      let sections : BitVec 8 := if kind = 0 then 0xFF#8 else BitVec.ofNat 8 n
      (kind = 2 → opens (fun j => s.isFitted f j = true ∧ flagged j)) ∧
      (kind ≠ 2 → ¬posts → b.state = .stopped → s.map f ≠ [] → opens (fun j => j ∈ s.map f ∧ flagged j)) ∧
      (kind ≠ 2 → ¬posts → b.state ≠ .stopped ∨ s.map f = [] →
        exec (.doorCommandOpen .sl g po) s = .next (v.replied .sl xo .accept [0, 0])) ∧
      (kind ≠ 2 → posts → exec (.doorCommandOpen .sl g po) s = .next ((v.mapBerth f (fun b => { b with
        posted := some (match b.posted with
          | none => ⟨sections, 0#32, false, true, false, s.msClock, none⟩
          | some q => { q with sections := q.sections ||| sections, fromSupervisory := true }) })).replied .sl xo
            .accept [1, 0]))) ∧
    ((m.mode = .supervised ∨ m.mode = .maintenance) → s.ready .sl xc = true →
      ∃ (u : State) (body : List Byte), exec (.doorCommandClose .sl g pc) s = .next (u.replied .sl xc .accept (0 :: body))
        ∧ u.side f = s.side f ∧ u.outside f = v.outside f
        ∧ (m.latch = true → ∀ k, u.unit f k = s.unit f k ∧ ∀ h, u.group f h = s.group f h)
        ∧ (m.latch = false → s.startQueueLaw f →
            s.closesEach f (fun j => flagged j ∧ (kind = 0 → j ∈ s.map f)) u)) ∧
    -- one door unit alone: the request of the table, and its refusal in the reply
    (∀ j : DoorIx, (m.mode = .supervised ∨ m.mode = .maintenance) → s.isFitted f j = true → kind = 2 → n = 2 ^ j.val →
      let asks (c : Instr) (x : Frame) (r : DoorRequest) : Prop :=
        let a := v.request f j r
        exec c s = .next (State.replied .sl x .accept
          (0#8 :: (if a.2 = .accept then [0#8] else [1#8, b8 j.val, a.2.code])) { a.1 with notices := [] })
      (s.ready .sl xo = true → asks (.doorCommandOpen .sl g po) xo .open_) ∧
      (s.ready .sl xc = true → asks (.doorCommandClose .sl g pc) xc .close) ∧
      (s.ready .sl xo = true → (s.door f j).state = some .locked ∨ (s.door f j).state = some .locking →
        s.isolated f j = false → ¬s.mayLeaveLocked f j →
        exec (.doorCommandOpen .sl g po) s =
          .next (v.replied .sl xo .accept [0#8, 1#8, b8 j.val, ResultCode.noRelease.code])))

/-- R25, R63: ISOLATE of a LOCKED door unit out of the Door Map and RESTORE of an isolated one change its isolated flag;
where it is isolated already, or is not, nothing changes; a RESTORE before the first complete scan is log 56. R133: RESTORE
under the emergency latch also starts a door unit that is LOCKED in an active section toward opening with the request class
EMERGENCY, which with the lock not engaged is UNLATCHED at once (R9), and any other keeps its state. R26: DOOR RESET
resolves a door unit in FAULT from its inputs, with the isolated and the emergency forms of R24; one found in FAULT again
stays there with the cause found. R54: ACK GAP takes a LATCHED zone to WATCH and completes its episode as ACKNOWLEDGED,
where its ring slot is kept. A door unit in a state that is not LOCKED, or in the Door Map, is not isolated, one in a state
that is not FAULT not reset, and a zone not LATCHED not acknowledged; an ACK GAP of another face or of a door unit that is
not fitted is refused BAD_FIELD. -/
def Obligations.DoorMaintenanceRequests : Prop :=
  ∀ (f : Face) (j : DoorIx) (g : Byte) (s : State), s.calm f = true → s.isFitted f j = true →
    let p := [faceCode f, b8 j.val]
    let v := s.popFrame .sl
    let d := s.door f j
    (s.ready .sl ⟨0x32#8, g, p⟩ = true → s.commit = none →
      (d.state ≠ none → d.state ≠ some .locked → exec (.isolate .sl g p) s = .next (v.replied .sl ⟨0x32#8, g, p⟩ .notLocked [])) ∧
      (d.state = some .locked → s.served f j = true →
        exec (.isolate .sl g p) s = .next (v.replied .sl ⟨0x32#8, g, p⟩ .served [])) ∧
      (d.state = some .locked → s.served f j = false → s.isolated f j = true →
        exec (.isolate .sl g p) s = .next (v.replied .sl ⟨0x32#8, g, p⟩ .accept [])) ∧
      (d.state = some .locked → s.served f j = false → s.isolated f j = false → ∃ u : State,
        exec (.isolate .sl g p) s = .next (u.replied .sl ⟨0x32#8, g, p⟩ .accept [])
        ∧ u.config = s.config.setIso f (put (s.iso f) j true) ∧ ∀ k, u.face k = s.face k)) ∧
    (s.ready .sl ⟨0x33#8, g, p⟩ = true → s.commit = none →
      let restored := s.config.setIso f (put (s.iso f) j false)
      let opens := (s.face f).mode.latch = true ∧ d.state = some .locked ∧ s.sectionActive f j = true
      (s.isolated f j = false → exec (.restore .sl g p) s = .next (v.replied .sl ⟨0x33#8, g, p⟩ .accept [])) ∧
      (s.isolated f j = true → ¬opens →
        ∃ u : State, exec (.restore .sl g p) s = .next (u.replied .sl ⟨0x33#8, g, p⟩ .accept [])
          ∧ u.config = restored ∧ ∀ k, u.face k = s.face k) ∧
      (s.isolated f j = true → opens → (s.input f j).lockEngaged = true →
        ∃ u : State, exec (.restore .sl g p) s = .next (u.replied .sl ⟨0x33#8, g, p⟩ .accept [])
          ∧ u.door f j = ⟨some .unlatching, none, d.attempts, false, some .emergency, s.msClock,
              some ⟨s.msClock, (s.par f).lockWithdrawTimeout⟩⟩
          ∧ u.noEntry f (s.groupOf f j) j ∧ OnlyDoor f j (v.mapConfig (fun _ => restored)) u) ∧
      (s.isolated f j = true → opens → (s.input f j).lockEngaged = false → s.noEntry f (s.groupOf f j) j →
        let h := s.groupOf f j
        let e : Entry := ⟨j, .open_, .emergency, s.msClock⟩
        let q := joinQueue e (s.group f h).queue
        let unlatched (t : Option Timer) : DoorRec := ⟨some .unlatched, none, d.attempts, false, some .emergency, s.msClock, t⟩
        ∃ u : State, exec (.restore .sl g p) s = .next (u.replied .sl ⟨0x33#8, g, p⟩ .accept [])
          ∧ OnlyDoor f j (v.mapConfig (fun _ => restored)) u
          ∧ ((s.par f).unlatchSettle ≠ 0 → u.group f h = s.group f h
              ∧ u.door f j = unlatched (some ⟨s.msClock, (s.par f).unlatchSettle⟩))
          ∧ ((s.par f).unlatchSettle = 0 → ¬(q.head? = some e ∧ (s.group f h).mayGrant = true) →
              u.group f h = { s.group f h with queue := q } ∧ u.door f j = unlatched none)
          ∧ ((s.par f).unlatchSettle = 0 → q.head? = some e → (s.group f h).mayGrant = true → u.noEntry f h j
              ∧ u.door f j = ⟨some .opening, none, d.attempts, false, some .emergency, s.msClock,
                  some ⟨s.msClock, (s.par f).openTimeout⟩⟩))) ∧
    (s.ready .sl ⟨0x34#8, g, p⟩ = true →
      (d.state ≠ none → d.state ≠ some .fault → exec (.doorReset .sl g p) s = .next (v.replied .sl ⟨0x34#8, g, p⟩ .notFaulted [])) ∧
      (d.state = some .fault →
        let found := resolvedState (s.input f j) (s.isolated f j) (s.face f).mode.latch
        ∃ u : State, exec (.doorReset .sl g p) s = .next (u.replied .sl ⟨0x34#8, g, p⟩ .accept [])
        ∧ (found.1 = .fault → (u.door f j).state = some .fault ∧ (u.door f j).cause = found.2)
        ∧ (found.1 ≠ .fault → u.door f j = s.resolvedRec f j (s.input f j)) ∧ u.noEntry f (s.groupOf f j) j ∧ OnlyDoor f j v u)) ∧
    (∀ a b : Byte, s.ready .sl ⟨0x35#8, g, [a, b]⟩ = true →
      (faceOf a.toNat = none ∨ (∃ k, faceOf a.toNat = some k ∧ (s.geo k).n ≤ b.toNat)) →
      exec (.ackGap .sl g [a, b]) s = .next (v.replied .sl ⟨0x35#8, g, [a, b]⟩ .badField [])) ∧
    (s.ready .sl ⟨0x35#8, g, p⟩ = true →
      ((s.sense f j).zone ≠ .latched →
        exec (.ackGap .sl g p) s = .next (v.replied .sl ⟨0x35#8, g, p⟩ .notLatched [])) ∧
      (∀ (e : Episode) (i : Fin 64), (s.sense f j).zone = .latched → (s.sense f j).episode = some e → e.slot = some i →
        ∃ u : State, exec (.ackGap .sl g p) s = .next (u.replied .sl ⟨0x35#8, g, p⟩ .accept [])
        ∧ u.sense f j = { s.sense f j with zone := .watch, clearing := none, episode := none }
        ∧ (u.face f).ring = put (s.face f).ring i ((s.face f).ring[i].map (fun r =>
            { r with ended := some (min (s.msClock - e.onset).toNat 65535, .acknowledged) }))
        ∧ (u.face f).doors = (s.face f).doors ∧ (u.face f).groups = (s.face f).groups
        ∧ u.outside f = v.outside f ∧ u.side f = s.side f) ∧
      (∀ e : Episode, (s.sense f j).zone = .latched → (s.sense f j).episode = some e → e.slot = none →
        ∃ u : State, exec (.ackGap .sl g p) s = .next (u.replied .sl ⟨0x35#8, g, p⟩ .accept [])
        ∧ u.sense f j = { s.sense f j with zone := .watch, clearing := none, episode := none }
        ∧ (u.face f).ring = (s.face f).ring ∧ (u.face f).doors = (s.face f).doors
        ∧ (u.face f).groups = (s.face f).groups ∧ u.outside f = v.outside f ∧ u.side f = s.side f))

/-- R39, R60, R91, R152: FACE RESET resolves the berth from its beams, clears the alignment result, the engine and the Start
Queues, and disarms every gap zone; with no door unit in UNLATCHED or CLOSE_WAIT and no possession the door units stay as
they are. R88: BERTH ACK at a MOVED_FAULT berth at rest enters SETTLING with the window occupied and EMPTY otherwise. R132,
R133: EVACUATE sets the emergency latch as EOI does, with the same EMERGENCY OPENs. R23, R134: EMERGENCY CLEAR is refused
EOI_ACTIVE while EOI is active; otherwise it clears the latch, and every fitted door unit in RELEASED with MRH inactive is
resolved from its inputs as R24 gives without the latch; every other door unit and the power groups stay. With the latch
clear nothing changes. The premise of the clause of the door units is the law of the Start Queues
(StepsKeepTheStartQueueLaw, R30). -/
def Obligations.FaceCommands : Prop :=
  ∀ (f : Face) (g : Byte) (s : State), s.calm f = true →
    let p := [faceCode f]
    let b := s.berth f
    let v := s.popFrame .sl
    let m := (s.face f).mode
    let timer : Timer := ⟨s.msClock, (s.par f).stopSettle⟩
    (s.ready .sl ⟨0x36#8, g, p⟩ = true → ∃ u : State,
      exec (.faceReset .sl g p) s = .next (u.replied .sl ⟨0x36#8, g, p⟩ .accept [])
      ∧ u.berth f = (if (s.beams f).allClear then Berth.blank
          else { Berth.blank with state := .settling, settleTimer := some timer })
      ∧ (u.face f).align = Alignment.blank ∧ (u.face f).engine = Engine.start ∧ u.outside f = v.outside f
      ∧ ((∀ j, s.isFitted f j = true → (s.door f j).state ≠ some .unlatched ∧ (s.door f j).state ≠ some .closeWait) →
          m.possession = false →
          (u.face f).doors = (s.face f).doors ∧ (∀ j, s.isFitted f j = true → (u.sense f j).zone = .idle)
          ∧ ∀ h, u.group f h = { s.group f h with queue := [] })) ∧
    (s.ready .sl ⟨0x37#8, g, p⟩ = true →
      (b.state ≠ .movedFault →
        exec (.berthAck .sl g p) s = .next (v.replied .sl ⟨0x37#8, g, p⟩ .berthState [])) ∧
      (b.state = .movedFault → ¬(b.release = false ∧ s.allLocked f = true) →
        exec (.berthAck .sl g p) s = .next (v.replied .sl ⟨0x37#8, g, p⟩ .faceBusy [])) ∧
      (b.state = .movedFault → b.release = false → s.allLocked f = true → ∃ u : State,
        exec (.berthAck .sl g p) s = .next (u.replied .sl ⟨0x37#8, g, p⟩ .accept [])
        ∧ ((∃ i : Fin 25, (s.beams f).sw[i] = true) →
            (u.berth f).state = .settling ∧ (u.berth f).settleTimer = some timer)
        ∧ ((∀ i : Fin 25, (s.beams f).sw[i] = false) → (u.berth f).state = .empty ∧ (u.berth f).consist = none)
        ∧ (u.face f).doors = (s.face f).doors ∧ (u.face f).mode = m ∧ u.outside f = v.outside f)) ∧
    (s.ready .sl ⟨0x38#8, g, p⟩ = true →
      (m.latch = true → exec (.evacuate .sl g p) s = .next (v.replied .sl ⟨0x38#8, g, p⟩ .accept [])) ∧
      (m.latch = false → s.scanDone = true → ∃ u : State,
        exec (.evacuate .sl g p) s = .next (u.replied .sl ⟨0x38#8, g, p⟩ .accept [])
        ∧ (u.face f).mode = { m with latch := true } ∧ (u.face f).clp.value = false ∧ (u.face f).clp.emergency = true
        ∧ u.berth f = b ∧ u.outside f = v.outside f
        ∧ (s.startQueueLaw f → s.emergencyOpens f u ∧ u.emergencyLaw f))) ∧
    (s.ready .sl ⟨0x39#8, g, p⟩ = true →
      (m.eoi = true → exec (.emergencyClear .sl g p) s = .next (v.replied .sl ⟨0x39#8, g, p⟩ .eoiActive [])) ∧
      (m.eoi = false → m.latch = false →
        exec (.emergencyClear .sl g p) s = .next (v.replied .sl ⟨0x39#8, g, p⟩ .accept [])) ∧
      (m.eoi = false → ∃ u : State,
        exec (.emergencyClear .sl g p) s = .next (u.replied .sl ⟨0x39#8, g, p⟩ .accept [])
        ∧ (u.face f).mode = { m with latch := false } ∧ u.side f = (s.mapMode f (fun x => { x with latch := false })).side f
        ∧ u.outside f = v.outside f
        ∧ ((∀ j, s.isFitted f j = true → (s.door f j).state ≠ some .released) →
            (u.face f).doors = (s.face f).doors ∧ (u.face f).groups = (s.face f).groups)) ∧
      (m.eoi = false → m.latch = true → s.startQueueLaw f →
        let w := s.mapMode f (fun x => { x with latch := false })
        let waits (j : DoorIx) : Prop :=
          s.isFitted f j = true ∧ (s.door f j).state = some .released ∧ (s.input f j).mrh = false
        ∃ u : State, exec (.emergencyClear .sl g p) s = .next (u.replied .sl ⟨0x39#8, g, p⟩ .accept [])
        ∧ (u.face f).groups = (s.face f).groups
        ∧ (∀ j, waits j → u.door f j = w.resolvedRec f j (s.input f j))
        ∧ ∀ j, ¬waits j → u.unit f j = s.unit f j))

/-! ### Laws that every step keeps -/

/-- R123, R127, R128: the law of the mode, the keyswitch and the saved mode of both faces is kept by every step. -/
def Obligations.StepsKeepTheModeLaw : Prop :=
  ∀ s t : State, (∀ f, s.modeLaw f) → step s = .next t → ∀ f, t.modeLaw f

/-- R19: the law of leaving LOCKED, over every step. A door unit in LOCKED stays there or goes to RELEASED or FAULT, or
loses its state at a start or a geometry write (R5, R27), unless it leaves toward open. One in LOCKED or LOCKING that is
then UNLATCHING, UNLATCHED or OPENING had the permission of one of the four cases: served at a STOPPED berth with release in
force in AUTOMATIC or SUPERVISED, the emergency latch, LOCAL-OPEN with the berth not EMPTY, or possession in MAINTENANCE
with the berth EMPTY. The permission is read in the state after the step, which takes nothing of it back. The premise is the
law of the Start Queues (R30). -/
def Obligations.StepsLeaveLockedOnlyWithPermission : Prop :=
  ∀ s t : State, (∀ f, s.startQueueLaw f) → step s = .next t → ∀ (f : Face) (j : DoorIx),
    let before := (s.door f j).state
    let after := (t.door f j).state
    let toward := after = some .unlatching ∨ after = some .unlatched ∨ after = some .opening
    (before = some .locked ∨ before = some .locking → toward → t.mayLeaveLocked f j) ∧
    (before = some .locked →
      toward ∨ after = some .locked ∨ after = some .released ∨ after = some .fault ∨ after = none)

/-- R133: every step keeps the law that under the emergency latch of a face no door unit is in CLOSE_WAIT, CLOSING, RECLOSE_HOLD
or LOCKING, and with it that no door unit on its way to open has pending close set and every reversal is one by request. The law
holds also where the step sets the latch. The other premise is the law of the Start Queues (R25, R30). -/
def Obligations.StepsKeepTheEmergencyLaw : Prop :=
  ∀ s t : State, (∀ f, s.startQueueLaw f ∧ s.emergencyLaw f) → step s = .next t → ∀ f, t.emergencyLaw f

/-- R21: every step keeps the law that reclose attempts never exceed reclose_max and that a door unit is in OBSTRUCTED only
while they equal it. With it stand what keeps it: R7: attempts of 0 in LOCKED, OPEN, RELEASED and FAULT; fewer than
reclose_max in every other state but a reversal by obstruction and OBSTRUCTED; R68: a reclose_max of at least 1 in every
copy of the configuration. The other premise is the law of the Start Queues (R5, R30). -/
def Obligations.StepsKeepTheRecloseLaw : Prop :=
  ∀ s t : State, (∀ f, s.startQueueLaw f ∧ s.recloseLaw f) → step s = .next t → ∀ f, t.recloseLaw f

/-- R155, R160, R161: every step keeps the receive queues within four frames and the Report Queues within 64 records, with
no flush count above the records held. -/
def Obligations.StepsKeepTheQueueBounds : Prop := ∀ s t : State, s.linkLaw → step s = .next t → t.linkLaw

/-- R104: every step keeps the Door Map of each face empty unless its berth is STOPPED with grade FULL or PARTIAL. -/
def Obligations.StepsKeepTheDoorMapLaw : Prop :=
  ∀ s t : State, (∀ f, s.mapLaw f) → step s = .next t → ∀ f, t.mapLaw f

/-- R119, R120, R122: every step keeps CLP of each face at what the law of R119 gives from the states of its fitted door
units and gap zones, the emergency latch, the berth and CONFIG_INVALID, with a withholding cause for each condition that
fails and the two counts; before the first complete scan it is withheld. -/
def Obligations.StepsKeepTheClpLaw : Prop :=
  ∀ s t : State, (∀ f, s.clpLaw f) → step s = .next t → ∀ f, t.clpLaw f ∧
    let x := (t.face f).clp
    let open_ (j : DoorIx) : Prop := t.isFitted f j = true ∧ (t.door f j).state ≠ some .locked
    let held (j : DoorIx) : Prop := t.isFitted f j = true ∧
      ((t.sense f j).zone = .occupied ∨ (t.sense f j).zone = .clearing ∨ (t.sense f j).zone = .latched)
    (t.scanDone = false → x.value = false) ∧
    (t.scanDone = true →
      (x.value = true ↔ t.configInvalid = false ∧ (∀ j, ¬open_ j) ∧ (∀ j, ¬held j) ∧ (t.face f).mode.latch = false
        ∧ (t.berth f).state ≠ .movedFault) ∧
      (x.config = true ↔ t.configInvalid = true) ∧ (x.door = true ↔ ∃ j, open_ j) ∧ (x.gap = true ↔ ∃ j, held j) ∧
      (x.emergency = true ↔ (t.face f).mode.latch = true) ∧ (x.moved = true ↔ (t.berth f).state = .movedFault) ∧
      (∀ js : List DoorIx, js.Nodup → (∀ j, j ∈ js ↔ open_ j) → x.notLocked = js.length) ∧
      (∀ js : List DoorIx, js.Nodup → (∀ j, j ∈ js ↔ held j) → x.zones = js.length))

/-- The laws of the whole controller hold in the state after reset, those of the Start Queues
(R30), of the emergency latch (R133) and of reclosing (R21) among them. The values that the spec does not state are those
of log 9. -/
def Obligations.ResetMeetsTheLaws : Prop :=
  (∀ f, State.reset.modeLaw f ∧ State.reset.mapLaw f ∧ State.reset.clpLaw f ∧ State.reset.startQueueLaw f
    ∧ State.reset.emergencyLaw f ∧ State.reset.recloseLaw f) ∧ State.reset.linkLaw
    ∧ State.reset.notices = [] ∧ State.reset.pending = []

/-! ### Layouts -/

/-- R64, R70, R71, R138, R168: the layouts in which a Face Geometry, a car profile, a unit profile and a descriptor are
written and read back agree, whatever values their fields hold within their ranges; the records of a geometry above its
count are blank. That an EXPLICIT mask of all ones and a mark of 0xFF are values and no absent markers is log 20. That a
SERVED selection, to which R137 gives no mask, keeps the mask carried and reads it back is the model's choice (log 47). -/
def Obligations.ConfigurationLayoutsRoundTrip : Prop :=
  (∀ (f : Face) (g : Geometry), 1 ≤ g.n → g.n ≤ 32 → 20 ≤ g.pitch → g.pitch ≤ 100 → g.pitch % 2 = 0 →
     -60000 ≤ g.ab1 → g.ab1 ≤ -1000 → -30000 ≤ g.ab2 → g.ab2 ≤ -500 → 50 ≤ g.tolerance → g.tolerance ≤ 600 →
     (∀ j : Fin 32, (g.doors[j]).centre ≤ 250000) → (∀ j : Fin 32, g.n ≤ j.val → g.doors[j] = GeoDoor.blank) →
     readGeometry (geometryBytes f g) = some g ∧ (geometryBytes f g).length = 12 + 6 * g.n
       ∧ byteAt (geometryBytes f g) 1 = g.n ∧ faceOf (byteAt (geometryBytes f g) 0) = some f) ∧
  ((∀ (i : Fin 24) (c : CarProfile), 8000 ≤ c.length → c.length ≤ 30000 → 1 ≤ c.offsets.length → c.offsets.length ≤ 5 →
     increasing c.offsets = true → (∀ o ∈ c.offsets, 500 ≤ o ∧ o ≤ c.length - 500) →
     readCar (carBytes i (some c)) = some c ∧ (carBytes i (some c)).length = 15) ∧
   (∀ (i : Fin 16) (u : UnitProfile), 1 ≤ u.cars.length → u.cars.length ≤ 8 → u.allowance ≤ 2000 →
     readUnit (unitBytes i (some u)) = some u ∧ (unitBytes i (some u)).length = 13) ∧
   (∀ (i : Fin 96) (d : Descriptor) (limit : Nat), d.hold ≤ 60000 → d.limit ≤ 120000 → limit ≤ 32 →
     (d.selection.kind = .sections → d.selection.mask.toNat < 2 ^ 8) →
     (d.selection.kind = .explicit → d.selection.mask.toNat < 2 ^ limit) →
     readDescriptor limit (descriptorBytes i (some d)) = some (d, false) ∧ (descriptorBytes i (some d)).length = 18))
end

