-- ==== Sys2Proof/Laws/State.lean ====
section
/-! SUPPORT. What each named update of the state leaves and gives, one lemma for each field. -/

namespace Sys2Proof.Machine

variable (s : State) (f g : Face) (l k : Link) (j i : DoorIx)

/-! ### Vectors -/

@[simp] theorem put_get_same {α : Type} {n : Nat} (v : Vector α n) (i : Fin n) (x : α) :
    (put v i x)[i.val] = x := by simp [put]

theorem put_get_other {α : Type} {n : Nat} (v : Vector α n) {i k : Fin n} (x : α) (h : k ≠ i) :
    (put v i x)[k.val] = v[k.val] := by
  have : i.val ≠ k.val := fun e => h (Fin.ext e.symm)
  simp [put, Vector.getElem_set_ne, this]

theorem put_get {α : Type} {n : Nat} (v : Vector α n) (i k : Fin n) (x : α) :
    (put v i x)[k.val] = if k = i then x else v[k.val] := by
  split
  · next h => subst h; simp
  · next h => exact put_get_other v x h

@[simp] theorem put_same {α : Type} {n : Nat} (v : Vector α n) (i : Fin n) : put v i v[i.val] = v := by
  ext k hk
  simp only [put, Vector.getElem_set]
  split
  · next h => subst h; rfl
  · rfl

/-! ### Faces and links -/

@[simp] theorem mapFace_powered (h : FaceState → FaceState) : (s.mapFace f h).powered = s.powered := by cases f <;> rfl

@[simp] theorem mapFace_msClock (h : FaceState → FaceState) : (s.mapFace f h).msClock = s.msClock := by cases f <;> rfl

@[simp] theorem mapFace_usClock (h : FaceState → FaceState) : (s.mapFace f h).usClock = s.usClock := by cases f <;> rfl
@[simp] theorem mapFace_usPhase (h : FaceState → FaceState) : (s.mapFace f h).usPhase = s.usPhase := by cases f <;> rfl

@[simp] theorem mapFace_scanDone (h : FaceState → FaceState) : (s.mapFace f h).scanDone = s.scanDone := by cases f <;> rfl

@[simp] theorem mapFace_scanPhase (h : FaceState → FaceState) : (s.mapFace f h).scanPhase = s.scanPhase := by cases f <;> rfl

@[simp] theorem mapFace_fieldOut (h : FaceState → FaceState) : (s.mapFace f h).fieldOut = s.fieldOut := by cases f <;> rfl

@[simp] theorem mapFace_maint (h : FaceState → FaceState) : (s.mapFace f h).maint = s.maint := by cases f <;> rfl

@[simp] theorem mapFace_config (h : FaceState → FaceState) : (s.mapFace f h).config = s.config := by cases f <;> rfl

@[simp] theorem mapFace_configInvalid (h : FaceState → FaceState) : (s.mapFace f h).configInvalid = s.configInvalid := by cases f <;> rfl

@[simp] theorem mapFace_storedGen (h : FaceState → FaceState) : (s.mapFace f h).storedGen = s.storedGen := by cases f <;> rfl

@[simp] theorem mapFace_storedCrc (h : FaceState → FaceState) : (s.mapFace f h).storedCrc = s.storedCrc := by cases f <;> rfl

@[simp] theorem mapFace_resetCause (h : FaceState → FaceState) : (s.mapFace f h).resetCause = s.resetCause := by cases f <;> rfl

@[simp] theorem mapFace_commit (h : FaceState → FaceState) : (s.mapFace f h).commit = s.commit := by cases f <;> rfl

@[simp] theorem mapFace_nv (h : FaceState → FaceState) : (s.mapFace f h).nv = s.nv := by cases f <;> rfl

@[simp] theorem mapFace_speedSl (h : FaceState → FaceState) : (s.mapFace f h).speedSl = s.speedSl := by cases f <;> rfl

@[simp] theorem mapFace_speedIl (h : FaceState → FaceState) : (s.mapFace f h).speedIl = s.speedIl := by cases f <;> rfl

@[simp] theorem mapFace_sl (h : FaceState → FaceState) : (s.mapFace f h).sl = s.sl := by cases f <;> rfl

@[simp] theorem mapFace_il (h : FaceState → FaceState) : (s.mapFace f h).il = s.il := by cases f <;> rfl

@[simp] theorem mapFace_silence (h : FaceState → FaceState) : (s.mapFace f h).silence = s.silence := by cases f <;> rfl

@[simp] theorem mapFace_ilLost (h : FaceState → FaceState) : (s.mapFace f h).ilLost = s.ilLost := by cases f <;> rfl

@[simp] theorem mapFace_notices (h : FaceState → FaceState) : (s.mapFace f h).notices = s.notices := by cases f <;> rfl

@[simp] theorem mapFace_freeCount (h : FaceState → FaceState) : (s.mapFace f h).freeCount = s.freeCount := by cases f <;> rfl

@[simp] theorem mapFace_pending (h : FaceState → FaceState) : (s.mapFace f h).pending = s.pending := by cases f <;> rfl

@[simp] theorem mapFace_face (h : FaceState → FaceState) : (s.mapFace f h).face f = h (s.face f) := by cases f <;> rfl

theorem mapFace_face_other (h : FaceState → FaceState) (e : g ≠ f) : (s.mapFace f h).face g = s.face g := by
  cases f <;> cases g <;> first | rfl | exact absurd rfl e

@[simp] theorem mapFace_link (h : FaceState → FaceState) : (s.mapFace f h).link l = s.link l := by cases f <;> cases l <;> rfl

@[simp] theorem mapLink_powered (h : LinkState → LinkState) : (s.mapLink l h).powered = s.powered := by cases l <;> rfl

@[simp] theorem mapLink_msClock (h : LinkState → LinkState) : (s.mapLink l h).msClock = s.msClock := by cases l <;> rfl

@[simp] theorem mapLink_usClock (h : LinkState → LinkState) : (s.mapLink l h).usClock = s.usClock := by cases l <;> rfl
@[simp] theorem mapLink_usPhase (h : LinkState → LinkState) : (s.mapLink l h).usPhase = s.usPhase := by cases l <;> rfl

@[simp] theorem mapLink_scanDone (h : LinkState → LinkState) : (s.mapLink l h).scanDone = s.scanDone := by cases l <;> rfl

@[simp] theorem mapLink_scanPhase (h : LinkState → LinkState) : (s.mapLink l h).scanPhase = s.scanPhase := by cases l <;> rfl

@[simp] theorem mapLink_fieldOut (h : LinkState → LinkState) : (s.mapLink l h).fieldOut = s.fieldOut := by cases l <;> rfl

@[simp] theorem mapLink_maint (h : LinkState → LinkState) : (s.mapLink l h).maint = s.maint := by cases l <;> rfl

@[simp] theorem mapLink_config (h : LinkState → LinkState) : (s.mapLink l h).config = s.config := by cases l <;> rfl

@[simp] theorem mapLink_configInvalid (h : LinkState → LinkState) : (s.mapLink l h).configInvalid = s.configInvalid := by cases l <;> rfl

@[simp] theorem mapLink_storedGen (h : LinkState → LinkState) : (s.mapLink l h).storedGen = s.storedGen := by cases l <;> rfl

@[simp] theorem mapLink_storedCrc (h : LinkState → LinkState) : (s.mapLink l h).storedCrc = s.storedCrc := by cases l <;> rfl

@[simp] theorem mapLink_resetCause (h : LinkState → LinkState) : (s.mapLink l h).resetCause = s.resetCause := by cases l <;> rfl

@[simp] theorem mapLink_commit (h : LinkState → LinkState) : (s.mapLink l h).commit = s.commit := by cases l <;> rfl

@[simp] theorem mapLink_nv (h : LinkState → LinkState) : (s.mapLink l h).nv = s.nv := by cases l <;> rfl

@[simp] theorem mapLink_speedSl (h : LinkState → LinkState) : (s.mapLink l h).speedSl = s.speedSl := by cases l <;> rfl

@[simp] theorem mapLink_speedIl (h : LinkState → LinkState) : (s.mapLink l h).speedIl = s.speedIl := by cases l <;> rfl

@[simp] theorem mapLink_f0 (h : LinkState → LinkState) : (s.mapLink l h).f0 = s.f0 := by cases l <;> rfl

@[simp] theorem mapLink_f1 (h : LinkState → LinkState) : (s.mapLink l h).f1 = s.f1 := by cases l <;> rfl

@[simp] theorem mapLink_silence (h : LinkState → LinkState) : (s.mapLink l h).silence = s.silence := by cases l <;> rfl

@[simp] theorem mapLink_ilLost (h : LinkState → LinkState) : (s.mapLink l h).ilLost = s.ilLost := by cases l <;> rfl

@[simp] theorem mapLink_notices (h : LinkState → LinkState) : (s.mapLink l h).notices = s.notices := by cases l <;> rfl

@[simp] theorem mapLink_freeCount (h : LinkState → LinkState) : (s.mapLink l h).freeCount = s.freeCount := by cases l <;> rfl

@[simp] theorem mapLink_pending (h : LinkState → LinkState) : (s.mapLink l h).pending = s.pending := by cases l <;> rfl

@[simp] theorem mapLink_link (h : LinkState → LinkState) : (s.mapLink l h).link l = h (s.link l) := by cases l <;> rfl

theorem mapLink_link_other (h : LinkState → LinkState) (e : k ≠ l) : (s.mapLink l h).link k = s.link k := by
  cases l <;> cases k <;> first | rfl | exact absurd rfl e

@[simp] theorem mapLink_face (h : LinkState → LinkState) : (s.mapLink l h).face f = s.face f := by cases l <;> cases f <;> rfl

@[simp] theorem mapConfig_powered (h : WorkingCopy → WorkingCopy) : (s.mapConfig h).powered = s.powered := rfl

@[simp] theorem mapConfig_msClock (h : WorkingCopy → WorkingCopy) : (s.mapConfig h).msClock = s.msClock := rfl

@[simp] theorem mapConfig_usClock (h : WorkingCopy → WorkingCopy) : (s.mapConfig h).usClock = s.usClock := rfl
@[simp] theorem mapConfig_usPhase (h : WorkingCopy → WorkingCopy) : (s.mapConfig h).usPhase = s.usPhase := rfl

@[simp] theorem mapConfig_scanDone (h : WorkingCopy → WorkingCopy) : (s.mapConfig h).scanDone = s.scanDone := rfl

@[simp] theorem mapConfig_scanPhase (h : WorkingCopy → WorkingCopy) : (s.mapConfig h).scanPhase = s.scanPhase := rfl

@[simp] theorem mapConfig_fieldOut (h : WorkingCopy → WorkingCopy) : (s.mapConfig h).fieldOut = s.fieldOut := rfl

@[simp] theorem mapConfig_maint (h : WorkingCopy → WorkingCopy) : (s.mapConfig h).maint = s.maint := rfl

@[simp] theorem mapConfig_configInvalid (h : WorkingCopy → WorkingCopy) : (s.mapConfig h).configInvalid = s.configInvalid := rfl

@[simp] theorem mapConfig_storedGen (h : WorkingCopy → WorkingCopy) : (s.mapConfig h).storedGen = s.storedGen := rfl

@[simp] theorem mapConfig_storedCrc (h : WorkingCopy → WorkingCopy) : (s.mapConfig h).storedCrc = s.storedCrc := rfl

@[simp] theorem mapConfig_resetCause (h : WorkingCopy → WorkingCopy) : (s.mapConfig h).resetCause = s.resetCause := rfl

@[simp] theorem mapConfig_commit (h : WorkingCopy → WorkingCopy) : (s.mapConfig h).commit = s.commit := rfl

@[simp] theorem mapConfig_nv (h : WorkingCopy → WorkingCopy) : (s.mapConfig h).nv = s.nv := rfl

@[simp] theorem mapConfig_speedSl (h : WorkingCopy → WorkingCopy) : (s.mapConfig h).speedSl = s.speedSl := rfl

@[simp] theorem mapConfig_speedIl (h : WorkingCopy → WorkingCopy) : (s.mapConfig h).speedIl = s.speedIl := rfl

@[simp] theorem mapConfig_f0 (h : WorkingCopy → WorkingCopy) : (s.mapConfig h).f0 = s.f0 := rfl

@[simp] theorem mapConfig_f1 (h : WorkingCopy → WorkingCopy) : (s.mapConfig h).f1 = s.f1 := rfl

@[simp] theorem mapConfig_sl (h : WorkingCopy → WorkingCopy) : (s.mapConfig h).sl = s.sl := rfl

@[simp] theorem mapConfig_il (h : WorkingCopy → WorkingCopy) : (s.mapConfig h).il = s.il := rfl

@[simp] theorem mapConfig_silence (h : WorkingCopy → WorkingCopy) : (s.mapConfig h).silence = s.silence := rfl

@[simp] theorem mapConfig_ilLost (h : WorkingCopy → WorkingCopy) : (s.mapConfig h).ilLost = s.ilLost := rfl

@[simp] theorem mapConfig_notices (h : WorkingCopy → WorkingCopy) : (s.mapConfig h).notices = s.notices := rfl

@[simp] theorem mapConfig_freeCount (h : WorkingCopy → WorkingCopy) : (s.mapConfig h).freeCount = s.freeCount := rfl

@[simp] theorem mapConfig_pending (h : WorkingCopy → WorkingCopy) : (s.mapConfig h).pending = s.pending := rfl

@[simp] theorem mapConfig_config (h : WorkingCopy → WorkingCopy) : (s.mapConfig h).config = h s.config := rfl

@[simp] theorem mapConfig_face (h : WorkingCopy → WorkingCopy) : (s.mapConfig h).face f = s.face f := by cases f <;> rfl

@[simp] theorem mapConfig_link (h : WorkingCopy → WorkingCopy) : (s.mapConfig h).link l = s.link l := by cases l <;> rfl

@[simp] theorem tell_powered (n : Notice) : (s.tell n).powered = s.powered := rfl

@[simp] theorem tell_msClock (n : Notice) : (s.tell n).msClock = s.msClock := rfl

@[simp] theorem tell_usClock (n : Notice) : (s.tell n).usClock = s.usClock := rfl
@[simp] theorem tell_usPhase (n : Notice) : (s.tell n).usPhase = s.usPhase := rfl

@[simp] theorem tell_scanDone (n : Notice) : (s.tell n).scanDone = s.scanDone := rfl

@[simp] theorem tell_scanPhase (n : Notice) : (s.tell n).scanPhase = s.scanPhase := rfl

@[simp] theorem tell_fieldOut (n : Notice) : (s.tell n).fieldOut = s.fieldOut := rfl

@[simp] theorem tell_maint (n : Notice) : (s.tell n).maint = s.maint := rfl

@[simp] theorem tell_config (n : Notice) : (s.tell n).config = s.config := rfl

@[simp] theorem tell_configInvalid (n : Notice) : (s.tell n).configInvalid = s.configInvalid := rfl

@[simp] theorem tell_storedGen (n : Notice) : (s.tell n).storedGen = s.storedGen := rfl

@[simp] theorem tell_storedCrc (n : Notice) : (s.tell n).storedCrc = s.storedCrc := rfl

@[simp] theorem tell_resetCause (n : Notice) : (s.tell n).resetCause = s.resetCause := rfl

@[simp] theorem tell_commit (n : Notice) : (s.tell n).commit = s.commit := rfl

@[simp] theorem tell_nv (n : Notice) : (s.tell n).nv = s.nv := rfl

@[simp] theorem tell_speedSl (n : Notice) : (s.tell n).speedSl = s.speedSl := rfl

@[simp] theorem tell_speedIl (n : Notice) : (s.tell n).speedIl = s.speedIl := rfl

@[simp] theorem tell_f0 (n : Notice) : (s.tell n).f0 = s.f0 := rfl

@[simp] theorem tell_f1 (n : Notice) : (s.tell n).f1 = s.f1 := rfl

@[simp] theorem tell_sl (n : Notice) : (s.tell n).sl = s.sl := rfl

@[simp] theorem tell_il (n : Notice) : (s.tell n).il = s.il := rfl

@[simp] theorem tell_silence (n : Notice) : (s.tell n).silence = s.silence := rfl

@[simp] theorem tell_ilLost (n : Notice) : (s.tell n).ilLost = s.ilLost := rfl

@[simp] theorem tell_freeCount (n : Notice) : (s.tell n).freeCount = s.freeCount := rfl

@[simp] theorem tell_pending (n : Notice) : (s.tell n).pending = s.pending := rfl

@[simp] theorem tell_notices (n : Notice) : (s.tell n).notices = s.notices ++ [n] := rfl

@[simp] theorem tell_face (n : Notice) : (s.tell n).face f = s.face f := by cases f <;> rfl

@[simp] theorem tell_link (n : Notice) : (s.tell n).link l = s.link l := by cases l <;> rfl

/-! ### Parts of a face -/

@[simp] theorem mapDoor_powered (h : DoorRec → DoorRec) : (s.mapDoor f j h).powered = s.powered := by cases f <;> rfl

@[simp] theorem mapDoor_msClock (h : DoorRec → DoorRec) : (s.mapDoor f j h).msClock = s.msClock := by cases f <;> rfl

@[simp] theorem mapDoor_usClock (h : DoorRec → DoorRec) : (s.mapDoor f j h).usClock = s.usClock := by cases f <;> rfl
@[simp] theorem mapDoor_usPhase (h : DoorRec → DoorRec) : (s.mapDoor f j h).usPhase = s.usPhase := by cases f <;> rfl

@[simp] theorem mapDoor_scanDone (h : DoorRec → DoorRec) : (s.mapDoor f j h).scanDone = s.scanDone := by cases f <;> rfl

@[simp] theorem mapDoor_scanPhase (h : DoorRec → DoorRec) : (s.mapDoor f j h).scanPhase = s.scanPhase := by cases f <;> rfl

@[simp] theorem mapDoor_fieldOut (h : DoorRec → DoorRec) : (s.mapDoor f j h).fieldOut = s.fieldOut := by cases f <;> rfl

@[simp] theorem mapDoor_maint (h : DoorRec → DoorRec) : (s.mapDoor f j h).maint = s.maint := by cases f <;> rfl

@[simp] theorem mapDoor_config (h : DoorRec → DoorRec) : (s.mapDoor f j h).config = s.config := by cases f <;> rfl

@[simp] theorem mapDoor_configInvalid (h : DoorRec → DoorRec) : (s.mapDoor f j h).configInvalid = s.configInvalid := by cases f <;> rfl

@[simp] theorem mapDoor_storedGen (h : DoorRec → DoorRec) : (s.mapDoor f j h).storedGen = s.storedGen := by cases f <;> rfl

@[simp] theorem mapDoor_storedCrc (h : DoorRec → DoorRec) : (s.mapDoor f j h).storedCrc = s.storedCrc := by cases f <;> rfl

@[simp] theorem mapDoor_resetCause (h : DoorRec → DoorRec) : (s.mapDoor f j h).resetCause = s.resetCause := by cases f <;> rfl

@[simp] theorem mapDoor_commit (h : DoorRec → DoorRec) : (s.mapDoor f j h).commit = s.commit := by cases f <;> rfl

@[simp] theorem mapDoor_nv (h : DoorRec → DoorRec) : (s.mapDoor f j h).nv = s.nv := by cases f <;> rfl

@[simp] theorem mapDoor_speedSl (h : DoorRec → DoorRec) : (s.mapDoor f j h).speedSl = s.speedSl := by cases f <;> rfl

@[simp] theorem mapDoor_speedIl (h : DoorRec → DoorRec) : (s.mapDoor f j h).speedIl = s.speedIl := by cases f <;> rfl

@[simp] theorem mapDoor_sl (h : DoorRec → DoorRec) : (s.mapDoor f j h).sl = s.sl := by cases f <;> rfl

@[simp] theorem mapDoor_il (h : DoorRec → DoorRec) : (s.mapDoor f j h).il = s.il := by cases f <;> rfl

@[simp] theorem mapDoor_silence (h : DoorRec → DoorRec) : (s.mapDoor f j h).silence = s.silence := by cases f <;> rfl

@[simp] theorem mapDoor_ilLost (h : DoorRec → DoorRec) : (s.mapDoor f j h).ilLost = s.ilLost := by cases f <;> rfl

@[simp] theorem mapDoor_notices (h : DoorRec → DoorRec) : (s.mapDoor f j h).notices = s.notices := by cases f <;> rfl

@[simp] theorem mapDoor_freeCount (h : DoorRec → DoorRec) : (s.mapDoor f j h).freeCount = s.freeCount := by cases f <;> rfl

@[simp] theorem mapDoor_pending (h : DoorRec → DoorRec) : (s.mapDoor f j h).pending = s.pending := by cases f <;> rfl

@[simp] theorem mapDoor_link (h : DoorRec → DoorRec) : (s.mapDoor f j h).link l = s.link l := by cases f <;> cases l <;> rfl

theorem mapDoor_face_other (h : DoorRec → DoorRec) (e : g ≠ f) : (s.mapDoor f j h).face g = s.face g := mapFace_face_other s f g _ e

@[simp] theorem mapDoor_face_inputs (h : DoorRec → DoorRec) : ((s.mapDoor f j h).face g).inputs = (s.face g).inputs := by
  cases f <;> cases g <;> rfl

@[simp] theorem mapDoor_face_sense (h : DoorRec → DoorRec) : ((s.mapDoor f j h).face g).sense = (s.face g).sense := by
  cases f <;> cases g <;> rfl

@[simp] theorem mapDoor_face_groups (h : DoorRec → DoorRec) : ((s.mapDoor f j h).face g).groups = (s.face g).groups := by
  cases f <;> cases g <;> rfl

@[simp] theorem mapDoor_face_boarding (h : DoorRec → DoorRec) : ((s.mapDoor f j h).face g).boarding = (s.face g).boarding := by
  cases f <;> cases g <;> rfl

@[simp] theorem mapDoor_face_alighting (h : DoorRec → DoorRec) : ((s.mapDoor f j h).face g).alighting = (s.face g).alighting := by
  cases f <;> cases g <;> rfl

@[simp] theorem mapDoor_face_quiet (h : DoorRec → DoorRec) : ((s.mapDoor f j h).face g).quiet = (s.face g).quiet := by
  cases f <;> cases g <;> rfl

@[simp] theorem mapDoor_face_quietTimer (h : DoorRec → DoorRec) : ((s.mapDoor f j h).face g).quietTimer = (s.face g).quietTimer := by
  cases f <;> cases g <;> rfl

@[simp] theorem mapDoor_face_ring (h : DoorRec → DoorRec) : ((s.mapDoor f j h).face g).ring = (s.face g).ring := by
  cases f <;> cases g <;> rfl

@[simp] theorem mapDoor_face_newest (h : DoorRec → DoorRec) : ((s.mapDoor f j h).face g).newest = (s.face g).newest := by
  cases f <;> cases g <;> rfl

@[simp] theorem mapDoor_face_beams (h : DoorRec → DoorRec) : ((s.mapDoor f j h).face g).beams = (s.face g).beams := by
  cases f <;> cases g <;> rfl

@[simp] theorem mapDoor_face_berth (h : DoorRec → DoorRec) : ((s.mapDoor f j h).face g).berth = (s.face g).berth := by
  cases f <;> cases g <;> rfl

@[simp] theorem mapDoor_face_align (h : DoorRec → DoorRec) : ((s.mapDoor f j h).face g).align = (s.face g).align := by
  cases f <;> cases g <;> rfl

@[simp] theorem mapDoor_face_clp (h : DoorRec → DoorRec) : ((s.mapDoor f j h).face g).clp = (s.face g).clp := by
  cases f <;> cases g <;> rfl

@[simp] theorem mapDoor_face_mode (h : DoorRec → DoorRec) : ((s.mapDoor f j h).face g).mode = (s.face g).mode := by
  cases f <;> cases g <;> rfl

@[simp] theorem mapDoor_face_engine (h : DoorRec → DoorRec) : ((s.mapDoor f j h).face g).engine = (s.face g).engine := by
  cases f <;> cases g <;> rfl

@[simp] theorem mapDoor_face_doors (h : DoorRec → DoorRec) : ((s.mapDoor f j h).face f).doors = put (s.face f).doors j (h (s.face f).doors[j]) := by cases f <;> rfl

@[simp] theorem mapDoor_door (h : DoorRec → DoorRec) : (s.mapDoor f j h).door f j = h (s.door f j) := by
  cases f <;> simp [State.door, State.mapDoor, State.mapFace, State.face]

theorem mapDoor_door_other (h : DoorRec → DoorRec) {q : DoorIx} (e : q ≠ j) : (s.mapDoor f j h).door f q = s.door f q := by
  cases f <;> exact put_get_other _ _ e

@[simp] theorem mapInput_powered (h : DoorInputs → DoorInputs) : (s.mapInput f j h).powered = s.powered := by cases f <;> rfl

@[simp] theorem mapInput_msClock (h : DoorInputs → DoorInputs) : (s.mapInput f j h).msClock = s.msClock := by cases f <;> rfl

@[simp] theorem mapInput_usClock (h : DoorInputs → DoorInputs) : (s.mapInput f j h).usClock = s.usClock := by cases f <;> rfl
@[simp] theorem mapInput_usPhase (h : DoorInputs → DoorInputs) : (s.mapInput f j h).usPhase = s.usPhase := by cases f <;> rfl

@[simp] theorem mapInput_scanDone (h : DoorInputs → DoorInputs) : (s.mapInput f j h).scanDone = s.scanDone := by cases f <;> rfl

@[simp] theorem mapInput_scanPhase (h : DoorInputs → DoorInputs) : (s.mapInput f j h).scanPhase = s.scanPhase := by cases f <;> rfl

@[simp] theorem mapInput_fieldOut (h : DoorInputs → DoorInputs) : (s.mapInput f j h).fieldOut = s.fieldOut := by cases f <;> rfl

@[simp] theorem mapInput_maint (h : DoorInputs → DoorInputs) : (s.mapInput f j h).maint = s.maint := by cases f <;> rfl

@[simp] theorem mapInput_config (h : DoorInputs → DoorInputs) : (s.mapInput f j h).config = s.config := by cases f <;> rfl

@[simp] theorem mapInput_configInvalid (h : DoorInputs → DoorInputs) : (s.mapInput f j h).configInvalid = s.configInvalid := by cases f <;> rfl

@[simp] theorem mapInput_storedGen (h : DoorInputs → DoorInputs) : (s.mapInput f j h).storedGen = s.storedGen := by cases f <;> rfl

@[simp] theorem mapInput_storedCrc (h : DoorInputs → DoorInputs) : (s.mapInput f j h).storedCrc = s.storedCrc := by cases f <;> rfl

@[simp] theorem mapInput_resetCause (h : DoorInputs → DoorInputs) : (s.mapInput f j h).resetCause = s.resetCause := by cases f <;> rfl

@[simp] theorem mapInput_commit (h : DoorInputs → DoorInputs) : (s.mapInput f j h).commit = s.commit := by cases f <;> rfl

@[simp] theorem mapInput_nv (h : DoorInputs → DoorInputs) : (s.mapInput f j h).nv = s.nv := by cases f <;> rfl

@[simp] theorem mapInput_speedSl (h : DoorInputs → DoorInputs) : (s.mapInput f j h).speedSl = s.speedSl := by cases f <;> rfl

@[simp] theorem mapInput_speedIl (h : DoorInputs → DoorInputs) : (s.mapInput f j h).speedIl = s.speedIl := by cases f <;> rfl

@[simp] theorem mapInput_sl (h : DoorInputs → DoorInputs) : (s.mapInput f j h).sl = s.sl := by cases f <;> rfl

@[simp] theorem mapInput_il (h : DoorInputs → DoorInputs) : (s.mapInput f j h).il = s.il := by cases f <;> rfl

@[simp] theorem mapInput_silence (h : DoorInputs → DoorInputs) : (s.mapInput f j h).silence = s.silence := by cases f <;> rfl

@[simp] theorem mapInput_ilLost (h : DoorInputs → DoorInputs) : (s.mapInput f j h).ilLost = s.ilLost := by cases f <;> rfl

@[simp] theorem mapInput_notices (h : DoorInputs → DoorInputs) : (s.mapInput f j h).notices = s.notices := by cases f <;> rfl

@[simp] theorem mapInput_freeCount (h : DoorInputs → DoorInputs) : (s.mapInput f j h).freeCount = s.freeCount := by cases f <;> rfl

@[simp] theorem mapInput_pending (h : DoorInputs → DoorInputs) : (s.mapInput f j h).pending = s.pending := by cases f <;> rfl

@[simp] theorem mapInput_link (h : DoorInputs → DoorInputs) : (s.mapInput f j h).link l = s.link l := by cases f <;> cases l <;> rfl

theorem mapInput_face_other (h : DoorInputs → DoorInputs) (e : g ≠ f) : (s.mapInput f j h).face g = s.face g := mapFace_face_other s f g _ e

@[simp] theorem mapInput_face_doors (h : DoorInputs → DoorInputs) : ((s.mapInput f j h).face g).doors = (s.face g).doors := by
  cases f <;> cases g <;> rfl

@[simp] theorem mapInput_face_sense (h : DoorInputs → DoorInputs) : ((s.mapInput f j h).face g).sense = (s.face g).sense := by
  cases f <;> cases g <;> rfl

@[simp] theorem mapInput_face_groups (h : DoorInputs → DoorInputs) : ((s.mapInput f j h).face g).groups = (s.face g).groups := by
  cases f <;> cases g <;> rfl

@[simp] theorem mapInput_face_boarding (h : DoorInputs → DoorInputs) : ((s.mapInput f j h).face g).boarding = (s.face g).boarding := by
  cases f <;> cases g <;> rfl

@[simp] theorem mapInput_face_alighting (h : DoorInputs → DoorInputs) : ((s.mapInput f j h).face g).alighting = (s.face g).alighting := by
  cases f <;> cases g <;> rfl

@[simp] theorem mapInput_face_quiet (h : DoorInputs → DoorInputs) : ((s.mapInput f j h).face g).quiet = (s.face g).quiet := by
  cases f <;> cases g <;> rfl

@[simp] theorem mapInput_face_quietTimer (h : DoorInputs → DoorInputs) : ((s.mapInput f j h).face g).quietTimer = (s.face g).quietTimer := by
  cases f <;> cases g <;> rfl

@[simp] theorem mapInput_face_ring (h : DoorInputs → DoorInputs) : ((s.mapInput f j h).face g).ring = (s.face g).ring := by
  cases f <;> cases g <;> rfl

@[simp] theorem mapInput_face_newest (h : DoorInputs → DoorInputs) : ((s.mapInput f j h).face g).newest = (s.face g).newest := by
  cases f <;> cases g <;> rfl

@[simp] theorem mapInput_face_beams (h : DoorInputs → DoorInputs) : ((s.mapInput f j h).face g).beams = (s.face g).beams := by
  cases f <;> cases g <;> rfl

@[simp] theorem mapInput_face_berth (h : DoorInputs → DoorInputs) : ((s.mapInput f j h).face g).berth = (s.face g).berth := by
  cases f <;> cases g <;> rfl

@[simp] theorem mapInput_face_align (h : DoorInputs → DoorInputs) : ((s.mapInput f j h).face g).align = (s.face g).align := by
  cases f <;> cases g <;> rfl

@[simp] theorem mapInput_face_clp (h : DoorInputs → DoorInputs) : ((s.mapInput f j h).face g).clp = (s.face g).clp := by
  cases f <;> cases g <;> rfl

@[simp] theorem mapInput_face_mode (h : DoorInputs → DoorInputs) : ((s.mapInput f j h).face g).mode = (s.face g).mode := by
  cases f <;> cases g <;> rfl

@[simp] theorem mapInput_face_engine (h : DoorInputs → DoorInputs) : ((s.mapInput f j h).face g).engine = (s.face g).engine := by
  cases f <;> cases g <;> rfl

@[simp] theorem mapInput_face_inputs (h : DoorInputs → DoorInputs) : ((s.mapInput f j h).face f).inputs = put (s.face f).inputs j (h (s.face f).inputs[j]) := by cases f <;> rfl

@[simp] theorem mapInput_input (h : DoorInputs → DoorInputs) : (s.mapInput f j h).input f j = h (s.input f j) := by
  cases f <;> simp [State.input, State.mapInput, State.mapFace, State.face]

theorem mapInput_input_other (h : DoorInputs → DoorInputs) {q : DoorIx} (e : q ≠ j) : (s.mapInput f j h).input f q = s.input f q := by
  cases f <;> exact put_get_other _ _ e

@[simp] theorem mapSense_powered (h : DoorSense → DoorSense) : (s.mapSense f j h).powered = s.powered := by cases f <;> rfl

@[simp] theorem mapSense_msClock (h : DoorSense → DoorSense) : (s.mapSense f j h).msClock = s.msClock := by cases f <;> rfl

@[simp] theorem mapSense_usClock (h : DoorSense → DoorSense) : (s.mapSense f j h).usClock = s.usClock := by cases f <;> rfl
@[simp] theorem mapSense_usPhase (h : DoorSense → DoorSense) : (s.mapSense f j h).usPhase = s.usPhase := by cases f <;> rfl

@[simp] theorem mapSense_scanDone (h : DoorSense → DoorSense) : (s.mapSense f j h).scanDone = s.scanDone := by cases f <;> rfl

@[simp] theorem mapSense_scanPhase (h : DoorSense → DoorSense) : (s.mapSense f j h).scanPhase = s.scanPhase := by cases f <;> rfl

@[simp] theorem mapSense_fieldOut (h : DoorSense → DoorSense) : (s.mapSense f j h).fieldOut = s.fieldOut := by cases f <;> rfl

@[simp] theorem mapSense_maint (h : DoorSense → DoorSense) : (s.mapSense f j h).maint = s.maint := by cases f <;> rfl

@[simp] theorem mapSense_config (h : DoorSense → DoorSense) : (s.mapSense f j h).config = s.config := by cases f <;> rfl

@[simp] theorem mapSense_configInvalid (h : DoorSense → DoorSense) : (s.mapSense f j h).configInvalid = s.configInvalid := by cases f <;> rfl

@[simp] theorem mapSense_storedGen (h : DoorSense → DoorSense) : (s.mapSense f j h).storedGen = s.storedGen := by cases f <;> rfl

@[simp] theorem mapSense_storedCrc (h : DoorSense → DoorSense) : (s.mapSense f j h).storedCrc = s.storedCrc := by cases f <;> rfl

@[simp] theorem mapSense_resetCause (h : DoorSense → DoorSense) : (s.mapSense f j h).resetCause = s.resetCause := by cases f <;> rfl

@[simp] theorem mapSense_commit (h : DoorSense → DoorSense) : (s.mapSense f j h).commit = s.commit := by cases f <;> rfl

@[simp] theorem mapSense_nv (h : DoorSense → DoorSense) : (s.mapSense f j h).nv = s.nv := by cases f <;> rfl

@[simp] theorem mapSense_speedSl (h : DoorSense → DoorSense) : (s.mapSense f j h).speedSl = s.speedSl := by cases f <;> rfl

@[simp] theorem mapSense_speedIl (h : DoorSense → DoorSense) : (s.mapSense f j h).speedIl = s.speedIl := by cases f <;> rfl

@[simp] theorem mapSense_sl (h : DoorSense → DoorSense) : (s.mapSense f j h).sl = s.sl := by cases f <;> rfl

@[simp] theorem mapSense_il (h : DoorSense → DoorSense) : (s.mapSense f j h).il = s.il := by cases f <;> rfl

@[simp] theorem mapSense_silence (h : DoorSense → DoorSense) : (s.mapSense f j h).silence = s.silence := by cases f <;> rfl

@[simp] theorem mapSense_ilLost (h : DoorSense → DoorSense) : (s.mapSense f j h).ilLost = s.ilLost := by cases f <;> rfl

@[simp] theorem mapSense_notices (h : DoorSense → DoorSense) : (s.mapSense f j h).notices = s.notices := by cases f <;> rfl

@[simp] theorem mapSense_freeCount (h : DoorSense → DoorSense) : (s.mapSense f j h).freeCount = s.freeCount := by cases f <;> rfl

@[simp] theorem mapSense_pending (h : DoorSense → DoorSense) : (s.mapSense f j h).pending = s.pending := by cases f <;> rfl

@[simp] theorem mapSense_link (h : DoorSense → DoorSense) : (s.mapSense f j h).link l = s.link l := by cases f <;> cases l <;> rfl

theorem mapSense_face_other (h : DoorSense → DoorSense) (e : g ≠ f) : (s.mapSense f j h).face g = s.face g := mapFace_face_other s f g _ e

@[simp] theorem mapSense_face_doors (h : DoorSense → DoorSense) : ((s.mapSense f j h).face g).doors = (s.face g).doors := by
  cases f <;> cases g <;> rfl

@[simp] theorem mapSense_face_inputs (h : DoorSense → DoorSense) : ((s.mapSense f j h).face g).inputs = (s.face g).inputs := by
  cases f <;> cases g <;> rfl

@[simp] theorem mapSense_face_groups (h : DoorSense → DoorSense) : ((s.mapSense f j h).face g).groups = (s.face g).groups := by
  cases f <;> cases g <;> rfl

@[simp] theorem mapSense_face_boarding (h : DoorSense → DoorSense) : ((s.mapSense f j h).face g).boarding = (s.face g).boarding := by
  cases f <;> cases g <;> rfl

@[simp] theorem mapSense_face_alighting (h : DoorSense → DoorSense) : ((s.mapSense f j h).face g).alighting = (s.face g).alighting := by
  cases f <;> cases g <;> rfl

@[simp] theorem mapSense_face_quiet (h : DoorSense → DoorSense) : ((s.mapSense f j h).face g).quiet = (s.face g).quiet := by
  cases f <;> cases g <;> rfl

@[simp] theorem mapSense_face_quietTimer (h : DoorSense → DoorSense) : ((s.mapSense f j h).face g).quietTimer = (s.face g).quietTimer := by
  cases f <;> cases g <;> rfl

@[simp] theorem mapSense_face_ring (h : DoorSense → DoorSense) : ((s.mapSense f j h).face g).ring = (s.face g).ring := by
  cases f <;> cases g <;> rfl

@[simp] theorem mapSense_face_newest (h : DoorSense → DoorSense) : ((s.mapSense f j h).face g).newest = (s.face g).newest := by
  cases f <;> cases g <;> rfl

@[simp] theorem mapSense_face_beams (h : DoorSense → DoorSense) : ((s.mapSense f j h).face g).beams = (s.face g).beams := by
  cases f <;> cases g <;> rfl

@[simp] theorem mapSense_face_berth (h : DoorSense → DoorSense) : ((s.mapSense f j h).face g).berth = (s.face g).berth := by
  cases f <;> cases g <;> rfl

@[simp] theorem mapSense_face_align (h : DoorSense → DoorSense) : ((s.mapSense f j h).face g).align = (s.face g).align := by
  cases f <;> cases g <;> rfl

@[simp] theorem mapSense_face_clp (h : DoorSense → DoorSense) : ((s.mapSense f j h).face g).clp = (s.face g).clp := by
  cases f <;> cases g <;> rfl

@[simp] theorem mapSense_face_mode (h : DoorSense → DoorSense) : ((s.mapSense f j h).face g).mode = (s.face g).mode := by
  cases f <;> cases g <;> rfl

@[simp] theorem mapSense_face_engine (h : DoorSense → DoorSense) : ((s.mapSense f j h).face g).engine = (s.face g).engine := by
  cases f <;> cases g <;> rfl

@[simp] theorem mapSense_face_sense (h : DoorSense → DoorSense) : ((s.mapSense f j h).face f).sense = put (s.face f).sense j (h (s.face f).sense[j]) := by cases f <;> rfl

@[simp] theorem mapSense_sense (h : DoorSense → DoorSense) : (s.mapSense f j h).sense f j = h (s.sense f j) := by
  cases f <;> simp [State.sense, State.mapSense, State.mapFace, State.face]

theorem mapSense_sense_other (h : DoorSense → DoorSense) {q : DoorIx} (e : q ≠ j) : (s.mapSense f j h).sense f q = s.sense f q := by
  cases f <;> exact put_get_other _ _ e

@[simp] theorem mapGroup_powered (p : GroupIx) (h : Group → Group) : (s.mapGroup f p h).powered = s.powered := by cases f <;> rfl

@[simp] theorem mapGroup_msClock (p : GroupIx) (h : Group → Group) : (s.mapGroup f p h).msClock = s.msClock := by cases f <;> rfl

@[simp] theorem mapGroup_usClock (p : GroupIx) (h : Group → Group) : (s.mapGroup f p h).usClock = s.usClock := by cases f <;> rfl
@[simp] theorem mapGroup_usPhase (p : GroupIx) (h : Group → Group) : (s.mapGroup f p h).usPhase = s.usPhase := by cases f <;> rfl

@[simp] theorem mapGroup_scanDone (p : GroupIx) (h : Group → Group) : (s.mapGroup f p h).scanDone = s.scanDone := by cases f <;> rfl

@[simp] theorem mapGroup_scanPhase (p : GroupIx) (h : Group → Group) : (s.mapGroup f p h).scanPhase = s.scanPhase := by cases f <;> rfl

@[simp] theorem mapGroup_fieldOut (p : GroupIx) (h : Group → Group) : (s.mapGroup f p h).fieldOut = s.fieldOut := by cases f <;> rfl

@[simp] theorem mapGroup_maint (p : GroupIx) (h : Group → Group) : (s.mapGroup f p h).maint = s.maint := by cases f <;> rfl

@[simp] theorem mapGroup_config (p : GroupIx) (h : Group → Group) : (s.mapGroup f p h).config = s.config := by cases f <;> rfl

@[simp] theorem mapGroup_configInvalid (p : GroupIx) (h : Group → Group) : (s.mapGroup f p h).configInvalid = s.configInvalid := by cases f <;> rfl

@[simp] theorem mapGroup_storedGen (p : GroupIx) (h : Group → Group) : (s.mapGroup f p h).storedGen = s.storedGen := by cases f <;> rfl

@[simp] theorem mapGroup_storedCrc (p : GroupIx) (h : Group → Group) : (s.mapGroup f p h).storedCrc = s.storedCrc := by cases f <;> rfl

@[simp] theorem mapGroup_resetCause (p : GroupIx) (h : Group → Group) : (s.mapGroup f p h).resetCause = s.resetCause := by cases f <;> rfl

@[simp] theorem mapGroup_commit (p : GroupIx) (h : Group → Group) : (s.mapGroup f p h).commit = s.commit := by cases f <;> rfl

@[simp] theorem mapGroup_nv (p : GroupIx) (h : Group → Group) : (s.mapGroup f p h).nv = s.nv := by cases f <;> rfl

@[simp] theorem mapGroup_speedSl (p : GroupIx) (h : Group → Group) : (s.mapGroup f p h).speedSl = s.speedSl := by cases f <;> rfl

@[simp] theorem mapGroup_speedIl (p : GroupIx) (h : Group → Group) : (s.mapGroup f p h).speedIl = s.speedIl := by cases f <;> rfl

@[simp] theorem mapGroup_sl (p : GroupIx) (h : Group → Group) : (s.mapGroup f p h).sl = s.sl := by cases f <;> rfl

@[simp] theorem mapGroup_il (p : GroupIx) (h : Group → Group) : (s.mapGroup f p h).il = s.il := by cases f <;> rfl

@[simp] theorem mapGroup_silence (p : GroupIx) (h : Group → Group) : (s.mapGroup f p h).silence = s.silence := by cases f <;> rfl

@[simp] theorem mapGroup_ilLost (p : GroupIx) (h : Group → Group) : (s.mapGroup f p h).ilLost = s.ilLost := by cases f <;> rfl

@[simp] theorem mapGroup_notices (p : GroupIx) (h : Group → Group) : (s.mapGroup f p h).notices = s.notices := by cases f <;> rfl

@[simp] theorem mapGroup_freeCount (p : GroupIx) (h : Group → Group) : (s.mapGroup f p h).freeCount = s.freeCount := by cases f <;> rfl

@[simp] theorem mapGroup_pending (p : GroupIx) (h : Group → Group) : (s.mapGroup f p h).pending = s.pending := by cases f <;> rfl

@[simp] theorem mapGroup_link (p : GroupIx) (h : Group → Group) : (s.mapGroup f p h).link l = s.link l := by cases f <;> cases l <;> rfl

theorem mapGroup_face_other (p : GroupIx) (h : Group → Group) (e : g ≠ f) : (s.mapGroup f p h).face g = s.face g := mapFace_face_other s f g _ e

@[simp] theorem mapGroup_face_doors (p : GroupIx) (h : Group → Group) : ((s.mapGroup f p h).face g).doors = (s.face g).doors := by
  cases f <;> cases g <;> rfl

@[simp] theorem mapGroup_face_inputs (p : GroupIx) (h : Group → Group) : ((s.mapGroup f p h).face g).inputs = (s.face g).inputs := by
  cases f <;> cases g <;> rfl

@[simp] theorem mapGroup_face_sense (p : GroupIx) (h : Group → Group) : ((s.mapGroup f p h).face g).sense = (s.face g).sense := by
  cases f <;> cases g <;> rfl

@[simp] theorem mapGroup_face_boarding (p : GroupIx) (h : Group → Group) : ((s.mapGroup f p h).face g).boarding = (s.face g).boarding := by
  cases f <;> cases g <;> rfl

@[simp] theorem mapGroup_face_alighting (p : GroupIx) (h : Group → Group) : ((s.mapGroup f p h).face g).alighting = (s.face g).alighting := by
  cases f <;> cases g <;> rfl

@[simp] theorem mapGroup_face_quiet (p : GroupIx) (h : Group → Group) : ((s.mapGroup f p h).face g).quiet = (s.face g).quiet := by
  cases f <;> cases g <;> rfl

@[simp] theorem mapGroup_face_quietTimer (p : GroupIx) (h : Group → Group) : ((s.mapGroup f p h).face g).quietTimer = (s.face g).quietTimer := by
  cases f <;> cases g <;> rfl

@[simp] theorem mapGroup_face_ring (p : GroupIx) (h : Group → Group) : ((s.mapGroup f p h).face g).ring = (s.face g).ring := by
  cases f <;> cases g <;> rfl

@[simp] theorem mapGroup_face_newest (p : GroupIx) (h : Group → Group) : ((s.mapGroup f p h).face g).newest = (s.face g).newest := by
  cases f <;> cases g <;> rfl

@[simp] theorem mapGroup_face_beams (p : GroupIx) (h : Group → Group) : ((s.mapGroup f p h).face g).beams = (s.face g).beams := by
  cases f <;> cases g <;> rfl

@[simp] theorem mapGroup_face_berth (p : GroupIx) (h : Group → Group) : ((s.mapGroup f p h).face g).berth = (s.face g).berth := by
  cases f <;> cases g <;> rfl

@[simp] theorem mapGroup_face_align (p : GroupIx) (h : Group → Group) : ((s.mapGroup f p h).face g).align = (s.face g).align := by
  cases f <;> cases g <;> rfl

@[simp] theorem mapGroup_face_clp (p : GroupIx) (h : Group → Group) : ((s.mapGroup f p h).face g).clp = (s.face g).clp := by
  cases f <;> cases g <;> rfl

@[simp] theorem mapGroup_face_mode (p : GroupIx) (h : Group → Group) : ((s.mapGroup f p h).face g).mode = (s.face g).mode := by
  cases f <;> cases g <;> rfl

@[simp] theorem mapGroup_face_engine (p : GroupIx) (h : Group → Group) : ((s.mapGroup f p h).face g).engine = (s.face g).engine := by
  cases f <;> cases g <;> rfl

@[simp] theorem mapGroup_face_groups (p : GroupIx) (h : Group → Group) : ((s.mapGroup f p h).face f).groups = put (s.face f).groups p (h (s.face f).groups[p]) := by cases f <;> rfl

@[simp] theorem mapGroup_group (p : GroupIx) (h : Group → Group) : (s.mapGroup f p h).group f p = h (s.group f p) := by
  cases f <;> simp [State.group, State.mapGroup, State.mapFace, State.face]

theorem mapGroup_group_other (p : GroupIx) (h : Group → Group) {q : GroupIx} (e : q ≠ p) : (s.mapGroup f p h).group f q = s.group f q := by
  cases f <;> exact put_get_other _ _ e

@[simp] theorem mapBerth_powered (h : Berth → Berth) : (s.mapBerth f h).powered = s.powered := by cases f <;> rfl

@[simp] theorem mapBerth_msClock (h : Berth → Berth) : (s.mapBerth f h).msClock = s.msClock := by cases f <;> rfl

@[simp] theorem mapBerth_usClock (h : Berth → Berth) : (s.mapBerth f h).usClock = s.usClock := by cases f <;> rfl
@[simp] theorem mapBerth_usPhase (h : Berth → Berth) : (s.mapBerth f h).usPhase = s.usPhase := by cases f <;> rfl

@[simp] theorem mapBerth_scanDone (h : Berth → Berth) : (s.mapBerth f h).scanDone = s.scanDone := by cases f <;> rfl

@[simp] theorem mapBerth_scanPhase (h : Berth → Berth) : (s.mapBerth f h).scanPhase = s.scanPhase := by cases f <;> rfl

@[simp] theorem mapBerth_fieldOut (h : Berth → Berth) : (s.mapBerth f h).fieldOut = s.fieldOut := by cases f <;> rfl

@[simp] theorem mapBerth_maint (h : Berth → Berth) : (s.mapBerth f h).maint = s.maint := by cases f <;> rfl

@[simp] theorem mapBerth_config (h : Berth → Berth) : (s.mapBerth f h).config = s.config := by cases f <;> rfl

@[simp] theorem mapBerth_configInvalid (h : Berth → Berth) : (s.mapBerth f h).configInvalid = s.configInvalid := by cases f <;> rfl

@[simp] theorem mapBerth_storedGen (h : Berth → Berth) : (s.mapBerth f h).storedGen = s.storedGen := by cases f <;> rfl

@[simp] theorem mapBerth_storedCrc (h : Berth → Berth) : (s.mapBerth f h).storedCrc = s.storedCrc := by cases f <;> rfl

@[simp] theorem mapBerth_resetCause (h : Berth → Berth) : (s.mapBerth f h).resetCause = s.resetCause := by cases f <;> rfl

@[simp] theorem mapBerth_commit (h : Berth → Berth) : (s.mapBerth f h).commit = s.commit := by cases f <;> rfl

@[simp] theorem mapBerth_nv (h : Berth → Berth) : (s.mapBerth f h).nv = s.nv := by cases f <;> rfl

@[simp] theorem mapBerth_speedSl (h : Berth → Berth) : (s.mapBerth f h).speedSl = s.speedSl := by cases f <;> rfl

@[simp] theorem mapBerth_speedIl (h : Berth → Berth) : (s.mapBerth f h).speedIl = s.speedIl := by cases f <;> rfl

@[simp] theorem mapBerth_sl (h : Berth → Berth) : (s.mapBerth f h).sl = s.sl := by cases f <;> rfl

@[simp] theorem mapBerth_il (h : Berth → Berth) : (s.mapBerth f h).il = s.il := by cases f <;> rfl

@[simp] theorem mapBerth_silence (h : Berth → Berth) : (s.mapBerth f h).silence = s.silence := by cases f <;> rfl

@[simp] theorem mapBerth_ilLost (h : Berth → Berth) : (s.mapBerth f h).ilLost = s.ilLost := by cases f <;> rfl

@[simp] theorem mapBerth_notices (h : Berth → Berth) : (s.mapBerth f h).notices = s.notices := by cases f <;> rfl

@[simp] theorem mapBerth_freeCount (h : Berth → Berth) : (s.mapBerth f h).freeCount = s.freeCount := by cases f <;> rfl

@[simp] theorem mapBerth_pending (h : Berth → Berth) : (s.mapBerth f h).pending = s.pending := by cases f <;> rfl

@[simp] theorem mapBerth_link (h : Berth → Berth) : (s.mapBerth f h).link l = s.link l := by cases f <;> cases l <;> rfl

theorem mapBerth_face_other (h : Berth → Berth) (e : g ≠ f) : (s.mapBerth f h).face g = s.face g := mapFace_face_other s f g _ e

@[simp] theorem mapBerth_face_doors (h : Berth → Berth) : ((s.mapBerth f h).face g).doors = (s.face g).doors := by
  cases f <;> cases g <;> rfl

@[simp] theorem mapBerth_face_inputs (h : Berth → Berth) : ((s.mapBerth f h).face g).inputs = (s.face g).inputs := by
  cases f <;> cases g <;> rfl

@[simp] theorem mapBerth_face_sense (h : Berth → Berth) : ((s.mapBerth f h).face g).sense = (s.face g).sense := by
  cases f <;> cases g <;> rfl

@[simp] theorem mapBerth_face_groups (h : Berth → Berth) : ((s.mapBerth f h).face g).groups = (s.face g).groups := by
  cases f <;> cases g <;> rfl

@[simp] theorem mapBerth_face_boarding (h : Berth → Berth) : ((s.mapBerth f h).face g).boarding = (s.face g).boarding := by
  cases f <;> cases g <;> rfl

@[simp] theorem mapBerth_face_alighting (h : Berth → Berth) : ((s.mapBerth f h).face g).alighting = (s.face g).alighting := by
  cases f <;> cases g <;> rfl

@[simp] theorem mapBerth_face_quiet (h : Berth → Berth) : ((s.mapBerth f h).face g).quiet = (s.face g).quiet := by
  cases f <;> cases g <;> rfl

@[simp] theorem mapBerth_face_quietTimer (h : Berth → Berth) : ((s.mapBerth f h).face g).quietTimer = (s.face g).quietTimer := by
  cases f <;> cases g <;> rfl

@[simp] theorem mapBerth_face_ring (h : Berth → Berth) : ((s.mapBerth f h).face g).ring = (s.face g).ring := by
  cases f <;> cases g <;> rfl

@[simp] theorem mapBerth_face_newest (h : Berth → Berth) : ((s.mapBerth f h).face g).newest = (s.face g).newest := by
  cases f <;> cases g <;> rfl

@[simp] theorem mapBerth_face_beams (h : Berth → Berth) : ((s.mapBerth f h).face g).beams = (s.face g).beams := by
  cases f <;> cases g <;> rfl

@[simp] theorem mapBerth_face_align (h : Berth → Berth) : ((s.mapBerth f h).face g).align = (s.face g).align := by
  cases f <;> cases g <;> rfl

@[simp] theorem mapBerth_face_clp (h : Berth → Berth) : ((s.mapBerth f h).face g).clp = (s.face g).clp := by
  cases f <;> cases g <;> rfl

@[simp] theorem mapBerth_face_mode (h : Berth → Berth) : ((s.mapBerth f h).face g).mode = (s.face g).mode := by
  cases f <;> cases g <;> rfl

@[simp] theorem mapBerth_face_engine (h : Berth → Berth) : ((s.mapBerth f h).face g).engine = (s.face g).engine := by
  cases f <;> cases g <;> rfl

@[simp] theorem mapBerth_face_berth (h : Berth → Berth) : ((s.mapBerth f h).face f).berth = h (s.face f).berth := by cases f <;> rfl

@[simp] theorem mapEngine_powered (h : Engine → Engine) : (s.mapEngine f h).powered = s.powered := by cases f <;> rfl

@[simp] theorem mapEngine_msClock (h : Engine → Engine) : (s.mapEngine f h).msClock = s.msClock := by cases f <;> rfl

@[simp] theorem mapEngine_usClock (h : Engine → Engine) : (s.mapEngine f h).usClock = s.usClock := by cases f <;> rfl
@[simp] theorem mapEngine_usPhase (h : Engine → Engine) : (s.mapEngine f h).usPhase = s.usPhase := by cases f <;> rfl

@[simp] theorem mapEngine_scanDone (h : Engine → Engine) : (s.mapEngine f h).scanDone = s.scanDone := by cases f <;> rfl

@[simp] theorem mapEngine_scanPhase (h : Engine → Engine) : (s.mapEngine f h).scanPhase = s.scanPhase := by cases f <;> rfl

@[simp] theorem mapEngine_fieldOut (h : Engine → Engine) : (s.mapEngine f h).fieldOut = s.fieldOut := by cases f <;> rfl

@[simp] theorem mapEngine_maint (h : Engine → Engine) : (s.mapEngine f h).maint = s.maint := by cases f <;> rfl

@[simp] theorem mapEngine_config (h : Engine → Engine) : (s.mapEngine f h).config = s.config := by cases f <;> rfl

@[simp] theorem mapEngine_configInvalid (h : Engine → Engine) : (s.mapEngine f h).configInvalid = s.configInvalid := by cases f <;> rfl

@[simp] theorem mapEngine_storedGen (h : Engine → Engine) : (s.mapEngine f h).storedGen = s.storedGen := by cases f <;> rfl

@[simp] theorem mapEngine_storedCrc (h : Engine → Engine) : (s.mapEngine f h).storedCrc = s.storedCrc := by cases f <;> rfl

@[simp] theorem mapEngine_resetCause (h : Engine → Engine) : (s.mapEngine f h).resetCause = s.resetCause := by cases f <;> rfl

@[simp] theorem mapEngine_commit (h : Engine → Engine) : (s.mapEngine f h).commit = s.commit := by cases f <;> rfl

@[simp] theorem mapEngine_nv (h : Engine → Engine) : (s.mapEngine f h).nv = s.nv := by cases f <;> rfl

@[simp] theorem mapEngine_speedSl (h : Engine → Engine) : (s.mapEngine f h).speedSl = s.speedSl := by cases f <;> rfl

@[simp] theorem mapEngine_speedIl (h : Engine → Engine) : (s.mapEngine f h).speedIl = s.speedIl := by cases f <;> rfl

@[simp] theorem mapEngine_sl (h : Engine → Engine) : (s.mapEngine f h).sl = s.sl := by cases f <;> rfl

@[simp] theorem mapEngine_il (h : Engine → Engine) : (s.mapEngine f h).il = s.il := by cases f <;> rfl

@[simp] theorem mapEngine_silence (h : Engine → Engine) : (s.mapEngine f h).silence = s.silence := by cases f <;> rfl

@[simp] theorem mapEngine_ilLost (h : Engine → Engine) : (s.mapEngine f h).ilLost = s.ilLost := by cases f <;> rfl

@[simp] theorem mapEngine_notices (h : Engine → Engine) : (s.mapEngine f h).notices = s.notices := by cases f <;> rfl

@[simp] theorem mapEngine_freeCount (h : Engine → Engine) : (s.mapEngine f h).freeCount = s.freeCount := by cases f <;> rfl

@[simp] theorem mapEngine_pending (h : Engine → Engine) : (s.mapEngine f h).pending = s.pending := by cases f <;> rfl

@[simp] theorem mapEngine_link (h : Engine → Engine) : (s.mapEngine f h).link l = s.link l := by cases f <;> cases l <;> rfl

theorem mapEngine_face_other (h : Engine → Engine) (e : g ≠ f) : (s.mapEngine f h).face g = s.face g := mapFace_face_other s f g _ e

@[simp] theorem mapEngine_face_doors (h : Engine → Engine) : ((s.mapEngine f h).face g).doors = (s.face g).doors := by
  cases f <;> cases g <;> rfl

@[simp] theorem mapEngine_face_inputs (h : Engine → Engine) : ((s.mapEngine f h).face g).inputs = (s.face g).inputs := by
  cases f <;> cases g <;> rfl

@[simp] theorem mapEngine_face_sense (h : Engine → Engine) : ((s.mapEngine f h).face g).sense = (s.face g).sense := by
  cases f <;> cases g <;> rfl

@[simp] theorem mapEngine_face_groups (h : Engine → Engine) : ((s.mapEngine f h).face g).groups = (s.face g).groups := by
  cases f <;> cases g <;> rfl

@[simp] theorem mapEngine_face_boarding (h : Engine → Engine) : ((s.mapEngine f h).face g).boarding = (s.face g).boarding := by
  cases f <;> cases g <;> rfl

@[simp] theorem mapEngine_face_alighting (h : Engine → Engine) : ((s.mapEngine f h).face g).alighting = (s.face g).alighting := by
  cases f <;> cases g <;> rfl

@[simp] theorem mapEngine_face_quiet (h : Engine → Engine) : ((s.mapEngine f h).face g).quiet = (s.face g).quiet := by
  cases f <;> cases g <;> rfl

@[simp] theorem mapEngine_face_quietTimer (h : Engine → Engine) : ((s.mapEngine f h).face g).quietTimer = (s.face g).quietTimer := by
  cases f <;> cases g <;> rfl

@[simp] theorem mapEngine_face_ring (h : Engine → Engine) : ((s.mapEngine f h).face g).ring = (s.face g).ring := by
  cases f <;> cases g <;> rfl

@[simp] theorem mapEngine_face_newest (h : Engine → Engine) : ((s.mapEngine f h).face g).newest = (s.face g).newest := by
  cases f <;> cases g <;> rfl

@[simp] theorem mapEngine_face_beams (h : Engine → Engine) : ((s.mapEngine f h).face g).beams = (s.face g).beams := by
  cases f <;> cases g <;> rfl

@[simp] theorem mapEngine_face_berth (h : Engine → Engine) : ((s.mapEngine f h).face g).berth = (s.face g).berth := by
  cases f <;> cases g <;> rfl

@[simp] theorem mapEngine_face_align (h : Engine → Engine) : ((s.mapEngine f h).face g).align = (s.face g).align := by
  cases f <;> cases g <;> rfl

@[simp] theorem mapEngine_face_clp (h : Engine → Engine) : ((s.mapEngine f h).face g).clp = (s.face g).clp := by
  cases f <;> cases g <;> rfl

@[simp] theorem mapEngine_face_mode (h : Engine → Engine) : ((s.mapEngine f h).face g).mode = (s.face g).mode := by
  cases f <;> cases g <;> rfl

@[simp] theorem mapEngine_face_engine (h : Engine → Engine) : ((s.mapEngine f h).face f).engine = h (s.face f).engine := by cases f <;> rfl

@[simp] theorem mapMode_powered (h : ModeUnit → ModeUnit) : (s.mapMode f h).powered = s.powered := by cases f <;> rfl

@[simp] theorem mapMode_msClock (h : ModeUnit → ModeUnit) : (s.mapMode f h).msClock = s.msClock := by cases f <;> rfl

@[simp] theorem mapMode_usClock (h : ModeUnit → ModeUnit) : (s.mapMode f h).usClock = s.usClock := by cases f <;> rfl
@[simp] theorem mapMode_usPhase (h : ModeUnit → ModeUnit) : (s.mapMode f h).usPhase = s.usPhase := by cases f <;> rfl

@[simp] theorem mapMode_scanDone (h : ModeUnit → ModeUnit) : (s.mapMode f h).scanDone = s.scanDone := by cases f <;> rfl

@[simp] theorem mapMode_scanPhase (h : ModeUnit → ModeUnit) : (s.mapMode f h).scanPhase = s.scanPhase := by cases f <;> rfl

@[simp] theorem mapMode_fieldOut (h : ModeUnit → ModeUnit) : (s.mapMode f h).fieldOut = s.fieldOut := by cases f <;> rfl

@[simp] theorem mapMode_maint (h : ModeUnit → ModeUnit) : (s.mapMode f h).maint = s.maint := by cases f <;> rfl

@[simp] theorem mapMode_config (h : ModeUnit → ModeUnit) : (s.mapMode f h).config = s.config := by cases f <;> rfl

@[simp] theorem mapMode_configInvalid (h : ModeUnit → ModeUnit) : (s.mapMode f h).configInvalid = s.configInvalid := by cases f <;> rfl

@[simp] theorem mapMode_storedGen (h : ModeUnit → ModeUnit) : (s.mapMode f h).storedGen = s.storedGen := by cases f <;> rfl

@[simp] theorem mapMode_storedCrc (h : ModeUnit → ModeUnit) : (s.mapMode f h).storedCrc = s.storedCrc := by cases f <;> rfl

@[simp] theorem mapMode_resetCause (h : ModeUnit → ModeUnit) : (s.mapMode f h).resetCause = s.resetCause := by cases f <;> rfl

@[simp] theorem mapMode_commit (h : ModeUnit → ModeUnit) : (s.mapMode f h).commit = s.commit := by cases f <;> rfl

@[simp] theorem mapMode_nv (h : ModeUnit → ModeUnit) : (s.mapMode f h).nv = s.nv := by cases f <;> rfl

@[simp] theorem mapMode_speedSl (h : ModeUnit → ModeUnit) : (s.mapMode f h).speedSl = s.speedSl := by cases f <;> rfl

@[simp] theorem mapMode_speedIl (h : ModeUnit → ModeUnit) : (s.mapMode f h).speedIl = s.speedIl := by cases f <;> rfl

@[simp] theorem mapMode_sl (h : ModeUnit → ModeUnit) : (s.mapMode f h).sl = s.sl := by cases f <;> rfl

@[simp] theorem mapMode_il (h : ModeUnit → ModeUnit) : (s.mapMode f h).il = s.il := by cases f <;> rfl

@[simp] theorem mapMode_silence (h : ModeUnit → ModeUnit) : (s.mapMode f h).silence = s.silence := by cases f <;> rfl

@[simp] theorem mapMode_ilLost (h : ModeUnit → ModeUnit) : (s.mapMode f h).ilLost = s.ilLost := by cases f <;> rfl

@[simp] theorem mapMode_notices (h : ModeUnit → ModeUnit) : (s.mapMode f h).notices = s.notices := by cases f <;> rfl

@[simp] theorem mapMode_freeCount (h : ModeUnit → ModeUnit) : (s.mapMode f h).freeCount = s.freeCount := by cases f <;> rfl

@[simp] theorem mapMode_pending (h : ModeUnit → ModeUnit) : (s.mapMode f h).pending = s.pending := by cases f <;> rfl

@[simp] theorem mapMode_link (h : ModeUnit → ModeUnit) : (s.mapMode f h).link l = s.link l := by cases f <;> cases l <;> rfl

theorem mapMode_face_other (h : ModeUnit → ModeUnit) (e : g ≠ f) : (s.mapMode f h).face g = s.face g := mapFace_face_other s f g _ e

@[simp] theorem mapMode_face_doors (h : ModeUnit → ModeUnit) : ((s.mapMode f h).face g).doors = (s.face g).doors := by
  cases f <;> cases g <;> rfl

@[simp] theorem mapMode_face_inputs (h : ModeUnit → ModeUnit) : ((s.mapMode f h).face g).inputs = (s.face g).inputs := by
  cases f <;> cases g <;> rfl

@[simp] theorem mapMode_face_sense (h : ModeUnit → ModeUnit) : ((s.mapMode f h).face g).sense = (s.face g).sense := by
  cases f <;> cases g <;> rfl

@[simp] theorem mapMode_face_groups (h : ModeUnit → ModeUnit) : ((s.mapMode f h).face g).groups = (s.face g).groups := by
  cases f <;> cases g <;> rfl

@[simp] theorem mapMode_face_boarding (h : ModeUnit → ModeUnit) : ((s.mapMode f h).face g).boarding = (s.face g).boarding := by
  cases f <;> cases g <;> rfl

@[simp] theorem mapMode_face_alighting (h : ModeUnit → ModeUnit) : ((s.mapMode f h).face g).alighting = (s.face g).alighting := by
  cases f <;> cases g <;> rfl

@[simp] theorem mapMode_face_quiet (h : ModeUnit → ModeUnit) : ((s.mapMode f h).face g).quiet = (s.face g).quiet := by
  cases f <;> cases g <;> rfl

@[simp] theorem mapMode_face_quietTimer (h : ModeUnit → ModeUnit) : ((s.mapMode f h).face g).quietTimer = (s.face g).quietTimer := by
  cases f <;> cases g <;> rfl

@[simp] theorem mapMode_face_ring (h : ModeUnit → ModeUnit) : ((s.mapMode f h).face g).ring = (s.face g).ring := by
  cases f <;> cases g <;> rfl

@[simp] theorem mapMode_face_newest (h : ModeUnit → ModeUnit) : ((s.mapMode f h).face g).newest = (s.face g).newest := by
  cases f <;> cases g <;> rfl

@[simp] theorem mapMode_face_beams (h : ModeUnit → ModeUnit) : ((s.mapMode f h).face g).beams = (s.face g).beams := by
  cases f <;> cases g <;> rfl

@[simp] theorem mapMode_face_berth (h : ModeUnit → ModeUnit) : ((s.mapMode f h).face g).berth = (s.face g).berth := by
  cases f <;> cases g <;> rfl

@[simp] theorem mapMode_face_align (h : ModeUnit → ModeUnit) : ((s.mapMode f h).face g).align = (s.face g).align := by
  cases f <;> cases g <;> rfl

@[simp] theorem mapMode_face_clp (h : ModeUnit → ModeUnit) : ((s.mapMode f h).face g).clp = (s.face g).clp := by
  cases f <;> cases g <;> rfl

@[simp] theorem mapMode_face_engine (h : ModeUnit → ModeUnit) : ((s.mapMode f h).face g).engine = (s.face g).engine := by
  cases f <;> cases g <;> rfl

@[simp] theorem mapMode_face_mode (h : ModeUnit → ModeUnit) : ((s.mapMode f h).face f).mode = h (s.face f).mode := by cases f <;> rfl

/-! ### The clock -/

/-- All that the passing of milliseconds can do. -/
theorem advance_changes (n : Nat) :
    ∃ m u p d, s.advance n = { s with msClock := m, usClock := u, scanPhase := p, fieldOut := d } := by
  simp only [State.advance, State.sendDrives]
  split
  · split
    · exact ⟨_, _, _, _, rfl⟩
    · exact ⟨_, _, _, s.fieldOut, rfl⟩
  · exact ⟨_, _, s.scanPhase, s.fieldOut, rfl⟩

/-- All that bringing the microsecond counter to a reading can do. -/
theorem reachMicros_changes (t : Us) : ∃ m u q p d,
    s.reachMicros t = { s with msClock := m, usClock := u, usPhase := q, scanPhase := p, fieldOut := d } := by
  simp only [State.reachMicros, State.advanceMicros]
  split
  · exact ⟨s.msClock, s.usClock, s.usPhase, s.scanPhase, s.fieldOut, rfl⟩
  · split
    · exact ⟨s.msClock, _, _, s.scanPhase, s.fieldOut, rfl⟩
    · obtain ⟨m, u, p, d, h⟩ := advance_changes s ((s.usPhase.val + (t - s.usClock).toNat) / 1000)
      rw [h]
      exact ⟨m, _, _, p, d, rfl⟩

@[simp] theorem reachMicros_usClock (t : Us) : (s.reachMicros t).usClock = t := by
  simp only [State.reachMicros]
  split
  · exact (‹t = s.usClock›).symm
  · rw [State.advanceMicros, BitVec.ofNat_toNat, BitVec.setWidth_eq, BitVec.add_comm, BitVec.sub_add_cancel]

@[simp] theorem reachMicros_now : s.reachMicros s.usClock = s := by simp [State.reachMicros]

/-- A beam change is timestamped with the reading at which its level first changed. -/
@[simp] theorem reachMicros_beamReading (t : Us) : (s.reachMicros (t + beamFilter)).beamReading = t := by
  simp [State.beamReading]

@[simp] theorem reachMicros_face (t : Us) : (s.reachMicros t).face f = s.face f := by
  obtain ⟨m, u, q, p, d, h⟩ := reachMicros_changes s t; rw [h]; cases f <;> rfl

@[simp] theorem reachMicros_link (t : Us) : (s.reachMicros t).link l = s.link l := by
  obtain ⟨m, u, q, p, d, h⟩ := reachMicros_changes s t; rw [h]; cases l <;> rfl

@[simp] theorem reachMicros_config (t : Us) : (s.reachMicros t).config = s.config := by
  obtain ⟨m, u, q, p, d, h⟩ := reachMicros_changes s t; rw [h]

@[simp] theorem reachMicros_scanDone (t : Us) : (s.reachMicros t).scanDone = s.scanDone := by
  obtain ⟨m, u, q, p, d, h⟩ := reachMicros_changes s t; rw [h]

@[simp] theorem reachMicros_notices (t : Us) : (s.reachMicros t).notices = s.notices := by
  obtain ⟨m, u, q, p, d, h⟩ := reachMicros_changes s t; rw [h]

end Sys2Proof.Machine
end

