-- ==== Sys2Proof/Laws/Outside.lean ====
section
/-! SUPPORT. Each operation on the units of a face leaves everything outside the face alone: once for each shared
operation, as `outside`, and from it the fields that the operations read. -/

namespace Sys2Proof.Machine

variable (s : State) (f : Face) (j : DoorIx)

/-! ### Base -/

theorem outside_eq_of {s t : State} {f : Face} {α : Type} (p : State → α) (q : ∀ x : State, p (x.outside f) = p x)
    (h : t.outside f = s.outside f) : p t = p s := by
  rw [← q t, ← q s, h]

@[simp] theorem mapFace_outside (h : FaceState → FaceState) : (s.mapFace f h).outside f = s.outside f := by
  cases f <;> rfl

@[simp] theorem mapDoor_outside (h : DoorRec → DoorRec) : (s.mapDoor f j h).outside f = s.outside f := by
  cases f <;> rfl

@[simp] theorem mapInput_outside (h : DoorInputs → DoorInputs) : (s.mapInput f j h).outside f = s.outside f := by
  cases f <;> rfl

@[simp] theorem mapSense_outside (h : DoorSense → DoorSense) : (s.mapSense f j h).outside f = s.outside f := by
  cases f <;> rfl

@[simp] theorem mapGroup_outside (p : GroupIx) (h : Group → Group) : (s.mapGroup f p h).outside f = s.outside f := by
  cases f <;> rfl

@[simp] theorem mapBerth_outside (h : Berth → Berth) : (s.mapBerth f h).outside f = s.outside f := by
  cases f <;> rfl

@[simp] theorem mapEngine_outside (h : Engine → Engine) : (s.mapEngine f h).outside f = s.outside f := by
  cases f <;> rfl

@[simp] theorem mapMode_outside (h : ModeUnit → ModeUnit) : (s.mapMode f h).outside f = s.outside f := by
  cases f <;> rfl

@[simp] theorem mapBeams_outside (h : Beams → Beams) : (s.mapBeams f h).outside f = s.outside f := by
  cases f <;> rfl

theorem mapLink_outside (l : Link) (h : LinkState → LinkState) (e : ∀ k, (h k).rxSide = k.rxSide) :
    (s.mapLink l h).outside f = s.outside f := by
  cases l <;> simp [State.outside, State.mapLink, e]

theorem tell_outside (n : Notice) (e : n.face = f) : (s.tell n).outside f = s.outside f := by
  simp [State.outside, State.tell, e]

@[simp] theorem tell_door_outside (st : DoorState) : (s.tell (.door f j st)).outside f = s.outside f :=
  tell_outside s f _ rfl

@[simp] theorem tell_quiet_outside : (s.tell (.quiet f)).outside f = s.outside f := tell_outside s f _ rfl

@[simp] theorem tell_clp_outside : (s.tell (.clp f)).outside f = s.outside f := tell_outside s f _ rfl

@[simp] theorem tell_holdEnds_outside : (s.tell (.holdEnds f)).outside f = s.outside f := tell_outside s f _ rfl

theorem forEach_keeps {α β : Type} (p : State → β) (op : α → State → State) (h : ∀ x s, p (op x s) = p s)
    (xs : List α) (s : State) : p (forEach xs op s) = p s := by
  induction xs generalizing s with
  | nil => rfl
  | cons x xs ih => exact (ih (op x s)).trans (h x s)

/-! ### Reports -/

@[simp] theorem send_outside (l : Link) (x : Frame) (b : Bool) : (s.send l x b).outside f = s.outside f :=
  mapLink_outside s f l _ (fun _ => rfl)

@[simp] theorem formReport_outside (l : Link) : (s.formReport l).outside f = s.outside f := by
  simp only [State.formReport, send_outside]
  exact mapLink_outside s f l _ (fun _ => rfl)

@[simp] theorem considerReport_outside (l : Link) : (s.considerReport l).outside f = s.outside f := by
  unfold State.considerReport; dsimp only; split <;> simp

@[simp] theorem enqueueReport_outside (l : Link) (c : ReportClass) (r : Record) :
    (s.enqueueReport l c r).outside f = s.outside f := mapLink_outside s f l _ (fun _ => rfl)

@[simp] theorem offerRecord_outside (l : Link) (c : ReportClass) (r : Record) :
    (s.offerRecord l c r).outside f = s.outside f := by
  unfold State.offerRecord
  split
  · split
    · simp
    · exact mapLink_outside s f l _ (fun _ => rfl)
  · rfl

@[simp] theorem report_outside (c : ReportClass) (k : ReportKind) (g : Face) (o : Option Nat) (d : List Byte) :
    (s.report c k g o d).outside f = s.outside f := by simp [State.report]

/-! ### Proof -/

@[simp] theorem recomputeClp_outside (subject : Option DoorIx) : (s.recomputeClp f subject).outside f = s.outside f := by
  simp only [State.recomputeClp]; (repeat' split) <;> simp

/-! ### Sensing -/

@[simp] theorem countBoarding_outside : (s.countBoarding f j).outside f = s.outside f := by
  simp only [State.countBoarding]; (repeat' split) <;> simp

@[simp] theorem countAlighting_outside : (s.countAlighting f j).outside f = s.outside f := by
  simp only [State.countAlighting]; (repeat' split) <;> simp

@[simp] theorem moveTracker_outside : (s.moveTracker f j).outside f = s.outside f := by
  simp only [State.moveTracker]; (repeat' split) <;> simp

@[simp] theorem clearCounts_outside : (s.clearCounts f).outside f = s.outside f := by
  simp [State.clearCounts]

@[simp] theorem setQuiet_outside (v : Bool) : (s.setQuiet f v).outside f = s.outside f := by
  simp only [State.setQuiet]; (repeat' split) <;> simp

@[simp] theorem restartQuiet_outside : (s.restartQuiet f).outside f = s.outside f := by
  simp [State.restartQuiet]

@[simp] theorem stopQuiet_outside : (s.stopQuiet f).outside f = s.outside f := by
  simp [State.stopQuiet]

@[simp] theorem quietOfMap_outside : (s.quietOfMap f).outside f = s.outside f := by
  simp only [State.quietOfMap]; (repeat' split) <;> simp

@[simp] theorem reportGap_outside (c : ReportClass) (event what : Byte) (duration : Option Nat) (slot : Option (Fin 64)) : (s.reportGap c f j event what duration slot).outside f = s.outside f := by
  simp [State.reportGap]

@[simp] theorem onset_outside : (s.onset f j).outside f = s.outside f := by
  simp [State.onset]

@[simp] theorem putZone_outside (z : Zone) : (s.putZone f j z).outside f = s.outside f := by
  simp [State.putZone]

@[simp] theorem occupyZone_outside : (s.occupyZone f j).outside f = s.outside f := by
  simp only [State.occupyZone]; (repeat' split) <;> simp

@[simp] theorem completeRecord_outside (e : Episode) (outcome : EpisodeOutcome) : (s.completeRecord f e outcome).outside f = s.outside f := by
  simp only [State.completeRecord]; (repeat' split) <;> simp

@[simp] theorem leaveZone_outside (z : Zone) (outcome : EpisodeOutcome) : (s.leaveZone f j z outcome).outside f = s.outside f := by
  simp only [State.leaveZone]; (repeat' split) <;> simp

@[simp] theorem disarmZone_outside : (s.disarmZone f j).outside f = s.outside f := by
  simp only [State.disarmZone]; (repeat' split) <;> simp

@[simp] theorem armZone_outside : (s.armZone f j).outside f = s.outside f := by
  simp only [State.armZone]; (repeat' split) <;> simp

@[simp] theorem gapChanged_outside : (s.gapChanged f j).outside f = s.outside f := by
  simp only [State.gapChanged]; (repeat' split) <;> simp

@[simp] theorem clearingExpired_outside : (s.clearingExpired f j).outside f = s.outside f := by
  simp only [State.clearingExpired]; (repeat' split) <;> simp

/-! ### Doors -/

@[simp] theorem reportDoor_outside : (s.reportDoor f j).outside f = s.outside f := by
  simp [State.reportDoor]

@[simp] theorem senseTracker_outside (old : Option DoorState) (st : DoorState) : (s.senseTracker f j old st).outside f = s.outside f := by
  simp only [State.senseTracker]; (repeat' split) <;> simp

@[simp] theorem senseDeferral_outside : (s.senseDeferral f j).outside f = s.outside f := by
  simp [State.senseDeferral]

@[simp] theorem senseZone_outside (st : DoorState) : (s.senseZone f j st).outside f = s.outside f := by
  simp only [State.senseZone]; (repeat' split) <;> simp

@[simp] theorem enterState_outside (st : DoorState) (edit : DoorRec → DoorRec) : (s.enterState f j st edit).outside f = s.outside f := by
  simp only [State.enterState]; (repeat' split) <;> simp

@[simp] theorem enterTold_outside (st : DoorState) (edit : DoorRec → DoorRec) : (s.enterTold f j st edit).outside f = s.outside f := by
  simp [State.enterTold]

/-! ### Arbiter -/

@[simp] theorem recordStart_outside (g : GroupIx) : (s.recordStart f g).outside f = s.outside f := by
  simp [State.recordStart]

@[simp] theorem obstruct_outside : (s.obstruct f j).outside f = s.outside f := by
  simp only [State.obstruct]; (repeat' split) <;> simp

@[simp] theorem enterClosing_outside : (s.enterClosing f j).outside f = s.outside f := by
  simp only [State.enterClosing]; (repeat' split) <;> simp

@[simp] theorem grantOnce_outside (g : GroupIx) : (s.grantOnce f g).outside f = s.outside f := by
  simp only [State.grantOnce]; (repeat' split) <;> simp

@[simp] theorem evalGrants_outside (g : GroupIx) : (s.evalGrants f g).outside f = s.outside f := by
  simp [State.evalGrants]

@[simp] theorem evalIfHead_outside (g : GroupIx) : (s.evalIfHead f g j).outside f = s.outside f := by
  simp only [State.evalIfHead]; (repeat' split) <;> simp

@[simp] theorem placeEntry_outside (m : Motion) (c : ReqClass) : (s.placeEntry f j m c).outside f = s.outside f := by
  simp [State.placeEntry]

@[simp] theorem removeEntry_outside : (s.removeEntry f j).outside f = s.outside f := by
  simp only [State.removeEntry]; (repeat' split) <;> simp

@[simp] theorem raiseEntry_outside : (s.raiseEntry f j).outside f = s.outside f := by
  simp only [State.raiseEntry]; (repeat' split) <;> simp

/-! ### DoorRequests -/

@[simp] theorem openEntry_outside : (s.openEntry f j).outside f = s.outside f := by
  simp [State.openEntry]

@[simp] theorem enterUnlatched_outside : (s.enterUnlatched f j).outside f = s.outside f := by
  simp only [State.enterUnlatched]; (repeat' split) <;> simp

@[simp] theorem closeEntry_outside : (s.closeEntry f j).outside f = s.outside f := by
  simp [State.closeEntry]

@[simp] theorem decideDeferral_outside : (s.decideDeferral f j).outside f = s.outside f := by
  simp only [State.decideDeferral]; (repeat' split) <;> simp

@[simp] theorem enter_outside (st : DoorState) (edit : DoorRec → DoorRec) : (s.enter f j st edit).outside f = s.outside f := by
  simp only [State.enter]; (repeat' split) <;> simp

@[simp] theorem enterFault_outside (c : FaultCause) : (s.enterFault f j c).outside f = s.outside f := by
  simp [State.enterFault]

@[simp] theorem takeOpen_outside (c : ReqClass) : (s.takeOpen f j c).1.outside f = s.outside f := by
  simp only [State.takeOpen]; (repeat' split) <;> simp

@[simp] theorem takeClose_outside : (s.takeClose f j).1.outside f = s.outside f := by
  simp only [State.takeClose]; (repeat' split) <;> simp

@[simp] theorem request_outside (r : DoorRequest) : (s.request f j r).1.outside f = s.outside f := by
  simp only [State.request]; (repeat' split) <;> simp

@[simp] theorem requestEach_outside (js : List DoorIx) (r : DoorRequest) : (s.requestEach f js r).outside f = s.outside f := forEach_keeps (State.outside f) _ (fun _ _ => by simp) _ _

@[simp] theorem emergencyIfLocked_outside : (s.emergencyIfLocked f j).outside f = s.outside f := by
  simp only [State.emergencyIfLocked]; (repeat' split) <;> simp

@[simp] theorem resolve_outside : (s.resolve f j).outside f = s.outside f := by
  simp only [State.resolve]; (repeat' split) <;> simp

@[simp] theorem resolveNew_outside (js : List DoorIx) : (s.resolveNew f js).outside f = s.outside f := by
  simp only [State.resolveNew]
  rw [forEach_keeps (State.outside f) _ (fun _ _ => by simp), recomputeClp_outside,
    forEach_keeps (State.outside f) _ (fun _ _ => by simp)]

@[simp] theorem reachedOpen_outside : (s.reachedOpen f j).outside f = s.outside f := by
  simp only [State.reachedOpen]; (repeat' split) <;> simp

@[simp] theorem reversalEnds_outside : (s.reversalEnds f j).outside f = s.outside f := by
  simp only [State.reversalEnds]; (repeat' split) <;> simp

@[simp] theorem ownChange_outside (old new : DoorInputs) : (s.ownChange f j old new).outside f = s.outside f := by
  simp only [State.ownChange]; (repeat' split) <;> simp

@[simp] theorem checkPosition_outside (old new : DoorInputs) : (s.checkPosition f j old new).outside f = s.outside f := by
  simp only [State.checkPosition]; (repeat' split) <;> simp

@[simp] theorem takeInputs_outside (old new : DoorInputs) : (s.takeInputs f j old new).outside f = s.outside f := by
  simp only [State.takeInputs]; (repeat' split) <;> simp

@[simp] theorem doorChange_outside (v : LeafSignals) : (s.doorChange f j v).outside f = s.outside f := by
  simp only [State.doorChange]; (repeat' split) <;> simp


@[simp] theorem takeSense_outside (old new : DoorInputs) : (s.takeSense f j old new).outside f = s.outside f := by
  simp only [State.takeSense]; (repeat' split) <;> simp

@[simp] theorem senseChange_outside (v : SenseSignals) : (s.senseChange f j v).outside f = s.outside f := by
  simp only [State.senseChange]; (repeat' split) <;> simp

@[simp] theorem deferralExpired_outside : (s.deferralExpired f j).outside f = s.outside f := by
  simp [State.deferralExpired]

@[simp] theorem afterFaceReset_outside : (s.afterFaceReset f j).outside f = s.outside f := by
  simp only [State.afterFaceReset]; (repeat' split) <;> simp

/-! ### Release -/

@[simp] theorem post_outside (sections : BitVec 8) (doorMask : BitVec 32) (src : Source) : (s.post f sections doorMask src).outside f = s.outside f := by
  simp [State.post]

@[simp] theorem requestAll_outside (r : DoorRequest) (js : List DoorIx) :
    (s.requestAll f r js).1.outside f = s.outside f := by
  induction js generalizing s with
  | nil => rfl
  | cons j js ih => simp [State.requestAll, ih]

@[simp] theorem openSelection_outside (sections : BitVec 8) (doorMask : BitVec 32) (src : Source) : (s.openSelection f sections doorMask src).1.outside f = s.outside f := by
  simp only [State.openSelection]; (repeat' split) <;> simp

/-! ### Engine -/

@[simp] theorem reportProgram_outside (event : Byte) (flags : BitVec 16) (value : Byte) : (s.reportProgram f event flags value).outside f = s.outside f := by
  simp [State.reportProgram]

@[simp] theorem reportHalt_outside (cause : Byte) : (s.reportHalt f cause).outside f = s.outside f := by
  simp [State.reportHalt]

@[simp] theorem setError_outside (err : ProgError) : (s.setError f err).outside f = s.outside f := by
  simp only [State.setError]; (repeat' split) <;> simp

@[simp] theorem haltCause_outside (err : ProgError) : (s.haltCause f err).outside f = s.outside f := by
  simp only [State.haltCause]; (repeat' split) <;> simp

@[simp] theorem failEmpty_outside : (s.failEmpty f).outside f = s.outside f := by
  simp [State.failEmpty]

@[simp] theorem enterHolding_outside (sameEvent : Bool) : (s.enterHolding f sameEvent).outside f = s.outside f := by
  simp only [State.enterHolding]; (repeat' split) <;> simp

@[simp] theorem finishIfDone_outside (sameEvent : Bool) : (s.finishIfDone f sameEvent).outside f = s.outside f := by
  simp only [State.finishIfDone]; (repeat' split) <;> simp

@[simp] theorem follow_outside (pending : Bool) : (s.follow f j pending).outside f = s.outside f := by
  simp [State.follow]

@[simp] theorem takeResult_outside (a : Action) (x : DoorIx × ResultCode) : (s.takeResult f a x).outside f = s.outside f := by
  simp only [State.takeResult]; (repeat' split) <;> simp

@[simp] theorem takeResults_outside (a : Action) (xs : List (DoorIx × ResultCode)) : (s.takeResults f a xs).outside f = s.outside f := forEach_keeps (State.outside f) _ (fun _ _ => by simp) _ _

@[simp] theorem act_outside (d : Descriptor) : (s.act f d).outside f = s.outside f := by
  simp only [State.act]; (repeat' split) <;> simp

@[simp] theorem issueAction_outside : (s.issueAction f).outside f = s.outside f := by
  simp only [State.issueAction]; (repeat' split) <;> simp

@[simp] theorem enterWaiting_outside : (s.enterWaiting f).outside f = s.outside f := by
  simp only [State.enterWaiting]; (repeat' split) <;> simp

@[simp] theorem recheck_outside (t : Trigger) : (s.recheck f t).outside f = s.outside f := by
  simp only [State.recheck]; (repeat' split) <;> simp

@[simp] theorem holdOver_outside : (s.holdOver f).outside f = s.outside f := by
  simp only [State.holdOver]; (repeat' split) <;> simp

@[simp] theorem limitOver_outside : (s.limitOver f).outside f = s.outside f := by
  simp only [State.limitOver]; (repeat' split) <;> simp

@[simp] theorem settle_outside : (s.settle f j).outside f = s.outside f := by
  simp [State.settle]

@[simp] theorem doorTold_outside (st : DoorState) : (s.doorTold f j st).outside f = s.outside f := by
  simp only [State.doorTold]; (repeat' split) <;> simp

@[simp] theorem postedIssued_outside (rs : List (DoorIx × ResultCode)) : (s.postedIssued f rs).outside f = s.outside f := by
  simp only [State.postedIssued]; (repeat' split) <;> simp

@[simp] theorem postedLost_outside : (s.postedLost f).outside f = s.outside f := by
  simp only [State.postedLost]; (repeat' split) <;> simp

@[simp] theorem startAt_outside (i : Fin 96) (cause : Byte) : (s.startAt f i cause).outside f = s.outside f := by
  simp [State.startAt]

@[simp] theorem haltProgram_outside : (s.haltProgram f).outside f = s.outside f := by
  simp only [State.haltProgram]; (repeat' split) <;> simp

@[simp] theorem resumeProgram_outside : (s.resumeProgram f).outside f = s.outside f := by
  simp only [State.resumeProgram]; (repeat' split) <;> simp

/-! ### Align -/

@[simp] theorem reportAlignment_outside : (s.reportAlignment f).outside f = s.outside f := by
  simp only [State.reportAlignment]
  rw [forEach_keeps (State.outside f) _ (fun _ _ => by simp)]
  simp

@[simp] theorem setAlign_outside (a : Alignment) : (s.setAlign f a).outside f = s.outside f := by
  simp [State.setAlign]

@[simp] theorem clearAlign_outside : (s.clearAlign f).outside f = s.outside f := by
  simp [State.clearAlign]

/-! ### Handler -/

@[simp] theorem discardPosted_outside (c : DiscardCause) : (s.discardPosted f c).outside f = s.outside f := by
  simp only [State.discardPosted]; (repeat' split) <;> simp

@[simp] theorem issuePosted_outside : (s.issuePosted f).outside f = s.outside f := by
  simp only [State.issuePosted]; (repeat' split) <;> simp

@[simp] theorem setIssueTime_outside (p : Posted) : (s.setIssueTime f p).outside f = s.outside f := by
  simp only [State.setIssueTime]; (repeat' split) <;> simp

@[simp] theorem takeByGrade_outside : (s.takeByGrade f).outside f = s.outside f := by
  simp only [State.takeByGrade]; (repeat' split) <;> simp

@[simp] theorem issueIfDue_outside : (s.issueIfDue f).outside f = s.outside f := by
  simp only [State.issueIfDue]; (repeat' split) <;> simp

@[simp] theorem clearRelease_outside : (s.clearRelease f).outside f = s.outside f := by
  simp [State.clearRelease]

@[simp] theorem closeAll_outside : (s.closeAll f).outside f = s.outside f := by
  simp [State.closeAll]

@[simp] theorem withdraw_outside : (s.withdraw f).outside f = s.outside f := by
  simp only [State.withdraw]; (repeat' split) <;> simp

@[simp] theorem giveRelease_outside : (s.giveRelease f).outside f = s.outside f := by
  simp only [State.giveRelease]; (repeat' split) <;> simp

/-! ### Modes -/

@[simp] theorem reportMode_outside (left : Mode) (cause : Byte) : (s.reportMode f left cause).outside f = s.outside f := by
  simp [State.reportMode]

@[simp] theorem dropPossession_outside : (s.dropPossession f).outside f = s.outside f := by
  simp [State.dropPossession]

@[simp] theorem enterMaintenance_outside : (s.enterMaintenance f).outside f = s.outside f := by
  simp [State.enterMaintenance]

@[simp] theorem changeMode_outside (new : Mode) : (s.changeMode f new).outside f = s.outside f := by
  simp only [State.changeMode]; (repeat' split) <;> simp

@[simp] theorem revokePossession_outside (cause : Byte) : (s.revokePossession f cause).outside f = s.outside f := by
  simp only [State.revokePossession]; (repeat' split) <;> simp

@[simp] theorem grantPossession_outside : (s.grantPossession f).outside f = s.outside f := by
  simp only [State.grantPossession]; (repeat' split) <;> simp

@[simp] theorem takeKey_outside (pos : KeyPos) : (s.takeKey f pos).outside f = s.outside f := by
  simp only [State.takeKey]; (repeat' split) <;> simp

@[simp] theorem keyLeavesAuto_outside (pos : KeyPos) : (s.keyLeavesAuto f pos).outside f = s.outside f := by
  simp only [State.keyLeavesAuto]; (repeat' split) <;> simp

@[simp] theorem keyEntersAuto_outside : (s.keyEntersAuto f).outside f = s.outside f := by
  simp only [State.keyEntersAuto]; (repeat' split) <;> simp

@[simp] theorem keyChange_outside (pos : KeyPos) : (s.keyChange f pos).outside f = s.outside f := by
  simp only [State.keyChange]; (repeat' split) <;> simp

@[simp] theorem keyAccepted_outside (pos : KeyPos) : (s.keyAccepted f pos).outside f = s.outside f := by
  simp only [State.keyAccepted]; (repeat' split) <;> simp

@[simp] theorem reportEmergency_outside (cause : Byte) (count : Option Nat) : (s.reportEmergency f cause count).outside f = s.outside f := by
  simp [State.reportEmergency]

@[simp] theorem setLatch_outside (cause : Byte) : (s.setLatch f cause).outside f = s.outside f := by
  simp [State.setLatch]

@[simp] theorem eoiAccepted_outside (active : Bool) : (s.eoiAccepted f active).outside f = s.outside f := by
  simp only [State.eoiAccepted]; (repeat' split) <;> simp

@[simp] theorem clearLatch_outside : (s.clearLatch f).outside f = s.outside f := by
  simp only [State.clearLatch, reportEmergency_outside]
  rw [forEach_keeps (State.outside f) _ (fun _ _ => by simp)]
  simp

/-! ### Berth -/

@[simp] theorem reportBerth_outside (left : BerthState) (c : BerthCause) : (s.reportBerth f left c).outside f = s.outside f := by
  simp only [State.reportBerth]; (repeat' split) <;> simp

@[simp] theorem moveBerth_outside (st : BerthState) (c : BerthCause) (edit : Berth → Berth) : (s.moveBerth f st c edit).outside f = s.outside f := by
  simp only [State.moveBerth]; (repeat' split) <;> simp

@[simp] theorem disarmAll_outside : (s.disarmAll f).outside f = s.outside f := forEach_keeps (State.outside f) _ (fun _ _ => by simp) _ _

@[simp] theorem enterEmpty_outside (c : BerthCause) : (s.enterEmpty f c).outside f = s.outside f := by
  simp [State.enterEmpty]

@[simp] theorem enterSettling_outside (c : BerthCause) : (s.enterSettling f c).outside f = s.outside f := by
  simp [State.enterSettling]

@[simp] theorem reBerth_outside (i : Fin 25) : (s.reBerth f i).outside f = s.outside f := by
  simp [State.reBerth]

@[simp] theorem enterMoved_outside (i : Fin 25) : (s.enterMoved f i).outside f = s.outside f := by
  simp [State.enterMoved]

@[simp] theorem resultWritten_outside (atStop : Bool) : (s.resultWritten f atStop).outside f = s.outside f := by
  simp only [State.resultWritten]; (repeat' split) <;> simp

@[simp] theorem enterStopped_outside (c : BerthCause) : (s.enterStopped f c).outside f = s.outside f := by
  simp [State.enterStopped]

@[simp] theorem emptyIfClear_outside : (s.emptyIfClear f).outside f = s.outside f := by
  simp only [State.emptyIfClear]; (repeat' split) <;> simp

@[simp] theorem depart_outside : (s.depart f).outside f = s.outside f := by
  simp [State.depart]

@[simp] theorem reportSlow_outside : (s.reportSlow f).outside f = s.outside f := by
  simp [State.reportSlow]

@[simp] theorem startApproach_outside : (s.startApproach f).outside f = s.outside f := by
  simp [State.startApproach]

@[simp] theorem arrive_outside : (s.arrive f).outside f = s.outside f := by
  simp only [State.arrive]; (repeat' split) <;> simp

@[simp] theorem approachOver_outside : (s.approachOver f).outside f = s.outside f := by
  simp only [State.approachOver]; (repeat' split) <;> simp

@[simp] theorem ab1Changed_outside (v : Bool) : (s.ab1Changed f v).outside f = s.outside f := by
  simp only [State.ab1Changed]; (repeat' split) <;> simp

@[simp] theorem ab2Changed_outside (v : Bool) : (s.ab2Changed f v).outside f = s.outside f := by
  simp only [State.ab2Changed]; (repeat' split) <;> simp

@[simp] theorem swChanged_outside (i : Fin 25) (v : Bool) : (s.swChanged f i v).outside f = s.outside f := by
  simp only [State.swChanged]; (repeat' split) <;> first | rfl | simp

@[simp] theorem storeConsist_outside (c : Consist) : (s.storeConsist f c).outside f = s.outside f := by
  simp [State.storeConsist]

@[simp] theorem recompute_outside : (s.recompute f).outside f = s.outside f := by
  simp only [State.recompute]; (repeat' split) <;> simp

@[simp] theorem arrivalTaken_outside (c : Consist) : (s.arrivalTaken f c).outside f = s.outside f := by
  simp only [State.arrivalTaken]; (repeat' split) <;> simp

@[simp] theorem ackBerth_outside : (s.ackBerth f).outside f = s.outside f := by
  simp only [State.ackBerth]; (repeat' split) <;> simp

@[simp] theorem emptyQueues_outside : (s.emptyQueues f).outside f = s.outside f := by
  simp [State.emptyQueues]

@[simp] theorem resetFace_outside : (s.resetFace f).outside f = s.outside f := by
  simp only [State.resetFace]
  split
  · rw [revokePossession_outside, forEach_keeps (State.outside f) _ (fun _ _ => by simp)]
    simp only [emptyQueues_outside, disarmAll_outside, clearAlign_outside]
    split <;> simp
  · rw [forEach_keeps (State.outside f) _ (fun _ _ => by simp)]
    simp only [emptyQueues_outside, disarmAll_outside, clearAlign_outside]
    split <;> simp

/-! ### Notices -/

/-- Nothing is left to be told to the engine of another face. -/
theorem takeNotice_outside {n : Notice} (e : n.face = f) : (s.takeNotice n).outside f = s.outside f := by
  subst e
  cases n <;> simp only [State.takeNotice, Notice.face] <;> (repeat' split) <;> simp

theorem outside_notices (ns : List Notice) (h : ∀ n ∈ s.notices, n.face = f) (h' : ∀ n ∈ ns, n.face = f) :
    State.outside f { s with notices := ns } = s.outside f := by
  have a : s.notices.filter (fun n => n.face ≠ f) = [] := by simpa using h
  have b : ns.filter (fun n => n.face ≠ f) = [] := by simpa using h'
  simp only [State.outside, a, b]

theorem notices_of_outside {t : State} (h : ∀ n ∈ s.notices, n.face = f) (e : t.outside f = s.outside f) :
    ∀ n ∈ t.notices, n.face = f := by
  have a : s.notices.filter (fun n => n.face ≠ f) = [] := by simpa using h
  have b : t.notices.filter (fun n => n.face ≠ f) = [] := (congrArg State.notices e).trans a
  simpa using b

theorem drainN_outside (n : Nat) (h : ∀ x ∈ s.notices, x.face = f) :
    (s.drainN n).outside f = s.outside f ∧ ∀ x ∈ (s.drainN n).notices, x.face = f := by
  induction n generalizing s with
  | zero => exact ⟨rfl, h⟩
  | succ n ih =>
    simp only [State.drainN]
    split
    · exact ⟨rfl, h⟩
    · next x rest e =>
      rw [e] at h
      have hr : ∀ y ∈ rest, y.face = f := fun y hy => h y (List.mem_cons_of_mem _ hy)
      have o := takeNotice_outside ({ s with notices := rest } : State) f (h x List.mem_cons_self)
      have r := ih _ (notices_of_outside { s with notices := rest } f hr o)
      refine ⟨?_, r.2⟩
      rw [r.1, o]
      exact outside_notices s f rest (by rw [e]; exact h) hr

/-- What a command on a face brings to its engine stays inside the face. -/
theorem drain_outside (h : ∀ x ∈ s.notices, x.face = f) : s.drain.outside f = s.outside f := by
  have d := drainN_outside s f 4096 h
  exact (outside_notices (s.drainN 4096) f [] d.2 (by simp)).trans d.1

/-- What no face and no notice holds is as it was after the engines are told. -/
theorem drain_keeps {α : Type} (p : State → α) (hf : ∀ f x, p (State.outside f x) = p x)
    (hn : ∀ (x : State) ns, p { x with notices := ns } = p x) : p s.drain = p s := by
  have d : ∀ n (s : State), p (s.drainN n) = p s := by
    intro n
    induction n with
    | zero => intro s; rfl
    | succ n ih =>
      intro s
      simp only [State.drainN]
      split
      · rfl
      · next x rest e =>
        rw [ih, outside_eq_of p (hf x.face) (takeNotice_outside _ x.face rfl), hn]
  exact (hn _ []).trans (d 4096 s)

end Sys2Proof.Machine
end

