-- ==== Sys2Proof/Laws/DoorSide.lean ====
section
/-! SUPPORT. What the operations on door units, gap zones and power groups leave alone inside the face: its berth side,
the groups, and the other door units. -/

namespace Sys2Proof.Machine

variable (s : State) (f : Face) (j : DoorIx)

/-! ### Fields read from outside the face -/

@[simp] theorem outside_config : (s.outside f).config = s.config := rfl
@[simp] theorem outside_msClock : (s.outside f).msClock = s.msClock := rfl
@[simp] theorem outside_scanDone : (s.outside f).scanDone = s.scanDone := rfl
@[simp] theorem outside_powered : (s.outside f).powered = s.powered := rfl

theorem par_of {s t : State} (h : t.config = s.config) (f : Face) : t.par f = s.par f := by
  cases f <;> simp [State.par, h]

theorem geo_of {s t : State} (h : t.config = s.config) (f : Face) : t.geo f = s.geo f := by
  cases f <;> simp [State.geo, h]

theorem iso_of {s t : State} (h : t.config = s.config) (f : Face) : t.iso f = s.iso f := by
  cases f <;> simp [State.iso, h]

theorem isFitted_of {s t : State} (h : t.config = s.config) (f : Face) (j : DoorIx) :
    t.isFitted f j = s.isFitted f j := by simp [State.isFitted, geo_of h]

theorem fitted_of {s t : State} (h : t.config = s.config) (f : Face) : t.fitted f = s.fitted f := by
  have : t.isFitted f = s.isFitted f := funext (isFitted_of h f)
  simp [State.fitted, this]

theorem groupOf_of {s t : State} (h : t.config = s.config) (f : Face) (j : DoorIx) : t.groupOf f j = s.groupOf f j := by
  simp [State.groupOf, geo_of h]

theorem isolated_of {s t : State} (h : t.config = s.config) (f : Face) (j : DoorIx) :
    t.isolated f j = s.isolated f j := by simp [State.isolated, iso_of h]

/-! ### Reports change no face -/

@[simp] theorem send_face (l : Link) (x : Frame) (b : Bool) (g : Face) : (s.send l x b).face g = s.face g := by
  simp [State.send]

@[simp] theorem formReport_face (l : Link) (g : Face) : (s.formReport l).face g = s.face g := by simp [State.formReport]

@[simp] theorem considerReport_face (l : Link) (g : Face) : (s.considerReport l).face g = s.face g := by
  simp only [State.considerReport]; split <;> simp

@[simp] theorem enqueueReport_face (l : Link) (c : ReportClass) (r : Record) (g : Face) :
    (s.enqueueReport l c r).face g = s.face g := by simp [State.enqueueReport]

@[simp] theorem offerRecord_face (l : Link) (c : ReportClass) (r : Record) (g : Face) :
    (s.offerRecord l c r).face g = s.face g := by
  simp only [State.offerRecord]; (repeat' split) <;> simp

@[simp] theorem report_face (c : ReportClass) (k : ReportKind) (h : Face) (o : Option Nat) (d : List Byte) (g : Face) :
    (s.report c k h o d).face g = s.face g := by simp [State.report]

/-! ### Clock, configuration and scan state under each operation -/

@[simp] theorem recomputeClp_config (subject : Option DoorIx) : (s.recomputeClp f subject).config = s.config := outside_eq_of State.config (fun _ => rfl) (recomputeClp_outside ..)
@[simp] theorem recomputeClp_msClock (subject : Option DoorIx) : (s.recomputeClp f subject).msClock = s.msClock := outside_eq_of State.msClock (fun _ => rfl) (recomputeClp_outside ..)
@[simp] theorem recomputeClp_scanDone (subject : Option DoorIx) : (s.recomputeClp f subject).scanDone = s.scanDone := outside_eq_of State.scanDone (fun _ => rfl) (recomputeClp_outside ..)
@[simp] theorem countBoarding_config : (s.countBoarding f j).config = s.config := outside_eq_of State.config (fun _ => rfl) (countBoarding_outside ..)
@[simp] theorem countBoarding_msClock : (s.countBoarding f j).msClock = s.msClock := outside_eq_of State.msClock (fun _ => rfl) (countBoarding_outside ..)
@[simp] theorem countBoarding_scanDone : (s.countBoarding f j).scanDone = s.scanDone := outside_eq_of State.scanDone (fun _ => rfl) (countBoarding_outside ..)
@[simp] theorem countAlighting_config : (s.countAlighting f j).config = s.config := outside_eq_of State.config (fun _ => rfl) (countAlighting_outside ..)
@[simp] theorem countAlighting_msClock : (s.countAlighting f j).msClock = s.msClock := outside_eq_of State.msClock (fun _ => rfl) (countAlighting_outside ..)
@[simp] theorem countAlighting_scanDone : (s.countAlighting f j).scanDone = s.scanDone := outside_eq_of State.scanDone (fun _ => rfl) (countAlighting_outside ..)
@[simp] theorem moveTracker_config : (s.moveTracker f j).config = s.config := outside_eq_of State.config (fun _ => rfl) (moveTracker_outside ..)
@[simp] theorem moveTracker_msClock : (s.moveTracker f j).msClock = s.msClock := outside_eq_of State.msClock (fun _ => rfl) (moveTracker_outside ..)
@[simp] theorem moveTracker_scanDone : (s.moveTracker f j).scanDone = s.scanDone := outside_eq_of State.scanDone (fun _ => rfl) (moveTracker_outside ..)
@[simp] theorem clearCounts_config : (s.clearCounts f).config = s.config := outside_eq_of State.config (fun _ => rfl) (clearCounts_outside ..)
@[simp] theorem clearCounts_msClock : (s.clearCounts f).msClock = s.msClock := outside_eq_of State.msClock (fun _ => rfl) (clearCounts_outside ..)
@[simp] theorem clearCounts_scanDone : (s.clearCounts f).scanDone = s.scanDone := outside_eq_of State.scanDone (fun _ => rfl) (clearCounts_outside ..)
@[simp] theorem setQuiet_config (v : Bool) : (s.setQuiet f v).config = s.config := outside_eq_of State.config (fun _ => rfl) (setQuiet_outside ..)
@[simp] theorem setQuiet_msClock (v : Bool) : (s.setQuiet f v).msClock = s.msClock := outside_eq_of State.msClock (fun _ => rfl) (setQuiet_outside ..)
@[simp] theorem setQuiet_scanDone (v : Bool) : (s.setQuiet f v).scanDone = s.scanDone := outside_eq_of State.scanDone (fun _ => rfl) (setQuiet_outside ..)
@[simp] theorem restartQuiet_config : (s.restartQuiet f).config = s.config := outside_eq_of State.config (fun _ => rfl) (restartQuiet_outside ..)
@[simp] theorem restartQuiet_msClock : (s.restartQuiet f).msClock = s.msClock := outside_eq_of State.msClock (fun _ => rfl) (restartQuiet_outside ..)
@[simp] theorem restartQuiet_scanDone : (s.restartQuiet f).scanDone = s.scanDone := outside_eq_of State.scanDone (fun _ => rfl) (restartQuiet_outside ..)
@[simp] theorem stopQuiet_config : (s.stopQuiet f).config = s.config := outside_eq_of State.config (fun _ => rfl) (stopQuiet_outside ..)
@[simp] theorem stopQuiet_msClock : (s.stopQuiet f).msClock = s.msClock := outside_eq_of State.msClock (fun _ => rfl) (stopQuiet_outside ..)
@[simp] theorem stopQuiet_scanDone : (s.stopQuiet f).scanDone = s.scanDone := outside_eq_of State.scanDone (fun _ => rfl) (stopQuiet_outside ..)
@[simp] theorem quietOfMap_config : (s.quietOfMap f).config = s.config := outside_eq_of State.config (fun _ => rfl) (quietOfMap_outside ..)
@[simp] theorem quietOfMap_msClock : (s.quietOfMap f).msClock = s.msClock := outside_eq_of State.msClock (fun _ => rfl) (quietOfMap_outside ..)
@[simp] theorem quietOfMap_scanDone : (s.quietOfMap f).scanDone = s.scanDone := outside_eq_of State.scanDone (fun _ => rfl) (quietOfMap_outside ..)
@[simp] theorem reportGap_config (c : ReportClass) (event what : Byte) (duration : Option Nat) (slot : Option (Fin 64)) : (s.reportGap c f j event what duration slot).config = s.config := outside_eq_of State.config (fun _ => rfl) (reportGap_outside ..)
@[simp] theorem reportGap_msClock (c : ReportClass) (event what : Byte) (duration : Option Nat) (slot : Option (Fin 64)) : (s.reportGap c f j event what duration slot).msClock = s.msClock := outside_eq_of State.msClock (fun _ => rfl) (reportGap_outside ..)
@[simp] theorem reportGap_scanDone (c : ReportClass) (event what : Byte) (duration : Option Nat) (slot : Option (Fin 64)) : (s.reportGap c f j event what duration slot).scanDone = s.scanDone := outside_eq_of State.scanDone (fun _ => rfl) (reportGap_outside ..)
@[simp] theorem onset_config : (s.onset f j).config = s.config := outside_eq_of State.config (fun _ => rfl) (onset_outside ..)
@[simp] theorem onset_msClock : (s.onset f j).msClock = s.msClock := outside_eq_of State.msClock (fun _ => rfl) (onset_outside ..)
@[simp] theorem onset_scanDone : (s.onset f j).scanDone = s.scanDone := outside_eq_of State.scanDone (fun _ => rfl) (onset_outside ..)
@[simp] theorem putZone_config (z : Zone) : (s.putZone f j z).config = s.config := outside_eq_of State.config (fun _ => rfl) (putZone_outside ..)
@[simp] theorem putZone_msClock (z : Zone) : (s.putZone f j z).msClock = s.msClock := outside_eq_of State.msClock (fun _ => rfl) (putZone_outside ..)
@[simp] theorem putZone_scanDone (z : Zone) : (s.putZone f j z).scanDone = s.scanDone := outside_eq_of State.scanDone (fun _ => rfl) (putZone_outside ..)
@[simp] theorem occupyZone_config : (s.occupyZone f j).config = s.config := outside_eq_of State.config (fun _ => rfl) (occupyZone_outside ..)
@[simp] theorem occupyZone_msClock : (s.occupyZone f j).msClock = s.msClock := outside_eq_of State.msClock (fun _ => rfl) (occupyZone_outside ..)
@[simp] theorem occupyZone_scanDone : (s.occupyZone f j).scanDone = s.scanDone := outside_eq_of State.scanDone (fun _ => rfl) (occupyZone_outside ..)
@[simp] theorem completeRecord_config (e : Episode) (outcome : EpisodeOutcome) : (s.completeRecord f e outcome).config = s.config := outside_eq_of State.config (fun _ => rfl) (completeRecord_outside ..)
@[simp] theorem completeRecord_msClock (e : Episode) (outcome : EpisodeOutcome) : (s.completeRecord f e outcome).msClock = s.msClock := outside_eq_of State.msClock (fun _ => rfl) (completeRecord_outside ..)
@[simp] theorem completeRecord_scanDone (e : Episode) (outcome : EpisodeOutcome) : (s.completeRecord f e outcome).scanDone = s.scanDone := outside_eq_of State.scanDone (fun _ => rfl) (completeRecord_outside ..)
@[simp] theorem leaveZone_config (z : Zone) (outcome : EpisodeOutcome) : (s.leaveZone f j z outcome).config = s.config := outside_eq_of State.config (fun _ => rfl) (leaveZone_outside ..)
@[simp] theorem leaveZone_msClock (z : Zone) (outcome : EpisodeOutcome) : (s.leaveZone f j z outcome).msClock = s.msClock := outside_eq_of State.msClock (fun _ => rfl) (leaveZone_outside ..)
@[simp] theorem leaveZone_scanDone (z : Zone) (outcome : EpisodeOutcome) : (s.leaveZone f j z outcome).scanDone = s.scanDone := outside_eq_of State.scanDone (fun _ => rfl) (leaveZone_outside ..)
@[simp] theorem disarmZone_config : (s.disarmZone f j).config = s.config := outside_eq_of State.config (fun _ => rfl) (disarmZone_outside ..)
@[simp] theorem disarmZone_msClock : (s.disarmZone f j).msClock = s.msClock := outside_eq_of State.msClock (fun _ => rfl) (disarmZone_outside ..)
@[simp] theorem disarmZone_scanDone : (s.disarmZone f j).scanDone = s.scanDone := outside_eq_of State.scanDone (fun _ => rfl) (disarmZone_outside ..)
@[simp] theorem armZone_config : (s.armZone f j).config = s.config := outside_eq_of State.config (fun _ => rfl) (armZone_outside ..)
@[simp] theorem armZone_msClock : (s.armZone f j).msClock = s.msClock := outside_eq_of State.msClock (fun _ => rfl) (armZone_outside ..)
@[simp] theorem armZone_scanDone : (s.armZone f j).scanDone = s.scanDone := outside_eq_of State.scanDone (fun _ => rfl) (armZone_outside ..)
@[simp] theorem gapChanged_config : (s.gapChanged f j).config = s.config := outside_eq_of State.config (fun _ => rfl) (gapChanged_outside ..)
@[simp] theorem gapChanged_msClock : (s.gapChanged f j).msClock = s.msClock := outside_eq_of State.msClock (fun _ => rfl) (gapChanged_outside ..)
@[simp] theorem gapChanged_scanDone : (s.gapChanged f j).scanDone = s.scanDone := outside_eq_of State.scanDone (fun _ => rfl) (gapChanged_outside ..)
@[simp] theorem clearingExpired_config : (s.clearingExpired f j).config = s.config := outside_eq_of State.config (fun _ => rfl) (clearingExpired_outside ..)
@[simp] theorem clearingExpired_msClock : (s.clearingExpired f j).msClock = s.msClock := outside_eq_of State.msClock (fun _ => rfl) (clearingExpired_outside ..)
@[simp] theorem clearingExpired_scanDone : (s.clearingExpired f j).scanDone = s.scanDone := outside_eq_of State.scanDone (fun _ => rfl) (clearingExpired_outside ..)
@[simp] theorem reportDoor_config : (s.reportDoor f j).config = s.config := outside_eq_of State.config (fun _ => rfl) (reportDoor_outside ..)
@[simp] theorem reportDoor_msClock : (s.reportDoor f j).msClock = s.msClock := outside_eq_of State.msClock (fun _ => rfl) (reportDoor_outside ..)
@[simp] theorem reportDoor_scanDone : (s.reportDoor f j).scanDone = s.scanDone := outside_eq_of State.scanDone (fun _ => rfl) (reportDoor_outside ..)
@[simp] theorem senseTracker_config (old : Option DoorState) (st : DoorState) : (s.senseTracker f j old st).config = s.config := outside_eq_of State.config (fun _ => rfl) (senseTracker_outside ..)
@[simp] theorem senseTracker_msClock (old : Option DoorState) (st : DoorState) : (s.senseTracker f j old st).msClock = s.msClock := outside_eq_of State.msClock (fun _ => rfl) (senseTracker_outside ..)
@[simp] theorem senseTracker_scanDone (old : Option DoorState) (st : DoorState) : (s.senseTracker f j old st).scanDone = s.scanDone := outside_eq_of State.scanDone (fun _ => rfl) (senseTracker_outside ..)
@[simp] theorem senseDeferral_config : (s.senseDeferral f j).config = s.config := outside_eq_of State.config (fun _ => rfl) (senseDeferral_outside ..)
@[simp] theorem senseDeferral_msClock : (s.senseDeferral f j).msClock = s.msClock := outside_eq_of State.msClock (fun _ => rfl) (senseDeferral_outside ..)
@[simp] theorem senseDeferral_scanDone : (s.senseDeferral f j).scanDone = s.scanDone := outside_eq_of State.scanDone (fun _ => rfl) (senseDeferral_outside ..)
@[simp] theorem senseZone_config (st : DoorState) : (s.senseZone f j st).config = s.config := outside_eq_of State.config (fun _ => rfl) (senseZone_outside ..)
@[simp] theorem senseZone_msClock (st : DoorState) : (s.senseZone f j st).msClock = s.msClock := outside_eq_of State.msClock (fun _ => rfl) (senseZone_outside ..)
@[simp] theorem senseZone_scanDone (st : DoorState) : (s.senseZone f j st).scanDone = s.scanDone := outside_eq_of State.scanDone (fun _ => rfl) (senseZone_outside ..)
@[simp] theorem enterState_config (st : DoorState) (edit : DoorRec → DoorRec) : (s.enterState f j st edit).config = s.config := outside_eq_of State.config (fun _ => rfl) (enterState_outside ..)
@[simp] theorem enterState_msClock (st : DoorState) (edit : DoorRec → DoorRec) : (s.enterState f j st edit).msClock = s.msClock := outside_eq_of State.msClock (fun _ => rfl) (enterState_outside ..)
@[simp] theorem enterState_scanDone (st : DoorState) (edit : DoorRec → DoorRec) : (s.enterState f j st edit).scanDone = s.scanDone := outside_eq_of State.scanDone (fun _ => rfl) (enterState_outside ..)
@[simp] theorem enterTold_config (st : DoorState) (edit : DoorRec → DoorRec) : (s.enterTold f j st edit).config = s.config := outside_eq_of State.config (fun _ => rfl) (enterTold_outside ..)
@[simp] theorem enterTold_msClock (st : DoorState) (edit : DoorRec → DoorRec) : (s.enterTold f j st edit).msClock = s.msClock := outside_eq_of State.msClock (fun _ => rfl) (enterTold_outside ..)
@[simp] theorem enterTold_scanDone (st : DoorState) (edit : DoorRec → DoorRec) : (s.enterTold f j st edit).scanDone = s.scanDone := outside_eq_of State.scanDone (fun _ => rfl) (enterTold_outside ..)
@[simp] theorem recordStart_config (g : GroupIx) : (s.recordStart f g).config = s.config := outside_eq_of State.config (fun _ => rfl) (recordStart_outside ..)
@[simp] theorem recordStart_msClock (g : GroupIx) : (s.recordStart f g).msClock = s.msClock := outside_eq_of State.msClock (fun _ => rfl) (recordStart_outside ..)
@[simp] theorem recordStart_scanDone (g : GroupIx) : (s.recordStart f g).scanDone = s.scanDone := outside_eq_of State.scanDone (fun _ => rfl) (recordStart_outside ..)
@[simp] theorem obstruct_config : (s.obstruct f j).config = s.config := outside_eq_of State.config (fun _ => rfl) (obstruct_outside ..)
@[simp] theorem obstruct_msClock : (s.obstruct f j).msClock = s.msClock := outside_eq_of State.msClock (fun _ => rfl) (obstruct_outside ..)
@[simp] theorem obstruct_scanDone : (s.obstruct f j).scanDone = s.scanDone := outside_eq_of State.scanDone (fun _ => rfl) (obstruct_outside ..)
@[simp] theorem enterClosing_config : (s.enterClosing f j).config = s.config := outside_eq_of State.config (fun _ => rfl) (enterClosing_outside ..)
@[simp] theorem enterClosing_msClock : (s.enterClosing f j).msClock = s.msClock := outside_eq_of State.msClock (fun _ => rfl) (enterClosing_outside ..)
@[simp] theorem enterClosing_scanDone : (s.enterClosing f j).scanDone = s.scanDone := outside_eq_of State.scanDone (fun _ => rfl) (enterClosing_outside ..)
@[simp] theorem grantOnce_config (g : GroupIx) : (s.grantOnce f g).config = s.config := outside_eq_of State.config (fun _ => rfl) (grantOnce_outside ..)
@[simp] theorem grantOnce_msClock (g : GroupIx) : (s.grantOnce f g).msClock = s.msClock := outside_eq_of State.msClock (fun _ => rfl) (grantOnce_outside ..)
@[simp] theorem grantOnce_scanDone (g : GroupIx) : (s.grantOnce f g).scanDone = s.scanDone := outside_eq_of State.scanDone (fun _ => rfl) (grantOnce_outside ..)
@[simp] theorem evalGrants_config (g : GroupIx) : (s.evalGrants f g).config = s.config := outside_eq_of State.config (fun _ => rfl) (evalGrants_outside ..)
@[simp] theorem evalGrants_msClock (g : GroupIx) : (s.evalGrants f g).msClock = s.msClock := outside_eq_of State.msClock (fun _ => rfl) (evalGrants_outside ..)
@[simp] theorem evalGrants_scanDone (g : GroupIx) : (s.evalGrants f g).scanDone = s.scanDone := outside_eq_of State.scanDone (fun _ => rfl) (evalGrants_outside ..)
@[simp] theorem evalIfHead_config (g : GroupIx) : (s.evalIfHead f g j).config = s.config := outside_eq_of State.config (fun _ => rfl) (evalIfHead_outside ..)
@[simp] theorem evalIfHead_msClock (g : GroupIx) : (s.evalIfHead f g j).msClock = s.msClock := outside_eq_of State.msClock (fun _ => rfl) (evalIfHead_outside ..)
@[simp] theorem evalIfHead_scanDone (g : GroupIx) : (s.evalIfHead f g j).scanDone = s.scanDone := outside_eq_of State.scanDone (fun _ => rfl) (evalIfHead_outside ..)
@[simp] theorem placeEntry_config (m : Motion) (c : ReqClass) : (s.placeEntry f j m c).config = s.config := outside_eq_of State.config (fun _ => rfl) (placeEntry_outside ..)
@[simp] theorem placeEntry_msClock (m : Motion) (c : ReqClass) : (s.placeEntry f j m c).msClock = s.msClock := outside_eq_of State.msClock (fun _ => rfl) (placeEntry_outside ..)
@[simp] theorem placeEntry_scanDone (m : Motion) (c : ReqClass) : (s.placeEntry f j m c).scanDone = s.scanDone := outside_eq_of State.scanDone (fun _ => rfl) (placeEntry_outside ..)
@[simp] theorem removeEntry_config : (s.removeEntry f j).config = s.config := outside_eq_of State.config (fun _ => rfl) (removeEntry_outside ..)
@[simp] theorem removeEntry_msClock : (s.removeEntry f j).msClock = s.msClock := outside_eq_of State.msClock (fun _ => rfl) (removeEntry_outside ..)
@[simp] theorem removeEntry_scanDone : (s.removeEntry f j).scanDone = s.scanDone := outside_eq_of State.scanDone (fun _ => rfl) (removeEntry_outside ..)
@[simp] theorem raiseEntry_config : (s.raiseEntry f j).config = s.config := outside_eq_of State.config (fun _ => rfl) (raiseEntry_outside ..)
@[simp] theorem raiseEntry_msClock : (s.raiseEntry f j).msClock = s.msClock := outside_eq_of State.msClock (fun _ => rfl) (raiseEntry_outside ..)
@[simp] theorem raiseEntry_scanDone : (s.raiseEntry f j).scanDone = s.scanDone := outside_eq_of State.scanDone (fun _ => rfl) (raiseEntry_outside ..)
@[simp] theorem openEntry_config : (s.openEntry f j).config = s.config := outside_eq_of State.config (fun _ => rfl) (openEntry_outside ..)
@[simp] theorem openEntry_msClock : (s.openEntry f j).msClock = s.msClock := outside_eq_of State.msClock (fun _ => rfl) (openEntry_outside ..)
@[simp] theorem openEntry_scanDone : (s.openEntry f j).scanDone = s.scanDone := outside_eq_of State.scanDone (fun _ => rfl) (openEntry_outside ..)
@[simp] theorem enterUnlatched_config : (s.enterUnlatched f j).config = s.config := outside_eq_of State.config (fun _ => rfl) (enterUnlatched_outside ..)
@[simp] theorem enterUnlatched_msClock : (s.enterUnlatched f j).msClock = s.msClock := outside_eq_of State.msClock (fun _ => rfl) (enterUnlatched_outside ..)
@[simp] theorem enterUnlatched_scanDone : (s.enterUnlatched f j).scanDone = s.scanDone := outside_eq_of State.scanDone (fun _ => rfl) (enterUnlatched_outside ..)
@[simp] theorem closeEntry_config : (s.closeEntry f j).config = s.config := outside_eq_of State.config (fun _ => rfl) (closeEntry_outside ..)
@[simp] theorem closeEntry_msClock : (s.closeEntry f j).msClock = s.msClock := outside_eq_of State.msClock (fun _ => rfl) (closeEntry_outside ..)
@[simp] theorem closeEntry_scanDone : (s.closeEntry f j).scanDone = s.scanDone := outside_eq_of State.scanDone (fun _ => rfl) (closeEntry_outside ..)
@[simp] theorem decideDeferral_config : (s.decideDeferral f j).config = s.config := outside_eq_of State.config (fun _ => rfl) (decideDeferral_outside ..)
@[simp] theorem decideDeferral_msClock : (s.decideDeferral f j).msClock = s.msClock := outside_eq_of State.msClock (fun _ => rfl) (decideDeferral_outside ..)
@[simp] theorem decideDeferral_scanDone : (s.decideDeferral f j).scanDone = s.scanDone := outside_eq_of State.scanDone (fun _ => rfl) (decideDeferral_outside ..)
@[simp] theorem enter_config (st : DoorState) (edit : DoorRec → DoorRec) : (s.enter f j st edit).config = s.config := outside_eq_of State.config (fun _ => rfl) (enter_outside ..)
@[simp] theorem enter_msClock (st : DoorState) (edit : DoorRec → DoorRec) : (s.enter f j st edit).msClock = s.msClock := outside_eq_of State.msClock (fun _ => rfl) (enter_outside ..)
@[simp] theorem enter_scanDone (st : DoorState) (edit : DoorRec → DoorRec) : (s.enter f j st edit).scanDone = s.scanDone := outside_eq_of State.scanDone (fun _ => rfl) (enter_outside ..)
@[simp] theorem enterFault_config (c : FaultCause) : (s.enterFault f j c).config = s.config := outside_eq_of State.config (fun _ => rfl) (enterFault_outside ..)
@[simp] theorem enterFault_msClock (c : FaultCause) : (s.enterFault f j c).msClock = s.msClock := outside_eq_of State.msClock (fun _ => rfl) (enterFault_outside ..)
@[simp] theorem enterFault_scanDone (c : FaultCause) : (s.enterFault f j c).scanDone = s.scanDone := outside_eq_of State.scanDone (fun _ => rfl) (enterFault_outside ..)
@[simp] theorem takeOpen_config (c : ReqClass) : (s.takeOpen f j c).1.config = s.config := outside_eq_of State.config (fun _ => rfl) (takeOpen_outside ..)
@[simp] theorem takeOpen_msClock (c : ReqClass) : (s.takeOpen f j c).1.msClock = s.msClock := outside_eq_of State.msClock (fun _ => rfl) (takeOpen_outside ..)
@[simp] theorem takeOpen_scanDone (c : ReqClass) : (s.takeOpen f j c).1.scanDone = s.scanDone := outside_eq_of State.scanDone (fun _ => rfl) (takeOpen_outside ..)
@[simp] theorem takeClose_config : (s.takeClose f j).1.config = s.config := outside_eq_of State.config (fun _ => rfl) (takeClose_outside ..)
@[simp] theorem takeClose_msClock : (s.takeClose f j).1.msClock = s.msClock := outside_eq_of State.msClock (fun _ => rfl) (takeClose_outside ..)
@[simp] theorem takeClose_scanDone : (s.takeClose f j).1.scanDone = s.scanDone := outside_eq_of State.scanDone (fun _ => rfl) (takeClose_outside ..)
@[simp] theorem request_config (r : DoorRequest) : (s.request f j r).1.config = s.config := outside_eq_of State.config (fun _ => rfl) (request_outside ..)
@[simp] theorem request_msClock (r : DoorRequest) : (s.request f j r).1.msClock = s.msClock := outside_eq_of State.msClock (fun _ => rfl) (request_outside ..)
@[simp] theorem request_scanDone (r : DoorRequest) : (s.request f j r).1.scanDone = s.scanDone := outside_eq_of State.scanDone (fun _ => rfl) (request_outside ..)
@[simp] theorem requestEach_config (js : List DoorIx) (r : DoorRequest) : (s.requestEach f js r).config = s.config := outside_eq_of State.config (fun _ => rfl) (requestEach_outside ..)
@[simp] theorem requestEach_msClock (js : List DoorIx) (r : DoorRequest) : (s.requestEach f js r).msClock = s.msClock := outside_eq_of State.msClock (fun _ => rfl) (requestEach_outside ..)
@[simp] theorem requestEach_scanDone (js : List DoorIx) (r : DoorRequest) : (s.requestEach f js r).scanDone = s.scanDone := outside_eq_of State.scanDone (fun _ => rfl) (requestEach_outside ..)
@[simp] theorem emergencyIfLocked_config : (s.emergencyIfLocked f j).config = s.config := outside_eq_of State.config (fun _ => rfl) (emergencyIfLocked_outside ..)
@[simp] theorem emergencyIfLocked_msClock : (s.emergencyIfLocked f j).msClock = s.msClock := outside_eq_of State.msClock (fun _ => rfl) (emergencyIfLocked_outside ..)
@[simp] theorem emergencyIfLocked_scanDone : (s.emergencyIfLocked f j).scanDone = s.scanDone := outside_eq_of State.scanDone (fun _ => rfl) (emergencyIfLocked_outside ..)
@[simp] theorem resolve_config : (s.resolve f j).config = s.config := outside_eq_of State.config (fun _ => rfl) (resolve_outside ..)
@[simp] theorem resolve_msClock : (s.resolve f j).msClock = s.msClock := outside_eq_of State.msClock (fun _ => rfl) (resolve_outside ..)
@[simp] theorem resolve_scanDone : (s.resolve f j).scanDone = s.scanDone := outside_eq_of State.scanDone (fun _ => rfl) (resolve_outside ..)
@[simp] theorem resolveNew_config (js : List DoorIx) : (s.resolveNew f js).config = s.config := outside_eq_of State.config (fun _ => rfl) (resolveNew_outside ..)
@[simp] theorem resolveNew_msClock (js : List DoorIx) : (s.resolveNew f js).msClock = s.msClock := outside_eq_of State.msClock (fun _ => rfl) (resolveNew_outside ..)
@[simp] theorem resolveNew_scanDone (js : List DoorIx) : (s.resolveNew f js).scanDone = s.scanDone := outside_eq_of State.scanDone (fun _ => rfl) (resolveNew_outside ..)
@[simp] theorem reachedOpen_config : (s.reachedOpen f j).config = s.config := outside_eq_of State.config (fun _ => rfl) (reachedOpen_outside ..)
@[simp] theorem reachedOpen_msClock : (s.reachedOpen f j).msClock = s.msClock := outside_eq_of State.msClock (fun _ => rfl) (reachedOpen_outside ..)
@[simp] theorem reachedOpen_scanDone : (s.reachedOpen f j).scanDone = s.scanDone := outside_eq_of State.scanDone (fun _ => rfl) (reachedOpen_outside ..)
@[simp] theorem reversalEnds_config : (s.reversalEnds f j).config = s.config := outside_eq_of State.config (fun _ => rfl) (reversalEnds_outside ..)
@[simp] theorem reversalEnds_msClock : (s.reversalEnds f j).msClock = s.msClock := outside_eq_of State.msClock (fun _ => rfl) (reversalEnds_outside ..)
@[simp] theorem reversalEnds_scanDone : (s.reversalEnds f j).scanDone = s.scanDone := outside_eq_of State.scanDone (fun _ => rfl) (reversalEnds_outside ..)
@[simp] theorem ownChange_config (old new : DoorInputs) : (s.ownChange f j old new).config = s.config := outside_eq_of State.config (fun _ => rfl) (ownChange_outside ..)
@[simp] theorem ownChange_msClock (old new : DoorInputs) : (s.ownChange f j old new).msClock = s.msClock := outside_eq_of State.msClock (fun _ => rfl) (ownChange_outside ..)
@[simp] theorem ownChange_scanDone (old new : DoorInputs) : (s.ownChange f j old new).scanDone = s.scanDone := outside_eq_of State.scanDone (fun _ => rfl) (ownChange_outside ..)
@[simp] theorem checkPosition_config (old new : DoorInputs) : (s.checkPosition f j old new).config = s.config := outside_eq_of State.config (fun _ => rfl) (checkPosition_outside ..)
@[simp] theorem checkPosition_msClock (old new : DoorInputs) : (s.checkPosition f j old new).msClock = s.msClock := outside_eq_of State.msClock (fun _ => rfl) (checkPosition_outside ..)
@[simp] theorem checkPosition_scanDone (old new : DoorInputs) : (s.checkPosition f j old new).scanDone = s.scanDone := outside_eq_of State.scanDone (fun _ => rfl) (checkPosition_outside ..)
@[simp] theorem takeInputs_config (old new : DoorInputs) : (s.takeInputs f j old new).config = s.config := outside_eq_of State.config (fun _ => rfl) (takeInputs_outside ..)
@[simp] theorem takeInputs_msClock (old new : DoorInputs) : (s.takeInputs f j old new).msClock = s.msClock := outside_eq_of State.msClock (fun _ => rfl) (takeInputs_outside ..)
@[simp] theorem takeInputs_scanDone (old new : DoorInputs) : (s.takeInputs f j old new).scanDone = s.scanDone := outside_eq_of State.scanDone (fun _ => rfl) (takeInputs_outside ..)
@[simp] theorem doorChange_config (v : LeafSignals) : (s.doorChange f j v).config = s.config := outside_eq_of State.config (fun _ => rfl) (doorChange_outside ..)
@[simp] theorem doorChange_msClock (v : LeafSignals) : (s.doorChange f j v).msClock = s.msClock := outside_eq_of State.msClock (fun _ => rfl) (doorChange_outside ..)
@[simp] theorem doorChange_scanDone (v : LeafSignals) : (s.doorChange f j v).scanDone = s.scanDone := outside_eq_of State.scanDone (fun _ => rfl) (doorChange_outside ..)
@[simp] theorem takeSense_config (old new : DoorInputs) : (s.takeSense f j old new).config = s.config := outside_eq_of State.config (fun _ => rfl) (takeSense_outside ..)
@[simp] theorem takeSense_msClock (old new : DoorInputs) : (s.takeSense f j old new).msClock = s.msClock := outside_eq_of State.msClock (fun _ => rfl) (takeSense_outside ..)
@[simp] theorem takeSense_scanDone (old new : DoorInputs) : (s.takeSense f j old new).scanDone = s.scanDone := outside_eq_of State.scanDone (fun _ => rfl) (takeSense_outside ..)
@[simp] theorem senseChange_config (v : SenseSignals) : (s.senseChange f j v).config = s.config := outside_eq_of State.config (fun _ => rfl) (senseChange_outside ..)
@[simp] theorem senseChange_msClock (v : SenseSignals) : (s.senseChange f j v).msClock = s.msClock := outside_eq_of State.msClock (fun _ => rfl) (senseChange_outside ..)
@[simp] theorem senseChange_scanDone (v : SenseSignals) : (s.senseChange f j v).scanDone = s.scanDone := outside_eq_of State.scanDone (fun _ => rfl) (senseChange_outside ..)
@[simp] theorem deferralExpired_config : (s.deferralExpired f j).config = s.config := outside_eq_of State.config (fun _ => rfl) (deferralExpired_outside ..)
@[simp] theorem deferralExpired_msClock : (s.deferralExpired f j).msClock = s.msClock := outside_eq_of State.msClock (fun _ => rfl) (deferralExpired_outside ..)
@[simp] theorem deferralExpired_scanDone : (s.deferralExpired f j).scanDone = s.scanDone := outside_eq_of State.scanDone (fun _ => rfl) (deferralExpired_outside ..)
@[simp] theorem afterFaceReset_config : (s.afterFaceReset f j).config = s.config := outside_eq_of State.config (fun _ => rfl) (afterFaceReset_outside ..)
@[simp] theorem afterFaceReset_msClock : (s.afterFaceReset f j).msClock = s.msClock := outside_eq_of State.msClock (fun _ => rfl) (afterFaceReset_outside ..)
@[simp] theorem afterFaceReset_scanDone : (s.afterFaceReset f j).scanDone = s.scanDone := outside_eq_of State.scanDone (fun _ => rfl) (afterFaceReset_outside ..)

/-! ### The berth side -/

@[simp] theorem mapDoor_side (h : DoorRec → DoorRec) (g : Face) : (s.mapDoor f j h).side g = s.side g := by
  cases f <;> cases g <;> rfl

@[simp] theorem mapSense_side (h : DoorSense → DoorSense) (g : Face) : (s.mapSense f j h).side g = s.side g := by
  cases f <;> cases g <;> rfl

@[simp] theorem mapGroup_side (p : GroupIx) (h : Group → Group) (g : Face) : (s.mapGroup f p h).side g = s.side g := by
  cases f <;> cases g <;> rfl

@[simp] theorem tell_side (n : Notice) (g : Face) : (s.tell n).side g = s.side g := by cases g <;> rfl

theorem mapFace_side (h : FaceState → FaceState) (g : Face) (e : ∀ x, (h x).berthSide = x.berthSide) :
    (s.mapFace f h).side g = s.side g := by
  cases f <;> cases g <;> simp [State.side, State.mapFace, State.face, e]

@[simp] theorem report_side (c : ReportClass) (k : ReportKind) (h : Face) (o : Option Nat) (d : List Byte) (g : Face) :
    (s.report c k h o d).side g = s.side g := by simp [State.side]

@[simp] theorem recomputeClp_side (subject : Option DoorIx) (g : Face) : (s.recomputeClp f subject).side g = s.side g := by
  simp only [State.recomputeClp]
  (repeat' split) <;> first
    | rfl
    | exact mapFace_side _ _ _ _ (fun _ => rfl)
    | (simp only [tell_side, report_side]; exact mapFace_side _ _ _ _ (fun _ => rfl))

@[simp] theorem reportGap_side (c : ReportClass) (event what : Byte) (duration : Option Nat) (slot : Option (Fin 64)) (g : Face) : (s.reportGap c f j event what duration slot).side g = s.side g := by
  simp [State.reportGap]

@[simp] theorem onset_side (g : Face) : (s.onset f j).side g = s.side g := by
  simp only [State.onset, mapSense_side]
  exact mapFace_side _ _ _ _ (fun _ => rfl)

@[simp] theorem putZone_side (z : Zone) (g : Face) : (s.putZone f j z).side g = s.side g := by
  simp [State.putZone]

@[simp] theorem occupyZone_side (g : Face) : (s.occupyZone f j).side g = s.side g := by
  simp only [State.occupyZone]; (repeat' split) <;> simp

@[simp] theorem completeRecord_side (e : Episode) (outcome : EpisodeOutcome) (g : Face) : (s.completeRecord f e outcome).side g = s.side g := by
  simp only [State.completeRecord]
  split
  · rfl
  · exact mapFace_side _ _ _ _ (fun _ => rfl)

@[simp] theorem leaveZone_side (z : Zone) (outcome : EpisodeOutcome) (g : Face) : (s.leaveZone f j z outcome).side g = s.side g := by
  simp only [State.leaveZone]; (repeat' split) <;> simp

@[simp] theorem disarmZone_side (g : Face) : (s.disarmZone f j).side g = s.side g := by
  simp only [State.disarmZone]; (repeat' split) <;> simp

@[simp] theorem armZone_side (g : Face) : (s.armZone f j).side g = s.side g := by
  simp only [State.armZone]; (repeat' split) <;> simp

@[simp] theorem gapChanged_side (g : Face) : (s.gapChanged f j).side g = s.side g := by
  simp only [State.gapChanged]; (repeat' split) <;> simp

@[simp] theorem clearingExpired_side (g : Face) : (s.clearingExpired f j).side g = s.side g := by
  simp only [State.clearingExpired]; (repeat' split) <;> simp

@[simp] theorem reportDoor_side (g : Face) : (s.reportDoor f j).side g = s.side g := by
  simp [State.reportDoor]

@[simp] theorem senseTracker_side (old : Option DoorState) (st : DoorState) (g : Face) : (s.senseTracker f j old st).side g = s.side g := by
  simp only [State.senseTracker]; (repeat' split) <;> simp

@[simp] theorem senseDeferral_side (g : Face) : (s.senseDeferral f j).side g = s.side g := by
  simp [State.senseDeferral]

@[simp] theorem senseZone_side (st : DoorState) (g : Face) : (s.senseZone f j st).side g = s.side g := by
  simp only [State.senseZone]; (repeat' split) <;> simp

@[simp] theorem enterState_side (st : DoorState) (edit : DoorRec → DoorRec) (g : Face) : (s.enterState f j st edit).side g = s.side g := by
  simp only [State.enterState]; (repeat' split) <;> simp

@[simp] theorem enterTold_side (st : DoorState) (edit : DoorRec → DoorRec) (g : Face) : (s.enterTold f j st edit).side g = s.side g := by
  simp [State.enterTold]

@[simp] theorem recordStart_side (p : GroupIx) (g : Face) : (s.recordStart f p).side g = s.side g := by
  simp [State.recordStart]

@[simp] theorem obstruct_side (g : Face) : (s.obstruct f j).side g = s.side g := by
  simp only [State.obstruct]; (repeat' split) <;> simp

@[simp] theorem enterClosing_side (g : Face) : (s.enterClosing f j).side g = s.side g := by
  simp only [State.enterClosing]; (repeat' split) <;> simp

@[simp] theorem grantOnce_side (p : GroupIx) (g : Face) : (s.grantOnce f p).side g = s.side g := by
  simp only [State.grantOnce]; (repeat' split) <;> simp

@[simp] theorem evalGrants_side (p : GroupIx) (g : Face) : (s.evalGrants f p).side g = s.side g := by
  simp [State.evalGrants]

@[simp] theorem evalIfHead_side (p : GroupIx) (g : Face) : (s.evalIfHead f p j).side g = s.side g := by
  simp only [State.evalIfHead]; (repeat' split) <;> simp

@[simp] theorem placeEntry_side (m : Motion) (c : ReqClass) (g : Face) : (s.placeEntry f j m c).side g = s.side g := by
  simp [State.placeEntry]

@[simp] theorem removeEntry_side (g : Face) : (s.removeEntry f j).side g = s.side g := by
  simp only [State.removeEntry]; (repeat' split) <;> simp

@[simp] theorem raiseEntry_side (g : Face) : (s.raiseEntry f j).side g = s.side g := by
  simp only [State.raiseEntry]; (repeat' split) <;> simp

@[simp] theorem openEntry_side (g : Face) : (s.openEntry f j).side g = s.side g := by
  simp [State.openEntry]

@[simp] theorem enterUnlatched_side (g : Face) : (s.enterUnlatched f j).side g = s.side g := by
  simp only [State.enterUnlatched]; (repeat' split) <;> simp

@[simp] theorem closeEntry_side (g : Face) : (s.closeEntry f j).side g = s.side g := by
  simp [State.closeEntry]

@[simp] theorem decideDeferral_side (g : Face) : (s.decideDeferral f j).side g = s.side g := by
  simp only [State.decideDeferral]; (repeat' split) <;> simp

@[simp] theorem enter_side (st : DoorState) (edit : DoorRec → DoorRec) (g : Face) : (s.enter f j st edit).side g = s.side g := by
  simp only [State.enter]; (repeat' split) <;> simp

@[simp] theorem enterFault_side (c : FaultCause) (g : Face) : (s.enterFault f j c).side g = s.side g := by
  simp [State.enterFault]

@[simp] theorem takeOpen_side (c : ReqClass) (g : Face) : (s.takeOpen f j c).1.side g = s.side g := by
  simp only [State.takeOpen]; (repeat' split) <;> simp

@[simp] theorem takeClose_side (g : Face) : (s.takeClose f j).1.side g = s.side g := by
  simp only [State.takeClose]; (repeat' split) <;> simp

@[simp] theorem request_side (r : DoorRequest) (g : Face) : (s.request f j r).1.side g = s.side g := by
  simp only [State.request]; (repeat' split) <;> simp

@[simp] theorem requestAll_side (r : DoorRequest) (js : List DoorIx) (g : Face) :
    (s.requestAll f r js).1.side g = s.side g := by
  induction js generalizing s with
  | nil => rfl
  | cons j js ih => simp [State.requestAll, ih]

@[simp] theorem requestEach_side (js : List DoorIx) (r : DoorRequest) (g : Face) : (s.requestEach f js r).side g = s.side g := forEach_keeps (State.side g) _ (fun _ _ => by simp) _ _

@[simp] theorem emergencyIfLocked_side (g : Face) : (s.emergencyIfLocked f j).side g = s.side g := by
  simp only [State.emergencyIfLocked]; (repeat' split) <;> simp

@[simp] theorem resolve_side (g : Face) : (s.resolve f j).side g = s.side g := by
  simp only [State.resolve]; (repeat' split) <;> simp

@[simp] theorem resolveNew_side (js : List DoorIx) (g : Face) : (s.resolveNew f js).side g = s.side g := by
  simp only [State.resolveNew]
  rw [forEach_keeps (State.side g) _ (fun _ _ => by simp), recomputeClp_side,
    forEach_keeps (State.side g) _ (fun _ _ => by simp)]

@[simp] theorem reachedOpen_side (g : Face) : (s.reachedOpen f j).side g = s.side g := by
  simp only [State.reachedOpen]; (repeat' split) <;> simp

@[simp] theorem reversalEnds_side (g : Face) : (s.reversalEnds f j).side g = s.side g := by
  simp only [State.reversalEnds]; (repeat' split) <;> simp

@[simp] theorem ownChange_side (old new : DoorInputs) (g : Face) : (s.ownChange f j old new).side g = s.side g := by
  simp only [State.ownChange]; (repeat' split) <;> simp

@[simp] theorem checkPosition_side (old new : DoorInputs) (g : Face) : (s.checkPosition f j old new).side g = s.side g := by
  simp only [State.checkPosition]; (repeat' split) <;> simp

@[simp] theorem takeInputs_side (old new : DoorInputs) (g : Face) : (s.takeInputs f j old new).side g = s.side g := by
  simp only [State.takeInputs]; (repeat' split) <;> simp


@[simp] theorem deferralExpired_side (g : Face) : (s.deferralExpired f j).side g = s.side g := by
  simp [State.deferralExpired]

@[simp] theorem afterFaceReset_side (g : Face) : (s.afterFaceReset f j).side g = s.side g := by
  simp only [State.afterFaceReset]; (repeat' split) <;> simp

end Sys2Proof.Machine
end

