-- ==== Sys2Proof/Laws/Units.lean ====
section
/-! SUPPORT. What the operations on one door unit leave of the records, the groups and the other door units of the
face, and what entering a state and granting a start do. -/

namespace Sys2Proof.Machine

variable (s : State) (f : Face) (j : DoorIx)

/-! ### Records and groups under the sensing and reporting operations -/

@[simp] theorem noSlot_dropSlot (i : Fin 64) (d : DoorSense) : (d.dropSlot i).noSlot = d.noSlot := by
  simp only [DoorSense.dropSlot]
  split
  · next e h => split <;> simp [DoorSense.noSlot, h]
  · rfl

theorem mapFace_part {α : Type} (p : FaceState → α) (h : FaceState → FaceState) (e : ∀ x, p (h x) = p x) (g : Face) :
    p ((s.mapFace f h).face g) = p (s.face g) := by
  cases f <;> cases g <;> simp [State.mapFace, State.face, e]

@[simp] theorem recomputeClp_doors (subject : Option DoorIx) (g : Face) : ((s.recomputeClp f subject).face g).doors = (s.face g).doors := by
  simp only [State.recomputeClp]
  (repeat' split) <;> first
    | rfl
    | exact mapFace_part s f FaceState.doors _ (by intro x; rfl) g
    | (simp only [tell_face, report_face]; exact mapFace_part s f FaceState.doors _ (by intro x; rfl) g)

@[simp] theorem reportGap_doors (c : ReportClass) (event what : Byte) (duration : Option Nat) (slot : Option (Fin 64)) (g : Face) : ((s.reportGap c f j event what duration slot).face g).doors = (s.face g).doors := by
  simp [State.reportGap]

@[simp] theorem onset_doors (g : Face) : ((s.onset f j).face g).doors = (s.face g).doors := by
  simp only [State.onset, mapSense_face_doors]
  exact mapFace_part s f FaceState.doors _ (by intro x; rfl) g

@[simp] theorem putZone_doors (z : Zone) (g : Face) : ((s.putZone f j z).face g).doors = (s.face g).doors := by
  simp [State.putZone]

@[simp] theorem occupyZone_doors (g : Face) : ((s.occupyZone f j).face g).doors = (s.face g).doors := by
  simp only [State.occupyZone]; (repeat' split) <;> simp

@[simp] theorem completeRecord_doors (e : Episode) (outcome : EpisodeOutcome) (g : Face) : ((s.completeRecord f e outcome).face g).doors = (s.face g).doors := by
  simp only [State.completeRecord]
  split
  · rfl
  · exact mapFace_part s f FaceState.doors _ (by intro x; rfl) g

@[simp] theorem leaveZone_doors (z : Zone) (outcome : EpisodeOutcome) (g : Face) : ((s.leaveZone f j z outcome).face g).doors = (s.face g).doors := by
  simp only [State.leaveZone]; (repeat' split) <;> simp

@[simp] theorem disarmZone_doors (g : Face) : ((s.disarmZone f j).face g).doors = (s.face g).doors := by
  simp only [State.disarmZone]; (repeat' split) <;> simp

@[simp] theorem armZone_doors (g : Face) : ((s.armZone f j).face g).doors = (s.face g).doors := by
  simp only [State.armZone]; (repeat' split) <;> simp

@[simp] theorem gapChanged_doors (g : Face) : ((s.gapChanged f j).face g).doors = (s.face g).doors := by
  simp only [State.gapChanged]; (repeat' split) <;> simp

@[simp] theorem clearingExpired_doors (g : Face) : ((s.clearingExpired f j).face g).doors = (s.face g).doors := by
  simp only [State.clearingExpired]; (repeat' split) <;> simp

@[simp] theorem reportDoor_doors (g : Face) : ((s.reportDoor f j).face g).doors = (s.face g).doors := by
  simp [State.reportDoor]

@[simp] theorem senseTracker_doors (old : Option DoorState) (st : DoorState) (g : Face) : ((s.senseTracker f j old st).face g).doors = (s.face g).doors := by
  simp only [State.senseTracker]; (repeat' split) <;> simp

@[simp] theorem senseDeferral_doors (g : Face) : ((s.senseDeferral f j).face g).doors = (s.face g).doors := by
  simp [State.senseDeferral]

@[simp] theorem senseZone_doors (st : DoorState) (g : Face) : ((s.senseZone f j st).face g).doors = (s.face g).doors := by
  simp only [State.senseZone]; (repeat' split) <;> simp

@[simp] theorem recomputeClp_groups (subject : Option DoorIx) (g : Face) : ((s.recomputeClp f subject).face g).groups = (s.face g).groups := by
  simp only [State.recomputeClp]
  (repeat' split) <;> first
    | rfl
    | exact mapFace_part s f FaceState.groups _ (by intro x; rfl) g
    | (simp only [tell_face, report_face]; exact mapFace_part s f FaceState.groups _ (by intro x; rfl) g)

@[simp] theorem reportGap_groups (c : ReportClass) (event what : Byte) (duration : Option Nat) (slot : Option (Fin 64)) (g : Face) : ((s.reportGap c f j event what duration slot).face g).groups = (s.face g).groups := by
  simp [State.reportGap]

@[simp] theorem onset_groups (g : Face) : ((s.onset f j).face g).groups = (s.face g).groups := by
  simp only [State.onset, mapSense_face_groups]
  exact mapFace_part s f FaceState.groups _ (by intro x; rfl) g

@[simp] theorem putZone_groups (z : Zone) (g : Face) : ((s.putZone f j z).face g).groups = (s.face g).groups := by
  simp [State.putZone]

@[simp] theorem occupyZone_groups (g : Face) : ((s.occupyZone f j).face g).groups = (s.face g).groups := by
  simp only [State.occupyZone]; (repeat' split) <;> simp

@[simp] theorem completeRecord_groups (e : Episode) (outcome : EpisodeOutcome) (g : Face) : ((s.completeRecord f e outcome).face g).groups = (s.face g).groups := by
  simp only [State.completeRecord]
  split
  · rfl
  · exact mapFace_part s f FaceState.groups _ (by intro x; rfl) g

@[simp] theorem leaveZone_groups (z : Zone) (outcome : EpisodeOutcome) (g : Face) : ((s.leaveZone f j z outcome).face g).groups = (s.face g).groups := by
  simp only [State.leaveZone]; (repeat' split) <;> simp

@[simp] theorem disarmZone_groups (g : Face) : ((s.disarmZone f j).face g).groups = (s.face g).groups := by
  simp only [State.disarmZone]; (repeat' split) <;> simp

@[simp] theorem armZone_groups (g : Face) : ((s.armZone f j).face g).groups = (s.face g).groups := by
  simp only [State.armZone]; (repeat' split) <;> simp

@[simp] theorem gapChanged_groups (g : Face) : ((s.gapChanged f j).face g).groups = (s.face g).groups := by
  simp only [State.gapChanged]; (repeat' split) <;> simp

@[simp] theorem clearingExpired_groups (g : Face) : ((s.clearingExpired f j).face g).groups = (s.face g).groups := by
  simp only [State.clearingExpired]; (repeat' split) <;> simp

@[simp] theorem reportDoor_groups (g : Face) : ((s.reportDoor f j).face g).groups = (s.face g).groups := by
  simp [State.reportDoor]

@[simp] theorem senseTracker_groups (old : Option DoorState) (st : DoorState) (g : Face) : ((s.senseTracker f j old st).face g).groups = (s.face g).groups := by
  simp only [State.senseTracker]; (repeat' split) <;> simp

@[simp] theorem senseDeferral_groups (g : Face) : ((s.senseDeferral f j).face g).groups = (s.face g).groups := by
  simp [State.senseDeferral]

@[simp] theorem senseZone_groups (st : DoorState) (g : Face) : ((s.senseZone f j st).face g).groups = (s.face g).groups := by
  simp only [State.senseZone]; (repeat' split) <;> simp

/-! ### Entering a state -/

@[simp] theorem enterState_groups (st : DoorState) (edit : DoorRec → DoorRec) (g : Face) :
    ((s.enterState f j st edit).face g).groups = (s.face g).groups := by
  simp only [State.enterState]; (repeat' split) <;> simp

@[simp] theorem enterTold_groups (st : DoorState) (edit : DoorRec → DoorRec) (g : Face) :
    ((s.enterTold f j st edit).face g).groups = (s.face g).groups := by simp [State.enterTold]

/-- The Door Unit Record on entry to a state, every other record as it was. -/
@[simp] theorem enterState_doors (st : DoorState) (edit : DoorRec → DoorRec) :
    ((s.enterState f j st edit).face f).doors =
      put (s.face f).doors j ((edit (s.door f j)).enter st s.msClock (s.par f)) := by
  simp only [State.enterState]; (repeat' split) <;> simp [State.door]

@[simp] theorem enterTold_doors (st : DoorState) (edit : DoorRec → DoorRec) :
    ((s.enterTold f j st edit).face f).doors =
      put (s.face f).doors j ((edit (s.door f j)).enter st s.msClock (s.par f)) := by simp [State.enterTold]

@[simp] theorem enterTold_door (st : DoorState) (edit : DoorRec → DoorRec) :
    (s.enterTold f j st edit).door f j = (edit (s.door f j)).enter st s.msClock (s.par f) := by
  simp [State.door]

/-! ### Other door units -/

theorem mapFace_unit (h : FaceState → FaceState) (k : DoorIx) (e1 : ∀ x, (h x).doors = x.doors)
    (e2 : ∀ x, (h x).sense[k.val].noSlot = x.sense[k.val].noSlot) : (s.mapFace f h).unit f k = s.unit f k := by
  cases f <;> simp [State.unit, State.door, State.sense, State.mapFace, State.face, e1, e2]

variable {j} {k : DoorIx}

theorem mapDoor_unit (h : DoorRec → DoorRec) (e : k ≠ j) : (s.mapDoor f j h).unit f k = s.unit f k := by
  simp [State.unit, mapDoor_door_other _ _ _ _ e, State.sense]

theorem mapSense_unit (h : DoorSense → DoorSense) (e : k ≠ j) : (s.mapSense f j h).unit f k = s.unit f k := by
  simp [State.unit, mapSense_sense_other _ _ _ _ e, State.door]

@[simp] theorem mapGroup_unit (p : GroupIx) (h : Group → Group) : (s.mapGroup f p h).unit f k = s.unit f k := by
  simp [State.unit, State.door, State.sense]

@[simp] theorem tell_unit (n : Notice) : (s.tell n).unit f k = s.unit f k := by simp [State.unit, State.door, State.sense]

@[simp] theorem report_unit (c : ReportClass) (r : ReportKind) (h : Face) (o : Option Nat) (d : List Byte) :
    (s.report c r h o d).unit f k = s.unit f k := by simp [State.unit, State.door, State.sense]

@[simp] theorem recomputeClp_unit (o : Option DoorIx) : (s.recomputeClp f o).unit f k = s.unit f k := by
  simp only [State.recomputeClp]
  (repeat' split) <;> first
    | rfl
    | exact mapFace_unit s f _ k (by intro x; rfl) (by intro x; rfl)
    | (simp only [tell_unit, report_unit]; exact mapFace_unit s f _ k (by intro x; rfl) (by intro x; rfl))

theorem onset_unit (e : k ≠ j) : (s.onset f j).unit f k = s.unit f k := by
  simp only [State.onset]
  rw [mapSense_unit _ _ _ e]
  exact mapFace_unit s f _ k (by intro x; rfl) (by intro x; simp)

theorem completeRecord_unit (e : Episode) (o : EpisodeOutcome) : (s.completeRecord f e o).unit f k = s.unit f k := by
  simp only [State.completeRecord]
  split
  · rfl
  · exact mapFace_unit s f _ k (by intro x; rfl) (by intro x; rfl)

theorem putZone_unit (z : Zone) (e : k ≠ j) : (s.putZone f j z).unit f k = s.unit f k := mapSense_unit s f _ e

theorem occupyZone_unit (e : k ≠ j) : (s.occupyZone f j).unit f k = s.unit f k := by
  simp only [State.occupyZone, State.reportGap, recomputeClp_unit, report_unit, putZone_unit _ _ _ e]
  split <;> first | rfl | exact onset_unit s f e

theorem leaveZone_unit (z : Zone) (o : EpisodeOutcome) (e : k ≠ j) : (s.leaveZone f j z o).unit f k = s.unit f k := by
  simp only [State.leaveZone, recomputeClp_unit]
  split
  · exact putZone_unit s f z e
  · simp only [State.reportGap, report_unit, mapSense_unit _ _ _ e, putZone_unit _ _ _ e, completeRecord_unit]

theorem senseZone_unit (st : DoorState) (e : k ≠ j) : (s.senseZone f j st).unit f k = s.unit f k := by
  simp only [State.senseZone, State.disarmZone, State.armZone]
  (repeat' split) <;> first
    | rfl
    | exact leaveZone_unit s f _ _ e
    | exact occupyZone_unit s f e
    | (rw [recomputeClp_unit]; exact putZone_unit s f _ e)

/-- Entering a state leaves every other door unit of the face as it is. -/
theorem enterTold_unit (st : DoorState) (edit : DoorRec → DoorRec) (e : k ≠ j) :
    (s.enterTold f j st edit).unit f k = s.unit f k := by
  simp only [State.enterTold, tell_unit, recomputeClp_unit, State.enterState, senseZone_unit _ _ _ e,
    State.senseDeferral, mapSense_unit _ _ _ e, State.senseTracker]
  (repeat' split) <;>
    simp only [mapSense_unit _ _ _ e, State.reportDoor, report_unit, mapDoor_unit _ _ _ e]

/-! ### Grants -/

@[simp] theorem recordStart_unit (p : GroupIx) : (s.recordStart f p).unit f k = s.unit f k := mapGroup_unit s f p _

@[simp] theorem recordStart_queue (p q : GroupIx) : ((s.recordStart f p).group f q).queue = (s.group f q).queue := by
  by_cases e : q = p
  · subst e; simp [State.recordStart]
  · simp [State.recordStart, mapGroup_group_other _ _ _ _ e]

@[simp] theorem enterTold_group (i : DoorIx) (st : DoorState) (edit : DoorRec → DoorRec) (q : GroupIx) :
    (s.enterTold f i st edit).group f q = s.group f q := by simp [State.group]

@[simp] theorem obstruct_queue (i : DoorIx) (q : GroupIx) :
    ((s.obstruct f i).group f q).queue = (s.group f q).queue := by
  simp only [State.obstruct]; split <;> simp

@[simp] theorem enterClosing_queue (i : DoorIx) (q : GroupIx) :
    ((s.enterClosing f i).group f q).queue = (s.group f q).queue := by
  simp only [State.enterClosing]; split <;> simp

theorem obstruct_unit (e : k ≠ j) : (s.obstruct f j).unit f k = s.unit f k := by
  simp only [State.obstruct]
  split
  · rw [recordStart_unit, enterTold_unit _ _ _ _ e]
  · rfl

theorem enterClosing_unit (e : k ≠ j) : (s.enterClosing f j).unit f k = s.unit f k := by
  simp only [State.enterClosing]
  split
  · rw [obstruct_unit _ _ e, enterTold_unit _ _ _ _ e]
  · exact enterTold_unit _ _ _ _ e

/-- A grant leaves every door unit with no entry in the queue as it is, and gives none an entry. -/
theorem grantOnce_unit (p : GroupIx) (h : s.noEntry f p k) :
    (s.grantOnce f p).unit f k = s.unit f k ∧ (s.grantOnce f p).noEntry f p k := by
  simp only [State.grantOnce]
  split
  · exact ⟨rfl, h⟩
  · next e rest q =>
    have hk : k ≠ e.door := fun x => h e (by rw [q]; exact List.mem_cons_self) x.symm
    have hr : ∀ y ∈ rest, y.door ≠ k := fun y m => h y (by rw [q]; exact List.mem_cons_of_mem _ m)
    split
    · split
      · exact ⟨by simp [enterTold_unit _ _ _ _ hk], by
          intro y m; apply hr; simpa [State.noEntry] using m⟩
      · exact ⟨by simp [enterClosing_unit _ _ hk], by
          intro y m; apply hr; simpa [State.noEntry] using m⟩
    · exact ⟨rfl, h⟩

theorem evalGrants_unit (p : GroupIx) (h : s.noEntry f p k) :
    (s.evalGrants f p).unit f k = s.unit f k ∧ (s.evalGrants f p).noEntry f p k := by
  have a := grantOnce_unit s f p h
  have b := grantOnce_unit _ f p a.2
  have c := grantOnce_unit _ f p b.2
  have d := grantOnce_unit _ f p c.2
  exact ⟨(d.1.trans c.1).trans (b.1.trans a.1), d.2⟩

/-- Removing an entry leaves the door unit itself, and every door unit with no entry in its group, as it is. -/
theorem removeEntry_unit (i : DoorIx) (h : k = i ∨ s.noEntry f (s.groupOf f i) k) :
    (s.removeEntry f i).unit f k = s.unit f k := by
  have n : (s.mapGroup f (s.groupOf f i) (fun x => { x with
      queue := x.queue.filter (fun e => e.door ≠ i) })).noEntry f (s.groupOf f i) k := by
    intro y m
    simp only [mapGroup_group, List.mem_filter, decide_eq_true_eq] at m
    rcases h with h | h
    · exact h ▸ m.2
    · exact h y m.1
  simp only [State.removeEntry]
  split
  · rw [(evalGrants_unit _ f _ n).1, mapGroup_unit]
  · rw [mapGroup_unit]

/-- After its entry is removed a door unit holds none. -/
theorem removeEntry_noEntry (i : DoorIx) : (s.removeEntry f i).noEntry f (s.groupOf f i) i := by
  have n : (s.mapGroup f (s.groupOf f i) (fun x => { x with
      queue := x.queue.filter (fun e => e.door ≠ i) })).noEntry f (s.groupOf f i) i := by
    intro y m
    simp only [mapGroup_group, List.mem_filter, decide_eq_true_eq] at m
    exact m.2
  simp only [State.removeEntry]
  split
  · exact (evalGrants_unit _ f _ n).2
  · exact n

/-! ### Engines that do not run -/

/-- Nothing that is told moves an engine that does not run. -/
theorem takeNotice_calm (n : Notice) (h : (s.face n.face).engine.running = false) : s.takeNotice n = s := by
  have : (s.face n.face).engine.state ≠ .waiting ∧ (s.face n.face).engine.state ≠ .acting
      ∧ (s.face n.face).engine.state ≠ .holding := by
    refine ⟨?_, ?_, ?_⟩ <;> intro e <;> simp [Engine.running, e] at h
  obtain ⟨a, b, c⟩ := this
  cases n <;> simp only [Notice.face] at a b c <;>
    simp [State.takeNotice, State.doorTold, State.recheck, a, b, c]
  all_goals split <;> rfl

theorem drainN_calm (n : Nat) (h : ∀ x ∈ s.notices, (s.face x.face).engine.running = false) :
    ∃ ns, s.drainN n = { s with notices := ns } := by
  induction n generalizing s with
  | zero => exact ⟨s.notices, rfl⟩
  | succ n ih =>
    simp only [State.drainN]
    split
    · exact ⟨s.notices, rfl⟩
    · next x rest e =>
      rw [e] at h
      have fc : ∀ g, State.face { s with notices := rest } g = s.face g := fun g => by cases g <;> rfl
      rw [takeNotice_calm _ _ (by rw [fc]; exact h x List.mem_cons_self)]
      exact ih _ (fun y m => by rw [fc]; exact h y (List.mem_cons_of_mem _ m))

/-- Where no engine that is told something runs, the notices are dropped and nothing else happens. -/
theorem drain_calm (h : ∀ x ∈ s.notices, (s.face x.face).engine.running = false) :
    s.drain = { s with notices := [] } := by
  obtain ⟨ns, e⟩ := drainN_calm s 4096 h
  simp [State.drain, e]

@[simp] theorem drain_notices : s.drain.notices = [] := rfl

end Sys2Proof.Machine
end

