-- ==== Sys2Proof/Laws/Keeps.lean ====
section
/-! SUPPORT. What the decisions of requests leave alone: a reading `p` of the state that no face holds is as it was after
each decision of a request on a face, and after the request is taken and answered. -/

namespace Sys2Proof.Machine

variable {α : Type} (p : State → α) (hf : ∀ f x, p (State.outside f x) = p x)
include hf

omit hf in
theorem withFace_keeps {pl s} {k : Face → State → State × Reply} (h : ∀ f s, p (k f s).1 = p s) : p (withFace pl k s).1 = p s := by
  unfold withFace; split
  · rfl
  · exact h _ _

omit hf in
theorem withDoor_keeps {pl s} {k : Face → DoorIx → State → State × Reply} (h : ∀ f j s, p (k f j s).1 = p s) : p (withDoor pl k s).1 = p s := by
  unfold withDoor; (repeat' split) <;> first | rfl | exact h _ _ _

theorem decideArrival_keeps (pl s) : p (decideArrival pl s).1 = p s := by
  refine withFace_keeps p fun f s => ?_
  split
  · rfl
  · simp only [State.tryNotice]
    (repeat' split) <;> first | rfl | exact outside_eq_of p (hf f) (arrivalTaken_outside _ _ _)

theorem decideRelease_keeps (pl s) : p (decideRelease pl s).1 = p s := by
  refine withFace_keeps p fun f s => ?_
  have take : ∀ s : State, p (if (s.berth f).release then s else s.giveRelease f) = p s := by
    intro s; split
    · rfl
    · exact outside_eq_of p (hf f) (giveRelease_outside ..)
  (repeat' split) <;> first | rfl | exact take _

theorem decideWithdraw_keeps (pl s) : p (decideWithdraw pl s).1 = p s := by
  refine withFace_keeps p fun f s => outside_eq_of p (hf f) (withdraw_outside ..)

theorem decideAtRest_keeps (pl s) : p (decideAtRest pl s).1 = p s := by
  refine withFace_keeps p fun f s => ?_
  split <;> first | rfl | exact outside_eq_of p (hf f) (enterStopped_outside ..)

theorem decideDeparted_keeps (pl s) : p (decideDeparted pl s).1 = p s := by
  refine withFace_keeps p fun f s => ?_
  split <;> first | rfl | exact outside_eq_of p (hf f) (depart_outside ..)

theorem decideGrant_keeps (pl s) : p (decideGrant pl s).1 = p s := by
  refine withFace_keeps p fun f s => ?_
  (repeat' split) <;> first | rfl | exact outside_eq_of p (hf f) (grantPossession_outside ..)

theorem decideRevoke_keeps (pl s) : p (decideRevoke pl s).1 = p s := by
  refine withFace_keeps p fun f s => outside_eq_of p (hf f) (revokePossession_outside ..)

theorem decideDoorCommand_keeps (pl s) : p (decideDoorCommand pl s).1 = p s := by
  refine withFace_keeps p fun f s => ?_
  (repeat' split) <;> first | rfl | skip
  · simp only [State.commandOpen]; (repeat' split) <;> exact outside_eq_of p (hf f) (by simp [acceptedWith])
  · exact outside_eq_of p (hf f) (by simp [State.commandClose, acceptedWith])

theorem decideDoorReset_keeps (pl s) : p (decideDoorReset pl s).1 = p s := by
  refine withDoor_keeps p fun f j s => ?_
  (repeat' split) <;> first | rfl | exact outside_eq_of p (hf f) (resolve_outside ..)

theorem decideAckGap_keeps (pl s) : p (decideAckGap pl s).1 = p s := by
  refine withDoor_keeps p fun f j s => ?_
  (repeat' split) <;> first | rfl | exact outside_eq_of p (hf f) (leaveZone_outside ..)

theorem decideFaceReset_keeps (pl s) : p (decideFaceReset pl s).1 = p s := by
  refine withFace_keeps p fun f s => outside_eq_of p (hf f) (resetFace_outside ..)

theorem decideBerthAck_keeps (pl s) : p (decideBerthAck pl s).1 = p s := by
  refine withFace_keeps p fun f s => ?_
  (repeat' split) <;> first | rfl | exact outside_eq_of p (hf f) (ackBerth_outside ..)

theorem decideEvacuate_keeps (pl s) : p (decideEvacuate pl s).1 = p s := by
  refine withFace_keeps p fun f s => ?_
  simp only [accepted]
  (repeat' split) <;> first | rfl | exact outside_eq_of p (hf f) (setLatch_outside ..)

theorem decideEmergencyClear_keeps (pl s) : p (decideEmergencyClear pl s).1 = p s := by
  refine withFace_keeps p fun f s => ?_
  simp only [accepted]
  (repeat' split) <;> first | rfl | exact outside_eq_of p (hf f) (clearLatch_outside ..)

theorem decideStart_keeps (pl s) : p (decideStart pl s).1 = p s := by
  refine withFace_keeps p fun f s => ?_
  (repeat' split) <;> first | rfl | exact outside_eq_of p (hf f) (startAt_outside ..)

theorem decideHalt_keeps (pl s) : p (decideHalt pl s).1 = p s := by
  refine withFace_keeps p fun f s => outside_eq_of p (hf f) (haltProgram_outside ..)

theorem decideResume_keeps (pl s) : p (decideResume pl s).1 = p s := by
  refine withFace_keeps p fun f s => ?_
  (repeat' split) <;> first | rfl | exact outside_eq_of p (hf f) (resumeProgram_outside ..)

theorem decideStep_keeps (pl s) : p (decideStep pl s).1 = p s := by
  refine withFace_keeps p fun f s => ?_
  (repeat' split) <;> first | rfl | exact outside_eq_of p (hf f) (issueAction_outside ..)

theorem decideClearErrors_keeps (pl s) : p (decideClearErrors pl s).1 = p s := by
  refine withFace_keeps p fun f s => outside_eq_of p (hf f) (mapEngine_outside ..)

theorem decideArm_keeps (pl s) : p (decideArm pl s).1 = p s := by
  refine withFace_keeps p fun f s => ?_
  (repeat' split) <;> first | rfl | exact outside_eq_of p (hf f) (mapEngine_outside ..)

theorem decideDisarm_keeps (pl s) : p (decideDisarm pl s).1 = p s := by
  refine withFace_keeps p fun f s => outside_eq_of p (hf f) (mapEngine_outside ..)

omit hf in
theorem decideGetStatus_keeps (l pl s) : p (decideGetStatus l pl s).1 = p s := by
  simp only [decideGetStatus]; (repeat' split) <;> rfl

omit hf in
theorem decideReadCounts_keeps (pl s) : p (decideReadCounts pl s).1 = p s := withFace_keeps p fun _ _ => rfl

omit hf in
theorem decideReadHistory_keeps (pl s) : p (decideReadHistory pl s).1 = p s := by
  refine withFace_keeps p fun f s => ?_
  (repeat' split) <;> rfl

omit hf in
theorem decideIdentify_keeps (pl s) : p (decideIdentify pl s).1 = p s := by
  simp only [decideIdentify]; (repeat' split) <;> rfl

omit hf in
theorem decideReadGeometry_keeps (pl s) : p (decideReadGeometry pl s).1 = p s := withFace_keeps p fun _ _ => rfl
omit hf in
theorem decideReadParameters_keeps (pl s) : p (decideReadParameters pl s).1 = p s := withFace_keeps p fun _ _ => rfl
omit hf in
theorem decideReadIsolation_keeps (pl s) : p (decideReadIsolation pl s).1 = p s := withFace_keeps p fun _ _ => rfl
omit hf in
theorem decideReadDevice_keeps (s) : p (decideReadDevice s).1 = p s := rfl
omit hf in
theorem decideReadCar_keeps (pl s) : p (decideReadCar pl s).1 = p s := by simp only [decideReadCar]; split <;> rfl
omit hf in
theorem decideReadUnit_keeps (pl s) : p (decideReadUnit pl s).1 = p s := by simp only [decideReadUnit]; split <;> rfl
omit hf in
theorem decideReadDescriptor_keeps (pl s) : p (decideReadDescriptor pl s).1 = p s := by simp only [decideReadDescriptor]; split <;> rfl

omit hf in
theorem checked_keeps {o l b d s} (h : ∀ s, p (d s).1 = p s) : p (checked o l b d s).1 = p s := by
  unfold checked; (repeat' split) <;> first | rfl | exact h _

variable (hl : ∀ (x : State) l h, p (x.mapLink l h) = p x) (hn : ∀ (x : State) ns, p { x with notices := ns } = p x)
  (hq : ∀ (x : State) a b, p { x with silence := a, ilLost := b } = p x)

omit hf in
include hl in
theorem considerReport_keeps (l s) : p (State.considerReport l s) = p s := by
  simp only [State.considerReport, State.formReport, State.send]; split <;> simp [hl]

omit hf in
include hl in
theorem offerRecord_keeps (l c r s) : p (State.offerRecord l c r s) = p s := by
  simp only [State.offerRecord, State.enqueueReport]; (repeat' split) <;> simp [hl, considerReport_keeps p hl]

omit hf in
include hl in
theorem report_keeps (c k f o d s) : p (State.report c k f o d s) = p s := by
  simp only [State.report, offerRecord_keeps p hl]

omit hf in
include hl hq in
theorem frameArrives_keeps (l x s) : p (State.frameArrives l x s) = p s := by
  have a : ∀ t : State, p (t.interlockSpoke) = p t := by
    intro t
    simp only [State.interlockSpoke]
    split
    · simp only [State.reportLinkState, offerRecord_keeps p hl]; exact hq t _ _
    · exact hq t _ t.ilLost
  have b : ∀ t : State, p (t.offerFrame l x) = p t := by intro t; simp only [State.offerFrame]; split <;> simp [hl]
  simp only [State.frameArrives, b]
  cases l <;> simp [hl, a]

omit hf in
include hl in
theorem sendReply_keeps (l x s) : p (State.sendReply l x s) = p s := by
  simp only [State.sendReply, State.send]; split <;> simp [hl]

include hl hn hq in
theorem serve_keeps {l : Link} {x : Frame} {d : State → State × Reply} {s : State} (h : ∀ s, p (d s).1 = p s) : p (State.serve l x d s) = p s := by
  have hpr : ∀ s : State, p (State.present l x s) = p s := by
    intro s; simp only [State.present]; split
    · rfl
    · exact frameArrives_keeps p hl hq ..
  simp only [State.serve]
  (repeat' split)
  · simp only [State.answer, sendReply_keeps p hl, State.clearOverruns]
    split <;> simp only [hl, drain_keeps _ p hf hn, h, State.popFrame, hpr]
  · rw [drain_keeps _ p hf hn, hpr]
  · rfl

include hl hn hq in
theorem dropFrame_keeps {l : Link} {x : Frame} {s : State} : p (State.dropFrame l x s) = p s := by
  have hpr : ∀ s : State, p (State.present l x s) = p s := by
    intro s; simp only [State.present]; split
    · rfl
    · exact frameArrives_keeps p hl hq ..
  simp only [State.dropFrame]
  (repeat' split) <;> simp only [drain_keeps _ p hf hn, State.popFrame, hl, hpr]

omit hf in
theorem unlessCommit_keeps {d : State → State × Reply} {s : State} (h : ∀ s, p (d s).1 = p s) :
    p (unlessCommit d s).1 = p s := by
  unfold unlessCommit; split <;> first | rfl | exact h _

section Writes
variable (hc : ∀ (x : State) h, p (x.mapConfig h) = p x)

omit hf in
include hc in
theorem writeAnswer_keeps (a : Bool) (v : List Byte) (s : State) (h : WorkingCopy → WorkingCopy) :
    p (writeAnswer a v (s.mapConfig h)).1 = p s := by
  unfold writeAnswer accepted; split <;> exact hc ..

include hc in
theorem setGeometry_keeps (f : Face) (g : Geometry) (s : State) : p (s.setGeometry f g) = p s := by
  have u : ∀ j (s : State), p (s.unfit f j) = p s := fun j s => by
    simp only [State.unfit]
    exact (outside_eq_of p (hf f) (mapSense_outside ..)).trans (outside_eq_of p (hf f) (mapDoor_outside ..))
  have r : ∀ js (s : State), p (s.resolveNew f js) = p s := fun js s => outside_eq_of p (hf f) (resolveNew_outside ..)
  simp only [State.setGeometry]
  split
  · rw [r, forEach_keeps p _ u, hc]
  · rw [forEach_keeps p _ u, hc]

include hc in
theorem decideWriteGeometry_keeps (pl s) : p (decideWriteGeometry pl s).1 = p s := by
  refine withFace_keeps p fun f s => ?_
  split
  · rfl
  · refine unlessCommit_keeps p fun s => ?_
    simp only [State.tryGeometry]
    (repeat' split) <;> first | rfl | exact setGeometry_keeps p hf hc ..

include hc in
theorem decideWriteTolerance_keeps (pl s) : p (decideWriteTolerance pl s).1 = p s := by
  refine withFace_keeps p fun f s => ?_
  dsimp only
  split
  · rfl
  · refine unlessCommit_keeps p fun s => ?_
    (repeat' split) <;> first | rfl | exact setGeometry_keeps p hf hc ..

omit hf in
include hc in
theorem decideWriteParameters_keeps (pl s) : p (decideWriteParameters pl s).1 = p s := by
  refine withFace_keeps p fun f s => ?_
  split
  · rfl
  · refine unlessCommit_keeps p fun s => ?_
    split
    · rfl
    · exact writeAnswer_keeps p hc ..

omit hf in
include hc in
theorem decideWriteDevice_keeps (pl s) : p (decideWriteDevice pl s).1 = p s := by
  simp only [decideWriteDevice]
  (repeat' split) <;> first | rfl | exact unlessCommit_keeps p fun s => writeAnswer_keeps p hc ..

omit hf in
include hc hl in
theorem decideSetReporting_keeps (pl s) : p (decideSetReporting pl s).1 = p s := by
  simp only [decideSetReporting]
  (repeat' split) <;> first
    | rfl
    | exact unlessCommit_keeps p fun s => (considerReport_keeps p hl _ _).trans (hc s _)

omit hf in
include hc in
theorem decideWriteCar_keeps (pl s) : p (decideWriteCar pl s).1 = p s := by
  simp only [decideWriteCar]
  (repeat' split) <;> first
    | rfl
    | (refine unlessCommit_keeps p fun s => ?_; split <;> first | rfl | simp only [accepted, hc])
    | (refine unlessCommit_keeps p fun s => ?_; simp only [accepted, hc])

omit hf in
include hc in
theorem decideWriteUnit_keeps (pl s) : p (decideWriteUnit pl s).1 = p s := by
  simp only [decideWriteUnit]
  (repeat' split) <;> first
    | rfl
    | (refine unlessCommit_keeps p fun s => ?_; split <;> first | rfl | simp only [accepted, hc])
    | (refine unlessCommit_keeps p fun s => ?_; simp only [accepted, hc])

omit hf in
include hc in
theorem decideWriteDescriptor_keeps (pl s) : p (decideWriteDescriptor pl s).1 = p s := by
  have t : ∀ i o a (s : State), p (s.tryDescriptor i o a).1 = p s := by
    intro i o a s
    simp only [State.tryDescriptor]
    split
    · rfl
    · exact writeAnswer_keeps p hc ..
  simp only [decideWriteDescriptor]
  (repeat' split) <;> first | rfl | exact unlessCommit_keeps p fun s => t ..

omit hf in
include hc in
theorem decideLock_keeps (s) : p (decideLock s).1 = p s := unlessCommit_keeps p fun s => by
  simp only [accepted, hc]

omit hf in
include hc in
theorem decideUnlock_keeps (s) : p (decideUnlock s).1 = p s := by
  refine unlessCommit_keeps p fun s => ?_
  split <;> first | rfl | simp only [accepted, hc]

include hc in
theorem decideIsolate_keeps (pl s) : p (decideIsolate pl s).1 = p s := by
  refine withDoor_keeps p fun f j s => unlessCommit_keeps p fun s => ?_
  (repeat' split) <;> first | rfl | exact (outside_eq_of p (hf f) (reportDoor_outside ..)).trans (hc ..)

include hc in
theorem decideRestore_keeps (pl s) : p (decideRestore pl s).1 = p s := by
  refine withDoor_keeps p fun f j s => unlessCommit_keeps p fun s => ?_
  (repeat' split) <;> first
    | rfl
    | exact (outside_eq_of p (hf f) (emergencyIfLocked_outside ..)).trans
        ((outside_eq_of p (hf f) (reportDoor_outside ..)).trans (hc ..))

end Writes

include hn in
theorem decideSetMode_keeps (hfree : ∀ (x : State) n, p { x with freeCount := n } = p x) (l pl s) :
    p (decideSetMode l pl s).1 = p s := by
  have m : ∀ o (s : State), p (s.modeBody o).1 = p s := by
    intro o s; simp only [State.modeBody]; split <;> first | rfl | exact hfree ..
  have t : ∀ f e g n (s : State), p (s.trySetMode f e g n).1 = p s := by
    intro f e g n s
    simp only [State.trySetMode]
    (repeat' split) <;> first | rfl | exact outside_eq_of p (hf f) (changeMode_outside ..)
  simp only [decideSetMode, m, drain_keeps _ p hf hn]
  (repeat' split) <;> first | rfl | exact t ..

/-! ### Expiries -/

section Clock
omit hf
variable (hk : ∀ (x : State) a b c d q,
  p { x with msClock := a, usClock := b, usPhase := q, scanPhase := c, fieldOut := d } = p x)

include hk in
theorem advance_keeps (n : Nat) (s : State) : p (s.advance n) = p s := by
  obtain ⟨m, u, c, d, h⟩ := advance_changes s n
  rw [h]
  exact hk s m u c d s.usPhase

include hk in
theorem reachMicros_keeps (t : Us) (s : State) : p (s.reachMicros t) = p s := by
  obtain ⟨m, u, q, c, d, h⟩ := reachMicros_changes s t
  rw [h]
  exact hk s m u c d q

include hk in
theorem beamChange_keeps (held v : Bool) (t : Us) {op : State → State} (ho : ∀ x, p (op x) = p x) (s : State) :
    p (s.beamChange held v t op) = p s := by
  unfold State.beamChange
  split
  · rfl
  · rw [ho, reachMicros_keeps p hk]

include hk in
theorem expiry_keeps (t : Option Timer) {op : State → State} (ho : ∀ x, p (op x) = p x) (s : State) :
    p (s.expiry t op) = p s := by
  unfold State.expiry
  split
  · rfl
  · rw [ho]
    unfold State.reach
    split
    · rfl
    · exact advance_keeps p hk ..

end Clock

end Sys2Proof.Machine
end

