-- ==== Sys2Proof/WellFormed.lean ====
section
/-! DEFINITION. Which commands can be sent: the bounds of a frame (R153), and a request row that the
frame's own KIND, scope and action name (R155, R158, R168, R170). -/

namespace Sys2Proof

/-- A frame's payload has at most 248 bytes (R153, R166). -/
def Frame.wf (x : Frame) : Bool := x.payload.length ≤ 248

/-- A command that is a frame taken from a receive queue is the row that its frame names. -/
def Instr.rowMatches (i : Instr) : Bool :=
  match i.frame? with
  | none => true
  | some (l, x) => Instr.ofFrame l x = i

/-- The payload bound of R153 on every frame a command carries. -/
def Instr.payloadOk (i : Instr) : Bool :=
  match i with
  | .validFrameReceived _ x => x.wf
  | i =>
    match i.frame? with
    | none => true
    | some (_, x) => x.wf

/-- A command that the surroundings can send. -/
def Instr.wf (i : Instr) : Bool := i.payloadOk && i.rowMatches

end Sys2Proof
end

