-- ==== Sys2Proof/Laws/PerInstr.lean ====
section
/-! SUPPORT. The family "Named" of laws stated command by command: a well-formed command that is a frame is the row that
the frame names, and its payload fits a frame. -/

namespace Sys2Proof.Laws

/-- What holds of a well-formed command as syntax (R153, R168). -/
def Named.Statement (i : Instr) : Prop :=
  i.wf = true → ∀ l x, i.frame? = some (l, x) → Instr.ofFrame l x = i ∧ x.payload.length ≤ 248

/-- The two checks of well-formedness give the law for every command but the arrival of a frame on a link. -/
theorem Named.of_wf (i : Instr) (h : ∀ l x, i ≠ .validFrameReceived l x) : Named.Statement i := by
  intro hw l x hx
  simp only [Instr.wf, Bool.and_eq_true] at hw
  obtain ⟨hp, hr⟩ := hw
  refine ⟨by simpa [Instr.rowMatches, hx] using hr, ?_⟩
  unfold Instr.payloadOk at hp
  split at hp
  · exact absurd rfl (h _ _)
  · simpa [hx, Frame.wf] using hp

theorem Named.powerOn (readings : StartReadings) : Named.Statement (.powerOn readings) :=
  Named.of_wf _ (by simp)

theorem Named.resetPin (readings : StartReadings) : Named.Statement (.resetPin readings) :=
  Named.of_wf _ (by simp)

theorem Named.firstCompleteScan (scan : Vector DoorInputs 64) : Named.Statement (.firstCompleteScan scan) :=
  Named.of_wf _ (by simp)

theorem Named.doorInputChange (f : Face) (j : DoorIx) (v : LeafSignals) : Named.Statement (.doorInputChange f j v) :=
  Named.of_wf _ (by simp)

theorem Named.sensingInputChange (f : Face) (j : DoorIx) (v : SenseSignals) : Named.Statement (.sensingInputChange f j v) :=
  Named.of_wf _ (by simp)

theorem Named.unlatchSettleExpiry (f : Face) (j : DoorIx) : Named.Statement (.unlatchSettleExpiry f j) :=
  Named.of_wf _ (by simp)

theorem Named.recloseDelayExpiry (f : Face) (j : DoorIx) : Named.Statement (.recloseDelayExpiry f j) :=
  Named.of_wf _ (by simp)

theorem Named.doorTimeoutExpiry (f : Face) (j : DoorIx) : Named.Statement (.doorTimeoutExpiry f j) :=
  Named.of_wf _ (by simp)

theorem Named.spacingHoldExpiry (f : Face) (g : GroupIx) : Named.Statement (.spacingHoldExpiry f g) :=
  Named.of_wf _ (by simp)

theorem Named.historySlotEmptied (f : Face) (g : GroupIx) (slot : Fin 4) : Named.Statement (.historySlotEmptied f g slot) :=
  Named.of_wf _ (by simp)

theorem Named.quietTimerExpiry (f : Face) : Named.Statement (.quietTimerExpiry f) :=
  Named.of_wf _ (by simp)

theorem Named.deferralTimerExpiry (f : Face) (j : DoorIx) : Named.Statement (.deferralTimerExpiry f j) :=
  Named.of_wf _ (by simp)

theorem Named.clearingTimerExpiry (f : Face) (j : DoorIx) : Named.Statement (.clearingTimerExpiry f j) :=
  Named.of_wf _ (by simp)

theorem Named.ab1Change (f : Face) (interrupted : Bool) (at_ : Us) : Named.Statement (.ab1Change f interrupted at_) :=
  Named.of_wf _ (by simp)

theorem Named.ab2Change (f : Face) (interrupted : Bool) (at_ : Us) : Named.Statement (.ab2Change f interrupted at_) :=
  Named.of_wf _ (by simp)

theorem Named.swBeamChange (f : Face) (beam : Fin 25) (interrupted : Bool) (at_ : Us) : Named.Statement (.swBeamChange f beam interrupted at_) :=
  Named.of_wf _ (by simp)

theorem Named.approachTimerExpiry (f : Face) : Named.Statement (.approachTimerExpiry f) :=
  Named.of_wf _ (by simp)

theorem Named.settleTimerExpiry (f : Face) : Named.Statement (.settleTimerExpiry f) :=
  Named.of_wf _ (by simp)

theorem Named.postingTimerExpiry (f : Face) : Named.Statement (.postingTimerExpiry f) :=
  Named.of_wf _ (by simp)

theorem Named.keyswitchChange (f : Face) (pos : KeyPos) : Named.Statement (.keyswitchChange f pos) :=
  Named.of_wf _ (by simp)

theorem Named.eoiChange (f : Face) (active : Bool) : Named.Statement (.eoiChange f active) :=
  Named.of_wf _ (by simp)

theorem Named.maintChange (active : Bool) : Named.Statement (.maintChange active) :=
  Named.of_wf _ (by simp)

theorem Named.commitEnd : Named.Statement (.commitEnd) :=
  Named.of_wf _ (by simp)

theorem Named.ilSilenceTimerExpiry : Named.Statement (.ilSilenceTimerExpiry) :=
  Named.of_wf _ (by simp)

theorem Named.validFrameReceived (l : Link) (frame : Frame) : Named.Statement (.validFrameReceived l frame) := by
  intro _ _ _ hx
  cases hx

theorem Named.frameAbandoned (l : Link) (cause : AbandonCause) : Named.Statement (.frameAbandoned l cause) :=
  Named.of_wf _ (by simp)

theorem Named.transmitComplete (l : Link) : Named.Statement (.transmitComplete l) :=
  Named.of_wf _ (by simp)

theorem Named.flushTimerExpiry (l : Link) : Named.Statement (.flushTimerExpiry l) :=
  Named.of_wf _ (by simp)

theorem Named.unknownKind (l : Link) (kind tag : Byte) (payload : List Byte) : Named.Statement (.unknownKind l kind tag payload) :=
  Named.of_wf _ (by simp)

theorem Named.nonRequestFrame (l : Link) (kind tag : Byte) (payload : List Byte) : Named.Statement (.nonRequestFrame l kind tag payload) :=
  Named.of_wf _ (by simp)

theorem Named.arrivalNotice (l : Link) (tag : Byte) (payload : List Byte) : Named.Statement (.arrivalNotice l tag payload) :=
  Named.of_wf _ (by simp)

theorem Named.doorRelease (l : Link) (tag : Byte) (payload : List Byte) : Named.Statement (.doorRelease l tag payload) :=
  Named.of_wf _ (by simp)

theorem Named.releaseWithdraw (l : Link) (tag : Byte) (payload : List Byte) : Named.Statement (.releaseWithdraw l tag payload) :=
  Named.of_wf _ (by simp)

theorem Named.trainAtRest (l : Link) (tag : Byte) (payload : List Byte) : Named.Statement (.trainAtRest l tag payload) :=
  Named.of_wf _ (by simp)

theorem Named.departed (l : Link) (tag : Byte) (payload : List Byte) : Named.Statement (.departed l tag payload) :=
  Named.of_wf _ (by simp)

theorem Named.possessionGrant (l : Link) (tag : Byte) (payload : List Byte) : Named.Statement (.possessionGrant l tag payload) :=
  Named.of_wf _ (by simp)

theorem Named.possessionRevoke (l : Link) (tag : Byte) (payload : List Byte) : Named.Statement (.possessionRevoke l tag payload) :=
  Named.of_wf _ (by simp)

theorem Named.identify (l : Link) (tag : Byte) (payload : List Byte) : Named.Statement (.identify l tag payload) :=
  Named.of_wf _ (by simp)

theorem Named.getStatusFace (l : Link) (tag : Byte) (payload : List Byte) : Named.Statement (.getStatusFace l tag payload) :=
  Named.of_wf _ (by simp)

theorem Named.getStatusDoorUnit (l : Link) (tag : Byte) (payload : List Byte) : Named.Statement (.getStatusDoorUnit l tag payload) :=
  Named.of_wf _ (by simp)

theorem Named.getStatusBerth (l : Link) (tag : Byte) (payload : List Byte) : Named.Statement (.getStatusBerth l tag payload) :=
  Named.of_wf _ (by simp)

theorem Named.writeGeometry (l : Link) (tag : Byte) (payload : List Byte) : Named.Statement (.writeGeometry l tag payload) :=
  Named.of_wf _ (by simp)

theorem Named.writeTolerance (l : Link) (tag : Byte) (payload : List Byte) : Named.Statement (.writeTolerance l tag payload) :=
  Named.of_wf _ (by simp)

theorem Named.writeParameters (l : Link) (tag : Byte) (payload : List Byte) : Named.Statement (.writeParameters l tag payload) :=
  Named.of_wf _ (by simp)

theorem Named.writeDeviceParameters (l : Link) (tag : Byte) (payload : List Byte) : Named.Statement (.writeDeviceParameters l tag payload) :=
  Named.of_wf _ (by simp)

theorem Named.setReporting (l : Link) (tag : Byte) (payload : List Byte) : Named.Statement (.setReporting l tag payload) :=
  Named.of_wf _ (by simp)

theorem Named.writeCarProfile (l : Link) (tag : Byte) (payload : List Byte) : Named.Statement (.writeCarProfile l tag payload) :=
  Named.of_wf _ (by simp)

theorem Named.writeUnitProfile (l : Link) (tag : Byte) (payload : List Byte) : Named.Statement (.writeUnitProfile l tag payload) :=
  Named.of_wf _ (by simp)

theorem Named.writeDescriptor (l : Link) (tag : Byte) (payload : List Byte) : Named.Statement (.writeDescriptor l tag payload) :=
  Named.of_wf _ (by simp)

theorem Named.lockGeometry (l : Link) (tag : Byte) (payload : List Byte) : Named.Statement (.lockGeometry l tag payload) :=
  Named.of_wf _ (by simp)

theorem Named.unlockGeometry (l : Link) (tag : Byte) (payload : List Byte) : Named.Statement (.unlockGeometry l tag payload) :=
  Named.of_wf _ (by simp)

theorem Named.commit (l : Link) (tag : Byte) (payload : List Byte) : Named.Statement (.commit l tag payload) :=
  Named.of_wf _ (by simp)

theorem Named.readGeometry (l : Link) (tag : Byte) (payload : List Byte) : Named.Statement (.readGeometry l tag payload) :=
  Named.of_wf _ (by simp)

theorem Named.readParameters (l : Link) (tag : Byte) (payload : List Byte) : Named.Statement (.readParameters l tag payload) :=
  Named.of_wf _ (by simp)

theorem Named.readDeviceParameters (l : Link) (tag : Byte) (payload : List Byte) : Named.Statement (.readDeviceParameters l tag payload) :=
  Named.of_wf _ (by simp)

theorem Named.readCarProfile (l : Link) (tag : Byte) (payload : List Byte) : Named.Statement (.readCarProfile l tag payload) :=
  Named.of_wf _ (by simp)

theorem Named.readUnitProfile (l : Link) (tag : Byte) (payload : List Byte) : Named.Statement (.readUnitProfile l tag payload) :=
  Named.of_wf _ (by simp)

theorem Named.readIsolation (l : Link) (tag : Byte) (payload : List Byte) : Named.Statement (.readIsolation l tag payload) :=
  Named.of_wf _ (by simp)

theorem Named.readDescriptor (l : Link) (tag : Byte) (payload : List Byte) : Named.Statement (.readDescriptor l tag payload) :=
  Named.of_wf _ (by simp)

theorem Named.setMode (l : Link) (tag : Byte) (payload : List Byte) : Named.Statement (.setMode l tag payload) :=
  Named.of_wf _ (by simp)

theorem Named.doorCommandOpen (l : Link) (tag : Byte) (payload : List Byte) : Named.Statement (.doorCommandOpen l tag payload) :=
  Named.of_wf _ (by simp)

theorem Named.doorCommandClose (l : Link) (tag : Byte) (payload : List Byte) : Named.Statement (.doorCommandClose l tag payload) :=
  Named.of_wf _ (by simp)

theorem Named.isolate (l : Link) (tag : Byte) (payload : List Byte) : Named.Statement (.isolate l tag payload) :=
  Named.of_wf _ (by simp)

theorem Named.restore (l : Link) (tag : Byte) (payload : List Byte) : Named.Statement (.restore l tag payload) :=
  Named.of_wf _ (by simp)

theorem Named.doorReset (l : Link) (tag : Byte) (payload : List Byte) : Named.Statement (.doorReset l tag payload) :=
  Named.of_wf _ (by simp)

theorem Named.faceReset (l : Link) (tag : Byte) (payload : List Byte) : Named.Statement (.faceReset l tag payload) :=
  Named.of_wf _ (by simp)

theorem Named.berthAck (l : Link) (tag : Byte) (payload : List Byte) : Named.Statement (.berthAck l tag payload) :=
  Named.of_wf _ (by simp)

theorem Named.ackGap (l : Link) (tag : Byte) (payload : List Byte) : Named.Statement (.ackGap l tag payload) :=
  Named.of_wf _ (by simp)

theorem Named.evacuate (l : Link) (tag : Byte) (payload : List Byte) : Named.Statement (.evacuate l tag payload) :=
  Named.of_wf _ (by simp)

theorem Named.emergencyClear (l : Link) (tag : Byte) (payload : List Byte) : Named.Statement (.emergencyClear l tag payload) :=
  Named.of_wf _ (by simp)

theorem Named.startProgram (l : Link) (tag : Byte) (payload : List Byte) : Named.Statement (.startProgram l tag payload) :=
  Named.of_wf _ (by simp)

theorem Named.haltProgram (l : Link) (tag : Byte) (payload : List Byte) : Named.Statement (.haltProgram l tag payload) :=
  Named.of_wf _ (by simp)

theorem Named.resumeProgram (l : Link) (tag : Byte) (payload : List Byte) : Named.Statement (.resumeProgram l tag payload) :=
  Named.of_wf _ (by simp)

theorem Named.stepProgram (l : Link) (tag : Byte) (payload : List Byte) : Named.Statement (.stepProgram l tag payload) :=
  Named.of_wf _ (by simp)

theorem Named.clearProgramErrors (l : Link) (tag : Byte) (payload : List Byte) : Named.Statement (.clearProgramErrors l tag payload) :=
  Named.of_wf _ (by simp)

theorem Named.armProgram (l : Link) (tag : Byte) (payload : List Byte) : Named.Statement (.armProgram l tag payload) :=
  Named.of_wf _ (by simp)

theorem Named.disarmProgram (l : Link) (tag : Byte) (payload : List Byte) : Named.Statement (.disarmProgram l tag payload) :=
  Named.of_wf _ (by simp)

theorem Named.readCounts (l : Link) (tag : Byte) (payload : List Byte) : Named.Statement (.readCounts l tag payload) :=
  Named.of_wf _ (by simp)

theorem Named.readHistory (l : Link) (tag : Byte) (payload : List Byte) : Named.Statement (.readHistory l tag payload) :=
  Named.of_wf _ (by simp)

theorem Named.limitTimerExpiry (f : Face) : Named.Statement (.limitTimerExpiry f) :=
  Named.of_wf _ (by simp)

theorem Named.holdTimerExpiry (f : Face) : Named.Statement (.holdTimerExpiry f) :=
  Named.of_wf _ (by simp)

theorem Named.lossOfPower : Named.Statement (.lossOfPower) :=
  Named.of_wf _ (by simp)

theorem Named.byteReceived (l : Link) (b : Byte) : Named.Statement (.byteReceived l b) :=
  Named.of_wf _ (by simp)

end Sys2Proof.Laws
end

