-- ==== Sys2Proof/Tests/Slice0.lean ====
section
/-! SUPPORT. Tests: the checks of WellFormed, the KIND codes, the worked figures of the spec, and for every statement with
hypotheses a witness that meets them. -/

open Sys2Proof Sys2Proof.Machine

namespace Sys2Proof.Tests

set_option Elab.async false

/-! ### Helpers -/

/-- A geometry of two door units of section 0 and power group 0, 2,000 mm apart. -/
def geo2 : Geometry :=
  { Geometry.default with n := 2, doors := put (put Geometry.default.doors 0 ⟨2000, 0, 0⟩) 1 ⟨4000, 0, 0⟩ }

/-- The inputs of a closed and locked door unit. -/
def closedIn : DoorInputs := ⟨true, false, true, false, false, false, false, false⟩

/-- A door unit record in a state, with nothing pending. -/
def rec (st : DoorState) (t : Option Timer) : DoorRec := ⟨some st, none, 0, false, none, 0, t⟩

/-- A timer that is due at reading 0. -/
def due0 : Timer := ⟨0, 0⟩

/-- A face in SUPERVISED with its two door units LOCKED and CLP asserted. -/
def face0 : FaceState :=
  { FaceState.start .supervised with
    doors := Vector.ofFn (fun j => if j.val < 2 then rec .locked none else DoorRec.blank)
    inputs := Vector.replicate 32 closedIn
    clp := ⟨true, false, false, false, false, false, 0, 0⟩
    mode := ⟨.supervised, 1, none, .auto, true, false, false, false⟩ }

/-- A controller with two door units on each face, scanned, at rest. -/
def base : State :=
  { State.reset with
    scanDone := true
    configInvalid := false
    ilLost := false
    config := { WorkingCopy.default with geo0 := geo2, geo1 := geo2 }
    f0 := face0
    f1 := face0 }

/-- The controller with FACE 0 changed. -/
def at0 (g : FaceState → FaceState) : State := base.mapFace .f0 g

/-- The controller with door unit 0 of FACE 0 in a state, with inputs and a timer. -/
def door0 (st : DoorState) (i : DoorInputs) (t : Option Timer) : State :=
  at0 (fun x => { x with doors := put x.doors 0 (rec st t), inputs := put x.inputs 0 i })

/-- The controller with the berth of FACE 0 changed. -/
def berth0 (g : Berth → Berth) : State := base.mapBerth .f0 g

/-- The controller with a frame at the head of a receive queue. -/
def holding (l : Link) (x : Frame) (s : State) : State := s.mapLink l (fun k => { k with rxQueue := [x] })

/-- Readings at a start with every beam clear. -/
def readings (k : Option KeyPos) : StartReadings :=
  ⟨⟨false, false, Vector.replicate 25 false, k, false⟩, ⟨false, false, Vector.replicate 25 false, k, true⟩, false⟩

/-- The leaf and lock signals of a position. -/
def leaf (closed open_ lock mrh : Bool) : LeafSignals := ⟨closed, open_, lock, mrh⟩

/-- Door unit 0 of FACE 0 is OPEN and in the Door Map of a STOPPED berth, DWA interrupted, its tracker as given. -/
def passing (x : Tracker) : State :=
  ((door0 .standOpen ⟨false, true, false, false, false, true, false, false⟩ none).mapSense .f0 0
    (fun d => { d with tracker := x })).mapFace .f0 (fun y => { y with
      align := ⟨some .full, some [], 1, [0]⟩
      berth := { y.berth with state := .stopped } })

/-- The outcome is a next state of which this holds. -/
def ends (o : Host.Outcome State Fault Refusal) (p : State → Bool) : Bool :=
  match o with
  | .next t => p t
  | _ => false

/-! ### WellFormed -/

/-- R153: a payload of 249 bytes is not carried by a frame. -/
theorem test_wf_long_payload : (Instr.validFrameReceived .sl ⟨0x08, 0, List.replicate 249 0⟩).wf = false := by
  decide +kernel

/-- R153: the longest payload is. -/
theorem test_wf_longest_payload : (Instr.validFrameReceived .sl ⟨0x08, 0, List.replicate 248 0⟩).wf = true := by
  decide +kernel

/-- R170: GET STATUS of a berth is not the row of a door unit. -/
theorem test_wf_row : (Instr.getStatusDoorUnit .sl 0 [2, 0, 0]).wf = false := by decide +kernel

/-- R155: a KIND of 0x80 is no unknown request. -/
theorem test_wf_kind : (Instr.unknownKind .sl 0x80 0 []).wf = false := by decide +kernel

/-! ### KIND codes (R168, R170) -/

theorem test_kind_departed : Instr.ofFrame .il ⟨0x05, 7, [1]⟩ = .departed .il 7 [1] := by decide +kernel

theorem test_kind_status_berth : Instr.ofFrame .sl ⟨0x09, 7, [2, 1, 1]⟩ = .getStatusBerth .sl 7 [2, 1, 1] := by
  decide +kernel

theorem test_kind_door_command_close :
    Instr.ofFrame .sl ⟨0x31, 7, [0, 1, 2, 0, 0, 0, 3]⟩ = .doorCommandClose .sl 7 [0, 1, 2, 0, 0, 0, 3] := by
  decide +kernel

/-- A KIND of each clause of EveryFrameIsOneRow, and a scope and an action that name none. -/
theorem witness_rows :
    (Instr.departed .il 7 [1]).frame? = some (.il, ⟨0x05, 7, [1]⟩) ∧
      Instr.departed .il 7 [1] ≠ .unknownKind .il 0x05 7 [1] ∧ Instr.departed .il 7 [1] ≠ .nonRequestFrame .il 0x05 7 [1] ∧
      Instr.ofFrame .sl ⟨0x09, 7, []⟩ = .getStatusFace .sl 7 [] ∧
      Instr.ofFrame .sl ⟨0x31, 7, [0, 2]⟩ = .doorCommandOpen .sl 7 [0, 2] := by decide +kernel

theorem test_kind_unknown : Instr.ofFrame .sl ⟨0x47, 7, []⟩ = .unknownKind .sl 0x47 7 [] := by decide +kernel

theorem test_kind_reply : Instr.ofFrame .sl ⟨0x80, 7, []⟩ = .nonRequestFrame .sl 0x80 7 [] := by decide +kernel

/-! ### Worked figures -/

/-- The published check value of the CRC of R153 over the nine digits. -/
theorem test_crc : crc16 [0x31, 0x32, 0x33, 0x34, 0x35, 0x36, 0x37, 0x38, 0x39] = 0x29B1#16 := by decide +kernel

/-- R96: 6,000 mm in 2,000,000 µs. -/
theorem test_speed : approachSpeed 6000 2000000 = (3000, false) := by decide +kernel

/-- R96: 6,000 mm in 80,000 µs saturates. -/
theorem test_speed_saturates : approachSpeed 6000 80000 = (65535, true) := by decide +kernel

/-- R97: 3,000 mm/s and 800 mm/s² from −6,000. -/
theorem test_head : predictedHead (-6000) 3000 800 = (-375, false) := by decide +kernel

/-- R97: the clamped speed. -/
theorem test_head_saturates : predictedHead (-6000) 65535 800 = (32767, true) := by decide +kernel

/-- A stop-window pattern, the interrupted beams listed. -/
def pattern (is : List Nat) : List Bool := (List.range 25).map (fun i => is.contains i)

/-- R99: SW0 to SW10. -/
theorem test_window_run :
    (readWindow (pattern (List.range 11))).measure 50 = ⟨some (-75), false, false, none, false⟩ := by decide +kernel

/-- R99: SW7 is bridged. -/
theorem test_window_bridged : (readWindow (pattern [0, 1, 2, 3, 4, 5, 6, 8, 9, 10, 11, 12])).measure 50 =
    ⟨some 25, false, false, some 7, false⟩ := by decide +kernel

/-- R99: SW0 is bridged. -/
theorem test_window_first_bridged : (readWindow (pattern [1, 2, 3, 4, 5, 6, 7, 8, 9, 10])).measure 50 =
    ⟨some (-75), false, false, some 0, false⟩ := by decide +kernel

/-- R99: a second break after the bridge. -/
theorem test_window_second_break : (readWindow (pattern [0, 1, 2, 3, 4, 6, 7, 8, 9, 11])).measure 50 =
    ⟨none, false, false, none, true⟩ := by decide +kernel

/-- R99: SW23 bridged and SW24 interrupted. -/
theorem test_window_beyond_bridged : (readWindow (pattern ((List.range 23) ++ [24]))).measure 50 =
    ⟨some 625, true, false, some 23, false⟩ := by decide +kernel

/-- R65: centres 500 mm apart refuse T = 250, and 600 mm apart accept T = 299 and refuse T = 300. -/
theorem test_spacing :
    let g (d : Nat) : Geometry := { geo2 with doors := put geo2.doors 1 ⟨2000 + d, 0, 0⟩ }
    (g 500).spaced 250 = false ∧ (g 600).spaced 299 = true ∧ (g 600).spaced 300 = false := by decide +kernel

/-- 3.10: DWB clears in AB_FROM_B, and the tracker is in TAIL_FROM_B. -/
theorem test_tracker_tail : ends (exec (.sensingInputChange .f0 0 ⟨false, true, false, false⟩)
    ((door0 .standOpen ⟨false, true, false, false, false, true, true, false⟩ none).mapSense .f0 0
      (fun d => { d with tracker := .abFromB }))) (fun t => (t.sense .f0 0).tracker = .tailFromB) = true := by
  decide +kernel

/-- 3.10: DWA clears in TAIL_FROM_B: one ALIGHTING. -/
theorem test_tracker_alighting : ends (exec (.sensingInputChange .f0 0 ⟨false, false, false, false⟩) (passing .tailFromB))
    (fun t => (t.sense .f0 0).alighting = 1) = true := by decide +kernel

/-- 5.12: SW0 is interrupted in ARRIVING, and the berth is SETTLING. -/
theorem test_settling : ends (exec (.swBeamChange .f0 0 true 0) (berth0 (fun b => { b with state := .arriving })))
    (fun t => (t.berth .f0).state = .settling) = true := by decide +kernel

/-- R1, R78: a beam whose level changed at reading 9,700 is accepted at reading 10,200, one millisecond later, and is
timestamped with 9,700. -/
theorem test_beam_timestamp : ends (exec (.ab1Change .f0 true 9700) { base with usClock := 9900, usPhase := 900, msClock := 9 })
    (fun t => t.usClock = 10200 ∧ t.msClock = 10 ∧ t.usPhase = 200 ∧ (t.berth .f0).ab1Time = some (9700, 10)) = true := by
  decide +kernel

/-- R41, R50: a gap obstruction in the input change that also ends a deferral begins its episode, before the close that is
then granted disarms the zone. -/
theorem test_change_taken_whole : ends (exec (.sensingInputChange .f0 0 ⟨false, false, false, true⟩)
    (((door0 .closeWait ⟨false, true, false, false, false, true, false, false⟩ none).mapSense .f0 0
      (fun d => { d with deferral := some ⟨0, 5000⟩, zone := .watch })).mapBerth .f0 (fun b => { b with state := .stopped })))
    (fun t => (t.door .f0 0).state = some .closing ∧ (t.face .f0).newest.isSome) = true := by decide +kernel

/-- R121: FACE RESET out of MOVED_FAULT asserts CLP by the berth, so that the report names no door unit, a zone in WATCH
notwithstanding. -/
theorem test_reset_clp_subject : ends (exec (.faceReset .sl 2 [0])
    ((holding .sl ⟨0x36, 2, [0]⟩ (berth0 (fun b => { b with state := .movedFault }))).mapFace .f0 (fun x => { x with
      sense := put x.sense 0 { x.sense[0] with zone := .watch }
      clp := { x.clp with value := false, moved := true } }) |>.mapLink .sl (fun k => { k with
        tx := some ⟨⟨0xF0, 1, []⟩, false, 0, 0⟩ })))
    (fun t => (t.face .f0).clp.value ∧ ((t.sl.reports.filter (fun r => r.kind = .clpChange)).map (·.subject)) = [none]) = true := by
  decide +kernel

/-- R155: a command of the wrong link answers with its own TAG, KIND plus 0x80 and WRONG_LINK (R157, R166). -/
theorem test_wrong_link_reply : ends (exec (.departed .sl 9 [0]) base)
    (fun t => (t.sl.tx.map (fun x => (x.frame.kind, x.frame.tag, x.frame.payload))) = some (0x85, 9, [0x05, 0x03]))
      = true := by decide +kernel

/-! ### Witnesses: the whole machine, start and power -/

theorem witness_front : ({ base with pending := [.lossOfPower, .commitEnd] } : State).pending = .lossOfPower :: [.commitEnd] :=
  rfl

theorem witness_idle_tick : base.pending = [] ∧ base.dueCommand = none ∧ base.powered = true := by decide +kernel

theorem witness_idle_due : (at0 (fun x => { x with quietTimer := some due0 })).dueCommand = some (.quietTimerExpiry .f0) := by
  decide +kernel

theorem witness_unpowered : ({ base with powered := false } : State).powered = false ∧ ∀ r, Instr.commitEnd ≠ .powerOn r :=
  ⟨rfl, fun _ h => by cases h⟩

/-- A scan that the next tick completes, on a door unit that drives and one that is not fitted. -/
theorem witness_drives : let s := { door0 .locking closedIn none with scanPhase := 3 }
    s.isFitted .f0 0 = true ∧ s.isFitted .f1 31 = false ∧ (s.door .f0 0).state = some .locking ∧ s.pending = [] ∧
      s.dueCommand = none ∧ s.powered = true ∧ s.scanDone = true ∧ 3 ≤ s.scanPhase := by decide +kernel

theorem witness_command_keeps_queue : (∃ t, exec .lossOfPower base = .next t) ∧ base.notices = [] ∧ ∃ t, step base = .next t :=
  ⟨⟨_, rfl⟩, rfl, ⟨_, rfl⟩⟩

theorem witness_no_write : writesConfiguration (.maintChange true) = false ∧ touchesStore (.maintChange true) = false ∧
    (∃ t, exec (.maintChange true) base = .next t) ∧ ∃ t, exec (.commit .sl 0 []) base = .next t :=
  ⟨rfl, rfl, ⟨_, rfl⟩, ⟨_, rfl⟩⟩

theorem witness_face_event : eventFace (.quietTimerExpiry .f1) = some .f1 ∧ requestOnFace (.departed .il 0 [1]) = some [1] ∧
    faceOf (byteAt [1] 0) = some .f1 ∧ Face.f0 ≠ .f1 ∧ base.notices = [] ∧
    (∃ t, exec (.quietTimerExpiry .f1) base = .next t) ∧ ∃ t, exec (.departed .il 0 [1]) base = .next t :=
  ⟨rfl, rfl, rfl, by decide, rfl, ⟨_, rfl⟩, ⟨_, rfl⟩⟩

/-- Storage that holds a content under a CRC. -/
def stored (x : Word16) : State :=
  { base with nv := .whole base.config 5 (crc16 (base.config.bytes 5) + x) }

/-- The three outcomes of the load, and a commit in flight. -/
theorem witness_load :
    base.powered = true ∧ (∃ k, (stored 0).nv = .whole base.config 5 k ∧ k = crc16 (base.config.bytes 5)) ∧
    (∀ w g k, (stored 1).nv = .whole w g k → k ≠ crc16 (w.bytes g)) ∧
    (∀ w g k, base.nv = .whole w g k → k ≠ crc16 (w.bytes g)) ∧
    ({ base with commit := some ⟨base.config, 1, 0, due0⟩ } : State).commit.isSome = true := by
  refine ⟨rfl, ⟨_, rfl, by simp⟩, ?_, ?_, rfl⟩
  · intro w g k h
    simp only [stored, NvStore.whole.injEq] at h
    obtain ⟨rfl, rfl, rfl⟩ := h
    generalize crc16 _ = x
    bv_omega
  · intro w g k h
    cases h

theorem witness_start_keys : (startReadings (readings (some .auto)) .f0).key = some .auto ∧
    (startReadings (readings none) .f1).key ≠ some .auto ∧ base.powered = true := by decide +kernel

/-- The controller before the first complete scan, with no door unit in a state. -/
def unscanned : State :=
  let x : FaceState := { face0 with
    doors := Vector.replicate 32 DoorRec.blank
    clp := Clp.start }
  { base with scanDone := false, f0 := x, f1 := x }

/-- Before the scan, without the latch and with it: door unit 1 is fitted and has a state found of it. -/
theorem witness_first_scan : unscanned.scanDone = false ∧ (∀ f, unscanned.calm f = true) ∧ (∀ f, unscanned.startQueueLaw f) ∧
    unscanned.isFitted .f0 1 = true ∧
    (let l := unscanned.mapMode .f0 (fun m => { m with latch := true })
     l.calm .f0 = true ∧ l.startQueueLaw .f0 ∧ (l.face .f0).mode.latch = true ∧ l.sectionActive .f0 1 = true) := by
  refine ⟨rfl, fun f => by cases f <;> rfl, fun f => ?_, by decide +kernel, by decide +kernel, ?_, by decide +kernel,
    by decide +kernel⟩
  · cases f <;> (unfold State.startQueueLaw; decide +kernel)
  · unfold State.startQueueLaw; decide +kernel

/-- A Start Queue with an entry, and a step taken on it: its head is granted when the spacing hold stops. -/
theorem witness_start_queue_law :
    let s := (door0 .unlatched closedIn none).mapGroup .f0 0 (fun _ => { Group.blank with
      queue := [⟨0, .open_, .normal, 0⟩], spacing := some due0 })
    (∀ f, s.startQueueLaw f) ∧ ∃ t, step { s with pending := [.spacingHoldExpiry .f0 0] } = .next t := by
  refine ⟨fun f => ?_, ⟨_, rfl⟩⟩
  cases f <;> (unfold State.startQueueLaw; decide +kernel)

/-- R27, R132: EVACUATE before the first complete scan counts the two door units of its active section, which refuse. -/
theorem test_latch_before_scan : unscanned.emergencyReach .f0 = [0, 1] ∧ unscanned.requestEach .f0 [0, 1] .emergencyOpen = unscanned := by
  decide +kernel

theorem witness_commit : (∀ f, base.calm f = true) ∧ base.commit = none ∧
    ({ base with commit := some ⟨base.config, 1, 0, due0⟩ } : State).commit = some ⟨base.config, 1, 0, due0⟩ ∧
    (holding .sl ⟨0x1A, 3, []⟩ base).ready .sl ⟨0x1A, 3, []⟩ = true :=
  ⟨fun f => by cases f <;> rfl, rfl, rfl, by decide +kernel⟩

/-! ### Witnesses: door units and groups -/

theorem witness_manual_release : let s := door0 .fault closedIn none
    s.calm .f0 = true ∧ s.scanDone = true ∧ s.isFitted .f0 0 = true ∧ (s.input .f0 0).mrh = false ∧
      (leaf true false true true).mrh = true ∧ (s.door .f0 0).state ≠ some .released := by decide +kernel

/-- A door unit in RELEASED: MRH goes inactive and it is found LOCKED, or found LOCKING under the latch and kept there; the
lock alone changes; MRH goes active again. -/
theorem witness_leaving_release :
    let s (mrh : Bool) := door0 .released ⟨true, false, true, mrh, false, false, false, false⟩ none
    let l := (s true).mapMode .f0 (fun m => { m with latch := true })
    let found (v : LeafSignals) := (resolvedState (withLeaf v ((s true).input .f0 0)) ((s true).isolated .f0 0))
    (s true).calm .f0 = true ∧ (s true).scanDone = true ∧ (s true).isFitted .f0 0 = true ∧
      ((s true).door .f0 0).state = some .released ∧ ((s true).input .f0 0).mrh = true ∧
      (found (leaf true false true false) false).1 = .locked ∧ (found (leaf true false false false) true).1 = .released ∧
      (l.face .f0).mode.latch = true ∧ l.calm .f0 = true ∧ ((s false).input .f0 0).mrh = false ∧
      (leaf true false true true).mrh = true ∧ (leaf true false false false).mrh = ((s false).input .f0 0).mrh := by
  decide +kernel

/-- The three clauses of the input faults: contradictory signals, a leaf that closes in OPEN, and a lock lost. -/
theorem witness_input_faults :
    (let s := door0 .opening closedIn none
     let v := leaf true true false false
     s.calm .f0 = true ∧ s.scanDone = true ∧ s.isFitted .f0 0 = true ∧ v.mrh = (s.input .f0 0).mrh ∧
       (s.door .f0 0).state = some .opening ∧ v.leafOpen = true ∧ v.leafClosed = true) ∧
    (let s := door0 .standOpen ⟨false, true, false, false, false, false, false, false⟩ none
     let v := leaf true false false false
     s.calm .f0 = true ∧ v.mrh = (s.input .f0 0).mrh ∧ (s.door .f0 0).state = some .standOpen ∧
       (s.input .f0 0).leafClosed = false ∧ v.leafClosed = true ∧ v.leafOpen = false) ∧
    (let s := door0 .locked closedIn none
     let v := leaf true false false false
     s.calm .f0 = true ∧ (s.door .f0 0).state = some .locked ∧ (s.input .f0 0).lockEngaged = true ∧
       v.lockEngaged = false ∧ v.mrh = false ∧ ¬(v.leafOpen = true ∧ v.leafClosed = true)) := by decide +kernel

/-- The four clauses of the leaf and the lock. -/
theorem witness_leaf_and_lock :
    (let s := door0 .opening ⟨false, false, false, false, false, true, false, false⟩ none
     let u := s.mapDoor .f0 0 (fun d => { d with pendingClose := true })
     let v := leaf false true false false
     s.calm .f0 = true ∧ s.scanDone = true ∧ s.isFitted .f0 0 = true ∧ v.mrh = (s.input .f0 0).mrh ∧
       ¬(v.leafOpen = true ∧ v.leafClosed = true ∨ v.lockEngaged = true ∧ v.leafClosed = false) ∧
       (s.door .f0 0).state = some .opening ∧ (s.door .f0 0).pendingClose = false ∧ (s.input .f0 0).leafOpen = false ∧
       (u.door .f0 0).pendingClose = true ∧ (u.par .f0).doorwayDeferLimit ≠ 0 ∧ (u.input .f0 0).dwa = true) ∧
    (let s := door0 .closing ⟨false, false, false, false, false, false, false, false⟩ none
     (s.door .f0 0).state = some .closing ∧ (s.input .f0 0).leafClosed = false ∧ (leaf true false false false).leafClosed = true) ∧
    (let s := door0 .locking ⟨true, false, false, false, false, false, false, false⟩ none
     (s.door .f0 0).state = some .locking ∧ (s.input .f0 0).lockEngaged = false ∧
       (leaf true false true false).lockEngaged = true) := by decide +kernel

/-- The clauses of a reversal by request, of one by obstruction at and below reclose_max, and of the lock edges with
unlatch_settle running, zero with the grant made, and zero with the spacing hold running. -/
theorem witness_reversal_and_unlatching :
    (let s := door0 .reversing ⟨false, false, false, false, false, false, false, false⟩ none
     let by_ (c : Option ReqClass) (n : Nat) := s.mapDoor .f0 0 (fun d => { d with reqClass := c, attempts := n })
     ((by_ (some .emergency) 0).door .f0 0).reqClass.isSome = true ∧ ((by_ none 0).door .f0 0).reqClass = none ∧
       0 < (s.par .f0).recloseMax ∧ ¬((by_ none (s.par .f0).recloseMax).door .f0 0).attempts < (s.par .f0).recloseMax ∧
       (s.input .f0 0).leafOpen = false ∧ (leaf false true false false).leafOpen = true) ∧
    (let s := door0 .unlatching closedIn none
     let z := s.mapConfig (fun c => c.setPar .f0 { c.par0 with unlatchSettle := 0 })
     let e : Entry := ⟨0, .open_, .normal, 0⟩
     let w := z.mapGroup .f0 0 (fun x => { x with spacing := some ⟨0, 60⟩ })
     let v := leaf true false false false
     s.calm .f0 = true ∧ s.scanDone = true ∧ v.mrh = (s.input .f0 0).mrh ∧ (s.door .f0 0).state = some .unlatching ∧
       (s.input .f0 0).lockEngaged = true ∧ v.lockEngaged = false ∧ (s.par .f0).unlatchSettle ≠ 0 ∧
       (z.par .f0).unlatchSettle = 0 ∧ (z.group .f0 (z.groupOf .f0 0)).queue = [] ∧
       (joinQueue e (z.group .f0 0).queue).head? = some e ∧ (z.group .f0 0).mayGrant = true ∧
       (w.group .f0 0).mayGrant = false) ∧
    (let s := door0 .unlatched ⟨true, false, false, false, false, false, false, false⟩ none
     (s.door .f0 0).state = some .unlatched ∧ (s.input .f0 0).lockEngaged = false ∧
       (leaf true false true false).lockEngaged = true) := by decide +kernel

theorem witness_obstruction : let s := door0 .closing ⟨false, false, false, false, false, false, false, false⟩ none
    let v : SenseSignals := ⟨true, false, false, false⟩
    s.calm .f0 = true ∧ s.scanDone = true ∧ s.isFitted .f0 0 = true ∧ (s.door .f0 0).state = some .closing ∧
      (s.sense .f0 0).deferral = none ∧ (s.input .f0 0).edge = false ∧ v.edge = true ∧
      v.dwa = (s.input .f0 0).dwa ∧ v.dwb = (s.input .f0 0).dwb ∧ v.gap = (s.input .f0 0).gap := by decide +kernel

theorem witness_passage : ∀ x, x = Tracker.tailFromA ∨ x = .tailFromB → let s := passing x
    let v : SenseSignals := ⟨false, false, false, false⟩
    s.calm .f0 = true ∧ s.scanDone = true ∧ s.isFitted .f0 0 = true ∧ s.served .f0 0 = true ∧
      trackerRuns (s.door .f0 0).state = true ∧ (s.sense .f0 0).deferral = none ∧ (s.input .f0 0).dwa = true ∧
      v.dwa = false ∧ v.dwb = false ∧ v.gap = (s.input .f0 0).gap ∧ v.edge = (s.input .f0 0).edge ∧
      (s.sense .f0 0).tracker = x := by
  rintro x (rfl | rfl) <;> decide +kernel

/-- An UNLATCHED door unit at an empty queue, where the grant is made, and with the spacing hold running. -/
theorem witness_unlatch_settle : let s := door0 .unlatched closedIn (some due0)
    let u := s.mapGroup .f0 0 (fun x => { x with spacing := some ⟨0, 60⟩ })
    let e : Entry := ⟨0, .open_, .normal, 0⟩
    s.calm .f0 = true ∧ (s.door .f0 0).state = some .unlatched ∧ (s.door .f0 0).timer = some due0 ∧
      due0.due s.msClock = true ∧ (s.group .f0 (s.groupOf .f0 0)).queue = [] ∧
      (joinQueue e (s.group .f0 0).queue).head? = some e ∧ (s.group .f0 0).mayGrant = true ∧
      u.calm .f0 = true ∧ (u.group .f0 0).mayGrant = false := by decide +kernel

theorem witness_timeout : ∀ st, st = DoorState.unlatching ∨ st = .reversing ∨ st = .closing ∨ st = .locking →
    let s := door0 st closedIn (some due0)
    s.calm .f0 = true ∧ (s.door .f0 0).state = some st ∧ (s.door .f0 0).timer = some due0 ∧ due0.due s.msClock = true := by
  rintro st (rfl | rfl | rfl | rfl) <;> decide +kernel

/-- The end of a reclose hold with a beam interrupted, at a waiting queue and where the grant is made. -/
theorem witness_reclose : let s := door0 .recloseHold ⟨false, true, false, false, false, false, false, false⟩ (some due0)
    let beam := s.mapInput .f0 0 (fun x => { x with dwb := true })
    let busy := s.mapGroup .f0 0 (fun x => { x with queue := [⟨1, .close, .normal, 0⟩] })
    s.calm .f0 = true ∧ (s.door .f0 0).state = some .recloseHold ∧ (s.door .f0 0).timer = some due0 ∧
      due0.due s.msClock = true ∧ (s.group .f0 0).queue = [] ∧ (s.group .f0 0).mayGrant = true ∧
      (s.input .f0 0).edge = false ∧ (s.input .f0 0).dwa = false ∧ (s.input .f0 0).dwb = false ∧
      (beam.par .f0).doorwayDeferLimit ≠ 0 ∧ (beam.input .f0 0).dwb = true ∧
      (busy.group .f0 0).queue.all (fun e => e.door ≠ 0) = true ∧ (busy.group .f0 0).queue ≠ [] := by decide +kernel

theorem witness_deferral : let u := door0 .closeWait ⟨false, true, false, false, false, true, false, false⟩ none
    let s := u.mapSense .f0 0 (fun d => { d with deferral := some due0 })
    let busy := s.mapGroup .f0 0 (fun x => { x with queue := [⟨1, .close, .normal, 0⟩] })
    s.calm .f0 = true ∧ (s.sense .f0 0).deferral = some due0 ∧ due0.due s.msClock = true ∧
      (s.group .f0 0).queue = [] ∧ (s.group .f0 0).mayGrant = true ∧ (s.input .f0 0).edge = false ∧
      (busy.group .f0 0).queue.all (fun e => e.door ≠ 0) = true ∧ (busy.group .f0 0).queue ≠ [] := by decide +kernel

/-- The end of a spacing hold with one entry waiting, with none, and a slot emptied with three starts left. -/
theorem witness_grant : let e : Entry := ⟨0, .open_, .normal, 0⟩
    let x : Group := { Group.blank with spacing := some due0 }
    let s := (door0 .unlatched closedIn none).mapGroup .f0 0 (fun _ => { x with queue := [e] })
    let full := (door0 .unlatched closedIn none).mapGroup .f0 0
      (fun _ => ⟨[e], Vector.replicate 4 (some due0), none⟩)
    s.calm .f0 = true ∧ (s.group .f0 0).spacing = some due0 ∧ due0.due s.msClock = true ∧
      (s.group .f0 0).queue = e :: [] ∧ (s.group .f0 0).starts < 4 ∧ (s.par .f0).startSpacing ≠ 0 ∧
      full.calm .f0 = true ∧ (full.group .f0 0).history[(3 : Fin 4)] = some due0 ∧ (full.group .f0 0).spacing = none ∧
      ({ full.group .f0 0 with history := put (full.group .f0 0).history 3 none } : Group).starts < 4 := by decide +kernel

/-- A CLOSE entry at the head when the spacing hold stops, with EDGE inactive and active. -/
theorem witness_grant_close : let e : Entry := ⟨0, .close, .normal, 0⟩
    let s (edge : Bool) := (door0 .closeWait ⟨false, true, false, false, edge, false, false, false⟩ none).mapGroup .f0 0
      (fun _ => { Group.blank with spacing := some due0, queue := [e] })
    (s true).calm .f0 = true ∧ ((s true).group .f0 0).queue = e :: [] ∧ ((s true).group .f0 0).starts < 4 ∧
      ((s true).group .f0 0).spacing = some due0 ∧ ((s true).par .f0).startSpacing ≠ 0 ∧ e.motion = .close ∧
      (s true).groupOf .f0 e.door = 0 ∧ ((s true).input .f0 0).edge = true ∧ ((s false).input .f0 0).edge = false := by
  decide +kernel

/-- The inputs of a door unit that stands open. -/
def openIn : DoorInputs := ⟨false, true, false, false, false, false, false, false⟩

/-- Every state of the request table, under the law of the Start Queues, with the latch clear and set; one that may leave
LOCKED by each case of R19 and one that may not; an isolated one and one with no state. -/
theorem witness_request_table :
    (∀ st ∈ doorStates, let s := door0 st openIn none
      s.startQueueLaw .f0 ∧ ((s.door .f0 0).state = some st ∧ s.isolated .f0 0 = false ∧ (s.face .f0).mode.latch = false)) ∧
    (let iso := base.mapConfig (fun c => c.setIso .f0 (put c.iso0 0 true))
     let case (m : Mode) (b : BerthState) (g : ModeUnit → ModeUnit) := (passing .clear).mapFace .f0 (fun x => { x with
       doors := put x.doors 0 (rec .locked none), berth := { x.berth with state := b, release := true }
       mode := { g x.mode with mode := m } })
     (iso.startQueueLaw .f0 ∧ unscanned.startQueueLaw .f0) ∧
       (iso.isolated .f0 0 = true ∧ (iso.door .f0 0).state ≠ none ∧ (unscanned.door .f0 0).state = none ∧
         ((base.mapDoor .f0 0 (fun d => { d with state := some .reversing, reqClass := some .normal })).door .f0 0).reqClass ≠ none) ∧
       ¬base.mayLeaveLocked .f0 0 ∧ (case .automatic .stopped id).mayLeaveLocked .f0 0 ∧
       (case .automatic .empty (fun m => { m with latch := true })).mayLeaveLocked .f0 0 ∧
       (case .local_ .arriving (fun m => { m with key := .localOpen })).mayLeaveLocked .f0 0 ∧
       (case .maintenance .empty (fun m => { m with possession := true })).mayLeaveLocked .f0 0) := by
  refine ⟨fun st _ => ⟨?_, ?_⟩, ⟨?_, ?_⟩, by decide +kernel, by decide +kernel, by decide +kernel, by decide +kernel,
    by decide +kernel, by decide +kernel⟩
  · cases st <;> (unfold State.startQueueLaw; decide +kernel)
  · cases st <;> decide +kernel
  · unfold State.startQueueLaw; decide +kernel
  · unfold State.startQueueLaw; decide +kernel

/-- An UNLATCHED door unit whose NORMAL entry an EMERGENCY OPEN moves, where the grant is made and with the spacing hold running;
its lock engaged and not engaged for `State.startsOpening`. -/
theorem witness_entry_raised : let e : Entry := ⟨0, .open_, .normal, 0⟩
    let s (t : Option Timer) := (door0 .unlatched closedIn none).mapGroup .f0 0 (fun _ => { Group.blank with
      queue := [e], spacing := t })
    (∀ t ∈ [none, some (⟨0, 60⟩ : Timer)], (s t).startQueueLaw .f0) ∧
    ((s none).group .f0 0).mayGrant = true ∧ ((s (some ⟨0, 60⟩)).group .f0 0).mayGrant = false ∧
      (s none).groupOf .f0 0 = 0 ∧ e ∈ ((s none).group .f0 0).queue ∧ e.cls = .normal ∧
      (base.input .f0 0).lockEngaged = true ∧
      ((base.mapInput .f0 0 (fun i => { i with lockEngaged := false })).input .f0 0).lockEngaged = false := by
  refine ⟨fun t ht => ?_, by decide +kernel⟩
  simp only [List.mem_cons, List.not_mem_nil, or_false] at ht
  rcases ht with rfl | rfl <;> (unfold State.startQueueLaw; decide +kernel)

/-- R16, R17, R19: with none of the cases the answer is NO_RELEASE, and an EMERGENCY OPEN in CLOSING reverses at once. -/
theorem test_request_table : base.request .f0 0 .open_ = (base, .noRelease) ∧
    (((door0 .closing openIn none).request .f0 0 .emergencyOpen).1.door .f0 0).state = some .reversing := by decide +kernel

/-- A deferral that the beams end, with EDGE inactive and active, at a waiting queue, and one that a beam keeps. -/
theorem witness_deferral_by_beams :
    let u (edge : Bool) := (door0 .closeWait ⟨false, true, false, false, edge, true, false, false⟩ none).mapSense .f0 0 (fun d => { d with deferral := some ⟨0, 3000⟩ })
    let busy := (u false).mapGroup .f0 0 (fun x => { x with queue := [⟨1, .close, .normal, 0⟩] })
    let v (edge dwb : Bool) : SenseSignals := ⟨edge, false, dwb, false⟩
    (u true).calm .f0 = true ∧ (u true).scanDone = true ∧ (u true).isFitted .f0 0 = true ∧
      ((u true).door .f0 0).state = some .closeWait ∧ ((u true).sense .f0 0).deferral = some ⟨0, 3000⟩ ∧
      ((u true).group .f0 0).queue = [] ∧ ((u true).group .f0 0).mayGrant = true ∧ (busy.group .f0 0).queue ≠ [] ∧
      (v true false).edge = ((u true).input .f0 0).edge ∧ (v false true).edge = ((u false).input .f0 0).edge ∧
      (v true false).gap = ((u true).input .f0 0).gap ∧ (v true false).dwa = false ∧ (v true false).dwb = false ∧
      (v false true).dwb = true := by decide +kernel

/-! ### Witnesses: sensing and the berth -/

theorem witness_quiet : let s := (passing .clear).mapFace .f0 (fun x => { x with quietTimer := some due0 })
    let u := at0 (fun x => { x with quietTimer := some due0 })
    s.calm .f0 = true ∧ (s.face .f0).quietTimer = some due0 ∧ due0.due s.msClock = true ∧ s.map .f0 ≠ [] ∧
      u.calm .f0 = true ∧ u.map .f0 = [] := by decide +kernel

/-- Every tracker state at a doorway that runs, served and not, at one that is held, and at the top of the counts. -/
theorem witness_tracker : let v : SenseSignals := ⟨false, true, true, false⟩
    (∀ x ∈ trackers, let s := passing x
      s.calm .f0 = true ∧ s.scanDone = true ∧ s.isFitted .f0 0 = true ∧ (s.sense .f0 0).deferral = none ∧
        v.dwb ≠ (s.input .f0 0).dwb ∧ v.gap = (s.input .f0 0).gap ∧ v.edge = (s.input .f0 0).edge ∧
        (s.sense .f0 0).tracker = x ∧ (0 : DoorIx) ∈ s.map .f0) ∧
    (let u := (passing .tailFromA).mapFace .f0 (fun x => { x with boarding := 65535, align := Alignment.blank })
     let held := (passing .tailFromA).mapDoor .f0 0 (fun d => { d with state := some .closing })
     u.calm .f0 = true ∧ u.map .f0 = [] ∧ (u.face .f0).boarding = 65535 ∧ (held.door .f0 0).state = some .closing) := by
  decide +kernel

/-- A zone in CLEARING whose timer is due, with gap_latch ON and OFF, and a zone in WATCH. -/
theorem witness_gap : let e : Episode := ⟨0, some 63⟩
    let s := base.mapSense .f0 0 (fun d => { d with zone := .clearing, clearing := some due0, episode := some e })
    let on := s.mapConfig (fun c => c.setPar .f0 { c.par0 with gapLatch := true })
    let w := base.mapSense .f0 0 (fun d => { d with zone := .watch })
    let v : SenseSignals := ⟨false, false, false, true⟩
    s.calm .f0 = true ∧ s.scanDone = true ∧ (s.sense .f0 0).zone = .clearing ∧ (s.sense .f0 0).clearing = some due0 ∧
      due0.due s.msClock = true ∧ (s.sense .f0 0).episode = some e ∧ e.slot = some 63 ∧
      (s.par .f0).gapLatch = false ∧ (on.par .f0).gapLatch = true ∧
      w.calm .f0 = true ∧ w.isFitted .f0 0 = true ∧ (w.sense .f0 0).zone = .watch ∧ (w.sense .f0 0).deferral = none ∧
      (w.input .f0 0).gap = false ∧ v.gap = true ∧ v.dwa = (w.input .f0 0).dwa ∧ v.dwb = (w.input .f0 0).dwb ∧
      v.edge = (w.input .f0 0).edge := by decide +kernel

/-- A zone in OCCUPIED with GAP active that falls, and one in CLEARING, LATCHED or IDLE where GAP rises. -/
theorem witness_gap_changes : ∀ z ∈ [Zone.occupied, .clearing, .latched, .idle],
    let s := (base.mapSense .f0 0 (fun d => { d with zone := z, episode := some ⟨0, some 3⟩ })).mapInput .f0 0
      (fun i => { i with gap := z = .occupied })
    let v : SenseSignals := ⟨false, false, false, z ≠ .occupied⟩
    s.calm .f0 = true ∧ s.scanDone = true ∧ s.isFitted .f0 0 = true ∧ (s.sense .f0 0).deferral = none ∧
      (s.sense .f0 0).zone = z ∧ v.gap ≠ (s.input .f0 0).gap ∧ v.dwa = (s.input .f0 0).dwa ∧
      v.dwb = (s.input .f0 0).dwb ∧ v.edge = (s.input .f0 0).edge := by decide +kernel

theorem witness_ab1 : base.calm .f0 = true ∧ (base.beams .f0).ab1 = false ∧ (base.berth .f0).state = .empty ∧
    (base.face .f0).mode.possession = false := by decide +kernel

/-- An AB2 interrupted within approach_limit, at its last microsecond, and one beyond it. -/
theorem witness_ab2 :
    let s := berth0 (fun b => { b with state := .approaching, ab1Time := some (0, 0) })
    s.calm .f0 = true ∧ (s.beams .f0).ab2 = false ∧ (s.berth .f0).state = .approaching ∧
      (s.berth .f0).ab1Time = some (0, 0) ∧ (s.berth .f0).speed = none ∧ (s.berth .f0).predicted = none ∧
      ((30000000#32 : Us) - 0#32).toNat ≤ (s.par .f0).approachLimit * 1000 ∧
      (s.par .f0).approachLimit * 1000 < ((30000001#32 : Us) - 0#32).toNat := by decide +kernel

theorem witness_window : let s := berth0 (fun b => { b with state := .arriving })
    let u := berth0 (fun b => { b with state := .settling })
    s.calm .f0 = true ∧ (s.beams .f0).sw[(24 : Fin 25)] ≠ true ∧ (s.berth .f0).state = .arriving ∧
      u.calm .f0 = true ∧ (u.beams .f0).sw[(0 : Fin 25)] ≠ true ∧ (u.berth .f0).state = .settling := by decide +kernel

/-- In DEPARTING the last beam clears, and a beam clears with another interrupted. -/
theorem witness_departing_beams : let s (ab2 : Bool) := at0 (fun x => { x with
      berth := { x.berth with state := .departing }
      beams := { x.beams with ab2 := ab2, sw := put x.beams.sw 24 true } })
    let after (ab2 : Bool) : Beams := { (s ab2).beams .f0 with sw := put ((s ab2).beams .f0).sw 24 false }
    (s true).calm .f0 = true ∧ ((s true).berth .f0).state = .departing ∧ ((s true).beams .f0).sw[(24 : Fin 25)] ≠ false ∧
      ((after false).ab1 = false ∧ (after false).ab2 = false ∧ ∀ i : Fin 25, (after false).sw[i] = false) ∧
      (after true).ab2 = true := by decide +kernel

/-- A STOPPED berth at rest, and one with release in force. -/
theorem witness_movement : let s := berth0 (fun b => { b with state := .stopped })
    let r := berth0 (fun b => { b with state := .stopped, release := true })
    s.calm .f0 = true ∧ s.scanDone = true ∧ (s.beams .f0).sw[(0 : Fin 25)] ≠ true ∧ (s.berth .f0).state = .stopped ∧
      (s.berth .f0).release = false ∧ s.allLocked .f0 = true ∧ r.calm .f0 = true ∧ (r.berth .f0).state = .stopped ∧
      ¬((r.berth .f0).release = false ∧ r.allLocked .f0 = true) := by decide +kernel

/-- An approach abandoned without a consist and with one. -/
theorem witness_approach_timer :
    let s := berth0 (fun b => { b with state := .approaching, approachTimer := some due0 })
    let c := s.mapBerth .f0 (fun b => { b with consist := some ⟨[], []⟩ })
    s.calm .f0 = true ∧ (s.berth .f0).state = .approaching ∧ (s.berth .f0).approachTimer = some due0 ∧
      due0.due s.msClock = true ∧ (s.berth .f0).consist = none ∧ (c.berth .f0).consist.isSome = true := by decide +kernel

theorem witness_settle_timer :
    let s := berth0 (fun b => { b with state := .settling, settleTimer := some due0 })
    s.calm .f0 = true ∧ (s.berth .f0).state = .settling ∧ (s.berth .f0).settleTimer = some due0 ∧
      due0.due s.msClock = true ∧ (s.berth .f0).posted = none := by decide +kernel

/-- A posted open when the settle timer expires: with FULL, its delay past and not; with NO_CONSIST; and with another grade. -/
theorem witness_posted_at_stop : let p (d : Nat) : Posted := ⟨0xFF, 0, true, false, false, BitVec.ofNat 32 d, none⟩
    let s (d : Nat) (flat : Option Nat) := (base.mapFace .f0 (fun x => { x with
      beams := { x.beams with sw := Vector.ofFn (fun i => decide (i.val < 13)) }
      berth := { x.berth with state := .settling, settleTimer := some due0, posted := some (p d), release := true
                              consist := flat.map (fun d => ⟨[(0, .forward)], [⟨d, 1, 1, 1⟩]⟩) }
      mode := { x.mode with mode := .automatic } }))
    let grade (x : State) := (x.alignment .f0 (x.measureNow .f0)).grade
    let u : State := { s 0 (some 2025) with msClock := 60000 }
    (s 0 none).calm .f0 = true ∧ ((s 0 none).berth .f0).settleTimer = some due0 ∧ due0.due (0 : Ms) = true ∧
      ((s 0 none).berth .f0).posted = some (p 0) ∧ (p 0).issueTime = none ∧ ((s 0 none).berth .f0).postingTimer = none ∧
      grade (s 0 none) = some .noConsist ∧ grade (s 0 (some 9000)) = some .misaligned ∧ grade (s 0 (some 2025)) = some .full ∧
      ((0 : Ms) - (p 0).postTime).toNat < ((s 0 none).par .f0).postedDelay ∧ u.calm .f0 = true ∧ due0.due u.msClock = true ∧
      (u.par .f0).postedDelay ≤ (u.msClock - (p 0).postTime).toNat ∧
      (0 : DoorIx) ∈ (u.alignment .f0 (u.measureNow .f0)).map ∧
      (p 0).sections.getLsbD ((u.geo .f0).doors[(0 : Fin 32)]).section_.val = true ∧
      (u.door .f0 0).state = some .locked ∧ u.isolated .f0 0 = false ∧ (u.face .f0).mode.mode = .automatic ∧
      (u.berth .f0).release = true := by decide +kernel

/-- A pattern of each clause of the window: runs to SW23 and SW24, bridges up to them, none, and no reading. -/
theorem witness_window_patterns :
    pattern (List.range 24) = (List.range 25).map (fun i => decide (i ≤ 23)) ∧
    pattern (List.range 25) = (List.range 25).map (fun i => decide (i ≤ 24)) ∧
    pattern (1 :: 2 :: (List.range 21).map (· + 3)) = (List.range 25).map (fun i => decide (i ≤ 23 ∧ i ≠ 0)) ∧
    pattern (List.range 23 ++ [24]) = (List.range 25).map (fun i => decide (i ≤ 24 ∧ i ≠ 23)) ∧
    pattern [] = List.replicate 25 false ∧
    (let sw := pattern [2]
     sw.length = 25 ∧ sw ≠ List.replicate 25 false ∧
       (∀ k < 25, sw ≠ (List.range 25).map (fun i => decide (i ≤ k))) ∧
       (∀ k < 25, ∀ b < 25, sw ≠ (List.range 25).map (fun i => decide (i ≤ k ∧ i ≠ b)))) := by decide +kernel

/-- A consist of one car door, 2,000 mm from the head, under a head at 0. -/
theorem witness_door_map :
    let s := berth0 (fun b => { b with consist := some ⟨[(0, .forward)], [⟨2000, 1, 1, 1⟩]⟩ })
    let m : Measure := ⟨some 0, false, false, none, false⟩
    (0 : DoorIx) ∈ (s.alignment .f0 m).map ∧ (s.matchNow .f0 0 [⟨2000, 1, 1, 1⟩]).grade = some .full ∧
      (s.matchNow .f0 0 [⟨2000, 1, 1, 1⟩, ⟨9000, 1, 1, 2⟩]).grade = some .partial_ ∧
      (s.matchNow .f0 0 [⟨9000, 1, 1, 1⟩]).grade = some .misaligned := by decide +kernel

/-- R106: a measurement without H, one BEYOND, one SHORT, one in the window without a consist and one with. -/
theorem witness_grades_before_matching : let m (h : Option Int) (b s : Bool) : Measure := ⟨h, b, s, none, h.isNone⟩
    (m none false false).head = none ∧ (m (some 625) true false).beyond = true ∧ (m (some (-625)) false true).short = true ∧
      (base.berth .f0).consist = none ∧ (base.alignment .f0 (m none true false)).grade = some .measureInvalid ∧
      (base.alignment .f0 (m (some 625) true false)).grade = some .outOfWindow ∧
      (base.alignment .f0 (m (some 0) false false)).grade = some .noConsist := by decide +kernel

theorem witness_posted : let p : Posted := ⟨0xFF, 0, true, false, false, 0, some 0⟩
    let s := (passing .clear).mapFace .f0 (fun x => { x with
      berth := { x.berth with release := true, posted := some p, postingTimer := some due0 }
      align := { x.align with map := [0, 1] } })
    s.calm .f0 = true ∧ (s.berth .f0).posted = some p ∧ (s.berth .f0).postingTimer = some due0 ∧
      due0.due s.msClock = true ∧ s.map .f0 ≠ [] ∧ (1 : DoorIx) ∈ s.map .f0 ∧
      p.sections.getLsbD ((s.geo .f0).doors[(1 : Fin 32)]).section_.val = true ∧
      (s.door .f0 1).state = some .locked ∧ s.isolated .f0 1 = false ∧ s.permits .f0 1 = true := by decide +kernel

/-- A posted open that is due with an empty Door Map, and the law of the Start Queues where one is issued. -/
theorem witness_posted_without_map : let p : Posted := ⟨0xFF, 0, true, false, false, 0, some 0⟩
    let s (map : List DoorIx) := (passing .clear).mapFace .f0 (fun x => { x with
      berth := { x.berth with release := true, posted := some p, postingTimer := some due0 }
      align := { x.align with map := map } })
    (∀ map ∈ [[], [(0 : DoorIx), 1]], (s map).startQueueLaw .f0) ∧ (s []).map .f0 = [] ∧ (s [0, 1]).map .f0 ≠ [] ∧
      (s []).calm .f0 = true ∧ (s [0, 1]).mayLeaveLocked .f0 1 := by
  refine ⟨fun map hm => ?_, by decide +kernel⟩
  simp only [List.mem_cons, List.not_mem_nil, or_false] at hm
  rcases hm with rfl | rfl <;> (unfold State.startQueueLaw; decide +kernel)

/-! ### Witnesses: lines and links -/

/-- The law of the Start Queues holds at rest whatever the berth, the mode, the alignment result and the engine of FACE 0 are. -/
theorem witness_law_at_rest (b : Berth) (m : ModeUnit) (a : Machine.Alignment) (e : Engine) (f : Face) :
    (at0 (fun x => { x with berth := b, mode := m, align := a, engine := e })).startQueueLaw f := by
  have h : base.startQueueLaw f := by cases f <;> (unfold State.startQueueLaw; decide +kernel)
  cases f <;> exact h

/-- A keyswitch leaving AUTO for both positions, and one that returns to AUTO into MAINTENANCE and elsewhere. -/
theorem witness_keyswitch :
    (let s := berth0 (fun b => { b with state := .stopped })
     s.calm .f0 = true ∧ (s.face .f0).mode.keyRead = true ∧ (s.face .f0).mode.key = .auto ∧
       KeyPos.localOpen ≠ .auto ∧ KeyPos.localClose ≠ .auto ∧ (s.face .f0).mode.latch = false ∧
       (s.berth .f0).state ≠ .empty ∧ (base.berth .f0).state = .empty ∧ base.calm .f0 = true ∧
       s.isFitted .f0 1 = true ∧ s.isolated .f0 1 = false ∧ s.sectionActive .f0 1 = true) ∧
    ∀ b, b = Mode.maintenance ∨ b = .automatic →
      let s := base.mapMode .f0 (fun m => { m with mode := .local_, saved := some b, key := .localOpen })
      s.calm .f0 = true ∧ (s.face .f0).mode.key ≠ .auto ∧ (s.face .f0).mode.saved = some b := by
  refine ⟨by decide +kernel, ?_⟩
  rintro b (rfl | rfl) <;> decide +kernel

/-- A change between LOCAL-OPEN and LOCAL-CLOSE, both ways, with the berth EMPTY and STOPPED, the latch clear and set. -/
theorem witness_keyswitch_in_local : ∀ p ∈ [(KeyPos.localOpen, KeyPos.localClose), (.localClose, .localOpen)],
    ∀ l ∈ [false, true],
    let s (b : BerthState) := (berth0 (fun x => { x with state := b })).mapMode .f0 (fun m => { m with
      mode := .local_, saved := some .automatic, key := p.1, latch := l })
    (s .stopped).startQueueLaw .f0 ∧ ((s .stopped).calm .f0 = true ∧ ((s .stopped).face .f0).mode.keyRead = true ∧
      ((s .stopped).face .f0).mode.key ≠ .auto ∧ p.2 ≠ .auto ∧ p.2 ≠ ((s .stopped).face .f0).mode.key ∧
      ((s .stopped).face .f0).mode.mode = .local_ ∧ ((s .stopped).face .f0).mode.latch = l ∧
      ((s .stopped).berth .f0).state ≠ .empty ∧ ((s .empty).berth .f0).state = .empty) := by
  intro p hp l hl
  simp only [List.mem_cons, List.not_mem_nil, or_false] at hp hl
  rcases hp with rfl | rfl <;> rcases hl with rfl | rfl <;>
    exact ⟨by unfold State.startQueueLaw; decide +kernel, by decide +kernel⟩

/-- Door units that the emergency latch reaches: in an active section, in none but not LOCKED, isolated, and LOCKED in none. -/
theorem witness_emergency_opens :
    let off := base.mapConfig (fun c => { c with geo0 := { c.geo0 with sectionMask := 0 } })
    let open_ := off.mapDoor .f0 0 (fun d => { d with state := some .closing })
    base.startQueueLaw .f0 ∧ open_.startQueueLaw .f0 ∧ (base.sectionActive .f0 0 = true ∧ open_.sectionActive .f0 0 = false ∧
      (open_.door .f0 0).state = some .closing ∧ (open_.door .f0 1).state = some .locked ∧ open_.calm .f0 = true ∧
      open_.scanDone = true ∧ (open_.face .f0).mode.latch = false) := by
  refine ⟨?_, ?_, by decide +kernel⟩ <;> (unfold State.startQueueLaw; decide +kernel)

theorem witness_eoi : let s := base.mapMode .f0 (fun m => { m with eoi := true, latch := true })
    base.calm .f0 = true ∧ (base.face .f0).mode.eoi = false ∧ (base.face .f0).mode.latch = false ∧ base.scanDone = true ∧
      base.isFitted .f0 1 = true ∧ base.isolated .f0 1 = false ∧ base.sectionActive .f0 1 = true ∧
      s.calm .f0 = true ∧ (s.face .f0).mode.eoi = true ∧ (s.face .f0).mode.latch = true := by decide +kernel

theorem witness_silence : let s := { base with silence := some due0 }
    (∀ f, s.calm f = true) ∧ s.silence = some due0 ∧ due0.due s.msClock = true ∧
      (s.face .f0).mode.mode = .supervised ∧ (s.face .f0).mode.latch = false ∧ s.isFitted .f0 1 = true ∧
      s.isolated .f0 1 = false ∧ ((s.mapMode .f1 (fun m => { m with mode := .maintenance })).calm .f1 = true) :=
  ⟨fun f => by cases f <;> rfl, rfl, rfl, rfl, rfl, rfl, rfl, rfl⟩

/-- A frame at an empty queue and at a full one, after a loss of the interlocking, and frames given up. -/
theorem witness_receivers : let x : Frame := ⟨0x08, 1, [0]⟩
    let full := base.mapLink .sl (fun k => { k with rxQueue := [x, x, x, x] })
    let lost := { base with ilLost := true }
    let got := base.mapLink .sl (fun k => { k with receiver := .collecting [1] 0 })
    base.powered = true ∧ base.notices = [] ∧ x.payload.length ≤ 248 ∧ base.ilLost = false ∧
      (base.link .il).rxQueue.length < 4 ∧ 4 ≤ (full.link .sl).rxQueue.length ∧ lost.ilLost = true ∧
      (base.link .sl).receiver = .hunting ∧ (got.link .sl).receiver = .collecting [1] 0 ∧
      AbandonCause.badCrc ≠ .byteGap 0xC3 := by decide +kernel

/-- Bytes while hunting, after more than 3 ms, and within 3 ms: a LEN above 248, a byte in the middle, and the last byte
with the CRC right and wrong. -/
theorem witness_bytes : let x : Frame := ⟨0x18, 1, []⟩
    let c := crcBytes (crc16 (frameBody x))
    base.powered = true ∧ base.notices = [] ∧ (base.link .sl).receiver = .hunting ∧
      3 < ((4 : Ms) - 0).toNat ∧ ((3 : Ms) - 0).toNat ≤ 3 ∧ 248 < byteAt [249#8] 0 ∧
      byteAt ([0#8, 0x18] ++ [1#8]) 0 ≤ 248 ∧ ([0#8, 0x18] ++ [1#8]).length < byteAt [0#8] 0 + 5 ∧
      x.payload.length = byteAt (frameBody x) 0 ∧ [0#8, 0x18, 1, c.getD 0 0] ++ [c.getD 1 0] = frameBody x ++ c ∧
      [c.getD 0 0, c.getD 1 0 + 1] ≠ c := by decide +kernel

theorem witness_frame_bytes : let x : Frame := ⟨0x18, 1, []⟩
    let s := { base with pending := (frameBytes x).map (.byteReceived .sl) }
    s.powered = true ∧ s.notices = [] ∧ x.payload.length ≤ 248 ∧ (s.link .sl).receiver = .hunting ∧
      ∃ t, exec (.validFrameReceived .sl x) { s with pending := [] } = .next t :=
  ⟨rfl, rfl, by decide, rfl, ⟨_, rfl⟩⟩

/-- Records waiting on a link. -/
def reports (n : Nat) (k : LinkState) : LinkState :=
  { k with reports := List.replicate n ⟨.linkState, .f0, none, 0, [0]⟩, flushTimer := some due0 }

/-- A frame under way, with a reply waiting, with nothing due, with a REPORT frame due, and a flush. -/
theorem witness_transmitters : let y : Frame := ⟨0x98, 1, []⟩
    let x : Sending := ⟨y, true, 0, 0⟩
    let s (n : Nat) (w : Option Frame) := base.mapLink .sl (fun k => { reports n k with tx := some x, waiting := w })
    let u := base.mapLink .sl (reports 1)
    base.powered = true ∧ base.notices = [] ∧ ((s 1 (some y)).link .sl).tx = some x ∧
      ((s 1 (some y)).link .sl).waiting = some y ∧ ((s 1 none).link .sl).waiting = none ∧
      (s 1 none).reportDue .sl = false ∧ (s 9 none).reportDue .sl = true ∧
      (u.link .sl).flushTimer = some due0 ∧ due0.due u.msClock = true ∧ (u.link .sl).reports ≠ [] ∧
      (u.link .sl).tx = none ∧ (u.link .sl).waiting = none ∧ ((s 1 none).link .sl).tx.isSome = true := by decide +kernel

/-- A class in the mask and one out of it, at a queue of no record, of 63 and of 64; and a busy SL for LINK_STATE. -/
theorem witness_reports : let s (n : Nat) := base.mapLink .il (fun k => { reports n k with tx := some ⟨⟨0x81, 1, []⟩, true, 0, 0⟩ })
    let b := base.mapLink .sl (fun k => { k with tx := some ⟨⟨0x81, 1, []⟩, true, 0, 0⟩ })
    (b.link .sl).tx.isSome = true ∧ ReportKind.doorEvent ≠ .linkState ∧ ((s 0).link .il).tx.isSome = true ∧ ((s 0).reporting .il).classMask.getLsbD ReportClass.door.bit = false ∧
      ((s 0).reporting .il).classMask.getLsbD ReportClass.safety.bit = true ∧ ((s 63).link .il).reports.length < 64 ∧
      64 ≤ ((s 64).link .il).reports.length := by decide +kernel

/-! ### Witnesses: dwell programs -/

/-- A descriptor with an action, a trigger, a hold, a limit and a chain to descriptor 1. -/
def desc (a : Action) (t : Trigger) (hold limit : Nat) (chain : Bool) : Descriptor :=
  ⟨a, ⟨.served, 0⟩, t, hold, limit, 0, chain, 1⟩

/-- FACE 0 with a program at descriptor 0, and descriptors 0 and 1 as given. -/
def program (e : Engine) (d d' : Option Descriptor) : State :=
  (at0 (fun x => { x with engine := { e with current := some 0 }, mode := { x.mode with mode := .automatic } })).mapConfig
    (fun c => { c with descriptors := put (put c.descriptors 0 d) 1 d' })

/-- The limit timer with halt_on_error ON and OFF. -/
theorem witness_limit_timer : let d := desc .wait .onStopped 10 100 false
    let s := program { Engine.start with state := .waiting, limitTimer := some due0 } (some d) none
    let off := s.mapConfig (fun c => c.setPar .f0 { c.par0 with haltOnError := false })
    s.powered = true ∧ s.notices = [] ∧ due0.due s.msClock = true ∧ (s.face .f0).engine.limitTimer = some due0 ∧
      (s.par .f0).haltOnError = true ∧ (off.par .f0).haltOnError = false ∧ off.currentDescriptor .f0 = some d ∧ d.hold ≠ 0 ∧
      (off.face .f0).engine.state ≠ .halted := by decide +kernel

/-- A hold that ends the program, one that chains to a descriptor and one that chains to none. -/
theorem witness_hold_timer : let d := desc .wait .immediate 10 0 true
    let d' := desc .wait .onStopped 0 120000 false
    let e := { Engine.start with state := EngineState.holding, holdTimer := some due0 }
    let s := program e (some d) (some d')
    let last := program e (some { d with chain := false }) none
    s.powered = true ∧ s.notices = [] ∧ due0.due s.msClock = true ∧ (s.face .f0).engine.holdTimer = some due0 ∧
      s.currentDescriptor .f0 = some d ∧ d.chain = true ∧ s.descriptor d.next = some d' ∧
      s.triggerMet .f0 d'.trigger = false ∧ (program e (some d) none).descriptor d.next = none ∧
      last.currentDescriptor .f0 = some { d with chain := false } := by decide +kernel

/-- START, RESUME in WAIT and in HOLD, STEP, ARM, and the commands with a face alone. -/
theorem witness_program_commands : let d := desc .mark .onStopped 10 0 false
    let idle := program Engine.start (some d) none
    let halted (p : Phase) := program { Engine.start with state := .halted, phase := p } (some d) none
    let waiting := program { Engine.start with state := .waiting } (some d) none
    let ready (k : Byte) (p : List Byte) (s : State) := (holding .sl ⟨k, 2, p⟩ s).ready .sl ⟨k, 2, p⟩
    (ready 0x40 [0, 0] idle = true ∧ (idle.face .f0).mode.mode = .automatic ∧ (idle.face .f0).engine.running = false ∧
      idle.descriptor 0 = some d ∧ idle.triggerMet .f0 d.trigger = false) ∧
    (ready 0x42 [0] (halted .wait) = true ∧ ((halted .wait).face .f0).engine.state = .halted ∧
      (halted .hold).currentDescriptor .f0 = some d ∧ ((halted .hold).face .f0).engine.phase = .hold ∧ d.hold ≠ 0) ∧
    (ready 0x43 [0] waiting = true ∧ (waiting.face .f0).engine.state = .waiting ∧
      waiting.currentDescriptor .f0 = some d ∧ d.action = .mark) ∧
    (ready 0x41 [0] waiting = true ∧ ready 0x44 [0] idle = true ∧ ready 0x46 [0] idle = true ∧
      ready 0x45 [0, 0] idle = true ∧ (idle.descriptor 0).isSome = true) := by decide +kernel

/-- The ways into ACT: START and RESUME with the trigger met, RESUME in ACT, STEP, and the forms of the action: a CHECK that
passes and one that fails, a CLOSE, and an OPEN issued, posted and finding nothing. -/
theorem witness_actions : let d (a : Action) := desc a .immediate 10 0 false
    let s (a : Action) (st : EngineState) (p : Phase) := program { Engine.start with state := st, phase := p } (some (d a)) none
    let at_ (b : BerthState) := (s .open_ .waiting .wait).mapBerth .f0 (fun x => { x with state := b })
    let served := (at_ .stopped).mapFace .f0 (fun x => { x with align := ⟨some .full, some [], 1, [0, 1]⟩ })
    let ready (k : Byte) (p : List Byte) (s : State) := (holding .sl ⟨k, 2, p⟩ s).ready .sl ⟨k, 2, p⟩
    (ready 0x40 [0, 0] (s .open_ .idle .wait) = true ∧ (s .open_ .idle .wait).triggerMet .f0 (d .open_).trigger = true) ∧
    (ready 0x42 [0] (s .close .halted .act) = true ∧ ((s .close .halted .act).face .f0).engine.phase = .act ∧
      (s .close .halted .wait).triggerMet .f0 (d .close).trigger = true) ∧
    (ready 0x43 [0] (s .check .waiting .wait) = true ∧ (s .check .waiting .wait).currentDescriptor .f0 = some (d .check)) ∧
    (∀ j ∈ (s .check .waiting .wait).actionReach .f0 (d .check).selection,
      ((s .check .waiting .wait).door .f0 j).state = some .locked) ∧
    (let u := served.mapDoor .f0 0 (fun x => { x with state := some .standOpen })
     (0 : DoorIx) ∈ u.actionReach .f0 (d .check).selection ∧ (u.door .f0 0).state ≠ some .locked) ∧
    ((at_ .arriving).berth .f0).posted = none ∧ (at_ .stopped).map .f0 = [] ∧
      ((at_ .stopped).face .f0).align.grade ≠ some .noConsist ∧ served.map .f0 ≠ [] ∧
      (1 : DoorIx) ∈ served.selectMap .f0 (d .open_).selection.sections (d .open_).selection.doorMask := by decide +kernel

/-- The law of the Start Queues under a program, and the door units that refuse an action: one in FAULT, one that may not
leave LOCKED, one under the latch for a CLOSE, and one with no state. -/
theorem witness_refused_actions : let d : Descriptor := { desc .open_ .immediate 10 0 false with selection := ⟨.explicit, 3⟩ }
    let s := ((program { Engine.start with state := .waiting } (some d) none).mapBerth .f0 (fun b => { b with
      state := .stopped })).mapFace .f0 (fun x => { x with align := ⟨some .full, some [], 1, [0, 1]⟩ })
    let bad (st : Option DoorState) := s.mapDoor .f0 0 (fun x => { x with state := st })
    (s.startQueueLaw .f0 ∧ (bad (some .fault)).startQueueLaw .f0 ∧ (bad none).startQueueLaw .f0) ∧
    ((holding .sl ⟨0x43, 2, [0]⟩ s).ready .sl ⟨0x43, 2, [0]⟩ = true ∧ s.currentDescriptor .f0 = some d ∧
      (0 : DoorIx) ∈ s.selectMap .f0 d.selection.sections d.selection.doorMask ∧
      (0 : DoorIx) ∈ s.actionReach .f0 d.selection ∧ s.permits .f0 0 = false ∧ (s.door .f0 0).state = some .locked ∧
      ((bad (some .fault)).door .f0 0).state = some .fault ∧ ((bad none).door .f0 0).state = none ∧
      ((s.mapMode .f0 (fun m => { m with latch := true })).face .f0).mode.latch = true) := by
  refine ⟨⟨?_, ?_, ?_⟩, by decide +kernel⟩ <;> (unfold State.startQueueLaw; decide +kernel)

/-- A running program, and each cause that halts it: the face in the state each asks for. -/
theorem witness_halting_causes : let d := desc .open_ .onStopped 10 0 false
    let p : Posted := ⟨0xFF, 0, false, false, true, 0, none⟩
    let s (st : EngineState) := (program { Engine.start with state := st, awaiting := st = .acting } (some d) none).mapBerth .f0
      (fun b => { b with state := .stopped, release := true, posted := some p })
    let il := { s .acting with silence := some due0 }
    let x : List Byte := [0, 0, 1, 1]
    let empty := (s .holding).mapBerth .f0 (fun b => { b with state := .empty })
    ((s .waiting).face .f0).engine.running = true ∧ ((s .acting).face .f0).engine.awaiting = true ∧
      ((s .acting).berth .f0).posted = some p ∧ p.fromProgram = true ∧ ((s .acting).par .f0).haltOnError = true ∧
      (s .acting).powered = true ∧ (s .acting).notices = [] ∧ ((s .acting).face .f0).mode.eoi = false ∧
      ((s .acting).face .f0).mode.latch = false ∧
      (holding .sl ⟨0x38, 2, [0]⟩ (s .acting)).ready .sl ⟨0x38, 2, [0]⟩ = true ∧
      (holding .il ⟨0x03, 2, [0]⟩ (s .acting)).ready .il ⟨0x03, 2, [0]⟩ = true ∧
      il.silence = some due0 ∧ due0.due il.msClock = true ∧ ((s .acting).beams .f0).sw[(24 : Fin 25)] ≠ true ∧
      ((s .acting).berth .f0).state = .stopped ∧ ((s .acting).berth .f0).release = true ∧
      ((s .holding).face .f0).mode.keyRead = true ∧ ((s .holding).face .f0).mode.key = .auto ∧
      ((s .holding).face .f0).mode.mode = .automatic ∧
      [faceCode .f0, Mode.automatic.code, ((s .holding).face .f0).mode.generation, Mode.supervised.code] = x ∧
      (holding .sl ⟨0x30, 2, x⟩ (s .holding)).ready .sl ⟨0x30, 2, x⟩ = true ∧ (empty.berth .f0).state = .empty := by
  decide +kernel

/-- R147, R148: a withdrawal under a program that awaits its posted open, with halt_on_error ON and OFF. -/
theorem test_withdrawal_of_a_program : let d := desc .open_ .immediate 10 0 false
    let s := { (program { Engine.start with state := .acting, phase := .act, awaiting := true } (some d) none).mapBerth .f0
      (fun b => { b with state := .settling, release := true, posted := some ⟨0xFF, 0, false, false, true, 0, none⟩ }) with
      silence := some due0 }
    let off := s.mapConfig (fun c => c.setPar .f0 { c.par0 with haltOnError := false })
    let after (s : State) (m : BitVec 16) := ends (exec .ilSilenceTimerExpiry s) (fun t => (t.face .f0).engine.state = .halted
      && (t.face .f0).engine.errors = m && (t.face .f0).engine.context = some (0, .act))
    (after s 0x10 && after off 0x110) = true := by decide +kernel

/-- A program in WAITING for each trigger, not met, and the event that meets it: the stop, the quiet timer, a door unit that
locks, a gap zone that clears, and a release. -/
theorem witness_waiting_program :
    let s (t : Trigger) := program { Engine.start with state := .waiting } (some (desc .mark t 10 0 false)) none
    let quiet := (s .onQuiet).mapFace .f0 (fun x => { x with quietTimer := some due0, align := ⟨some .full, some [], 1, [0]⟩ })
    let stop := (s .onStopped).mapBerth .f0 (fun b => { b with state := .settling, settleTimer := some due0 })
    let lock := (s .onClp).mapFace .f0 (fun x => { x with
      doors := put x.doors 0 (rec .locking none), inputs := put x.inputs 0 { closedIn with lockEngaged := false }, clp := Clp.start })
    let gap := (s .onClp).mapFace .f0 (fun x => { x with
      sense := put x.sense 0 { x.sense[(0 : Fin 32)] with zone := .clearing, clearing := some due0 }, clp := Clp.start })
    let rel := (s .onRelease).mapBerth .f0 (fun b => { b with state := .stopped })
    let ok (s : State) (t : Trigger) : Prop := s.powered = true ∧ s.notices = [] ∧ (s.face .f0).engine.state = .waiting ∧
      s.currentDescriptor .f0 = some (desc .mark t 10 0 false) ∧ s.triggerMet .f0 t = false
    (∀ s ∈ [quiet, stop, lock, gap, rel], s.startQueueLaw .f0) ∧
    (ok quiet .onQuiet ∧ ok stop .onStopped ∧ ok lock .onClp ∧ ok gap .onClp ∧ ok rel .onRelease ∧
      (quiet.face .f0).quietTimer = some due0 ∧ (stop.berth .f0).posted = none ∧ (stop.berth .f0).settleTimer = some due0 ∧
      (gap.sense .f0 0).clearing = some due0 ∧ due0.due (0 : Ms) = true ∧
      (holding .il ⟨0x02, 2, [0]⟩ rel).ready .il ⟨0x02, 2, [0]⟩ = true ∧ (rel.face .f0).mode.mode = .automatic ∧
      (rel.berth .f0).release = false) := by
  refine ⟨fun s hs => ?_, by decide +kernel⟩
  simp only [List.mem_cons, List.not_mem_nil, or_false] at hs
  rcases hs with rfl | rfl | rfl | rfl | rfl <;> (unfold State.startQueueLaw; decide +kernel)

/-- R141: a door unit that locks gives CLP, and a program waiting for it goes on. -/
theorem test_waiting_program_goes_on :
    let s := (program { Engine.start with state := .waiting } (some (desc .mark .onClp 10 0 false)) none).mapFace .f0 (fun x => { x with
      doors := put x.doors 0 (rec .locking none), inputs := put x.inputs 0 { closedIn with lockEngaged := false }, clp := Clp.start })
    ends (exec (.doorInputChange .f0 0 (leaf true false true false)) s)
      (fun t => (t.face .f0).engine.state = .holding && (t.face .f0).engine.holdTimer = some ⟨0, 10⟩) = true := by decide +kernel

/-- A program in ACTING: a pending door unit that opens, one whose timer runs out, and a reversal that ends OBSTRUCTED under a
CLOSE; a posted open that is issued, one that finds an empty Door Map, and one that the grade discards. -/
theorem witness_acting_program : let d (a : Action) := desc a .immediate 10 0 false
    let e : Engine := { Engine.start with state := .acting, phase := .act }
    let s (a : Action) (st : DoorState) (e : Engine) := ((program e (some (d a)) none).mapFace .f0 (fun x => { x with
      doors := put x.doors 0 (rec st (some due0)), inputs := put x.inputs 0 { openIn with leafOpen := false } }))
    let opens := s .open_ .opening { e with followed := [(0, true)] }
    let obstructed := (s .close .reversing { e with followed := [(0, true)] }).mapDoor .f0 0 (fun x => { x with attempts := 3 })
    let p : Posted := ⟨0xFF, 0, false, false, true, 0, some 0⟩
    let posted (b : BerthState) (map : List DoorIx) (i : Option Ms) := (program { e with awaiting := true } (some (d .open_))
      none).mapFace .f0 (fun x => { x with
        berth := { x.berth with state := b, posted := some { p with issueTime := i }, postingTimer := some due0, settleTimer := some due0 }
        align := ⟨some .full, some [], 1, map⟩ })
    let ok (s : State) (a : Action) : Prop := s.powered = true ∧ s.notices = [] ∧ (s.face .f0).engine.state = .acting ∧
      (s.face .f0).engine.phase = .act ∧ s.currentDescriptor .f0 = some (d a) ∧ (d a).hold ≠ 0
    (∀ s ∈ [opens, obstructed, posted .stopped [0] (some 0), posted .stopped [] (some 0), posted .settling [] none],
      s.startQueueLaw .f0) ∧
    (ok opens .open_ ∧ ok obstructed .close ∧ ok (posted .stopped [0] (some 0)) .open_ ∧ ok (posted .settling [] none) .open_ ∧
      (opens.face .f0).engine.awaiting = false ∧ (opens.door .f0 0).state = some .opening ∧
      (opens.door .f0 0).timer = some due0 ∧ due0.due (0 : Ms) = true ∧ (0, true) ∈ (opens.face .f0).engine.followed ∧
      (obstructed.par .f0).recloseMax = 3 ∧
      ((posted .stopped [0] (some 0)).berth .f0).posted = some { p with issueTime := some 0 } ∧
      ((posted .stopped [0] (some 0)).face .f0).engine.awaiting = true ∧
      ((posted .stopped [0] (some 0)).face .f0).engine.followed = [] ∧ (posted .stopped [0] (some 0)).map .f0 ≠ [] ∧
      (posted .stopped [] (some 0)).map .f0 = [] ∧ p.fromProgram = true ∧
      ((posted .settling [] none).alignment .f0 ((posted .settling [] none).measureNow .f0)).grade = some .outOfWindow) := by
  refine ⟨fun s hs => ?_, by decide +kernel⟩
  simp only [List.mem_cons, List.not_mem_nil, or_false] at hs
  rcases hs with rfl | rfl | rfl | rfl | rfl <;> (unfold State.startQueueLaw; decide +kernel)

/-- R143, R146, R147: a followed door unit that opens completes the action; one whose timer runs out halts it with DOOR_FAULT. -/
theorem test_acting_program_follows : let e : Engine := { Engine.start with state := .acting, phase := .act, followed := [(0, true)] }
    let s := (program e (some (desc .open_ .immediate 10 0 false)) none).mapFace .f0 (fun x => { x with
      doors := put x.doors 0 (rec .opening (some due0)), inputs := put x.inputs 0 { openIn with leafOpen := false } })
    (ends (exec (.doorInputChange .f0 0 (leaf false true false false)) s) (fun t => (t.face .f0).engine.state = .holding)
      && ends (exec (.doorTimeoutExpiry .f0 0) s) (fun t => (t.face .f0).engine.state = .halted
        && (t.face .f0).engine.errors = 1)) = true := by decide +kernel

/-! ### Witnesses: replies, reads, refusals and writes -/

/-- The frame can be taken from the receive queue of a resting controller. -/
def taken (l : Link) (k : Byte) (p : List Byte) : Bool := (holding l ⟨k, 2, p⟩ base).ready l ⟨k, 2, p⟩

theorem witness_replies : (base.link .il).tx = none ∧ Link.sl ≠ .il ∧
    ((base.mapLink .il (fun k => { k with tx := some ⟨⟨0x81, 1, []⟩, true, 0, 0⟩ })).link .il).tx.isSome = true := by
  decide +kernel

theorem witness_reads : (taken .sl 0x20 [1] && taken .sl 0x21 [1] && taken .sl 0x25 [1] && taken .sl 0x48 [1]
    && taken .sl 0x49 [1, 63, 8] && taken .sl 0x22 [] && taken .sl 0x23 [23] && taken .sl 0x24 [15] && taken .sl 0x26 [95]
    && taken .il 0x08 [2] && taken .sl 0x08 [2]) = true := by decide +kernel

theorem witness_get_status : (taken .il 0x09 [0, 1, 0] && taken .sl 0x09 [1, 1, 1] && taken .il 0x09 [2, 1, 48]) = true ∧
    base.isFitted .f1 1 = true := by decide +kernel

/-- One frame of each kind of refusal. -/
theorem witness_refusals : (taken .sl 0x01 [0] && taken .sl 0x07 [0] && taken .il 0x10 [0] && taken .il 0x49 [0]
    && taken .sl 0x00 [] && taken .il 0x7F [] && taken .il 0x01 [] && taken .sl 0x49 [] && taken .sl 0xFF []
    && taken .sl 0x12 [0, 2, 1, 0, 0, 0, 0] && taken .il 0x01 [0, 3, 1, 0] && taken .il 0x30 [0, 0, 0, 0] && taken .sl 0x30 [1]) = true ∧
    [0, 2, 1, 0, 0, 0, 0].length ≠ 2 + 5 * byteAt [0, 2, 1, 0, 0, 0, 0] 1 ∧ faceOf (byteAt [1] 0) = some .f1 := by
  decide +kernel

/-- ISOLATE and DOOR RESET of a door unit that has no state yet. -/
theorem witness_refusals_without_state :
    ((holding .sl ⟨0x32, 2, [0, 1]⟩ unscanned).ready .sl ⟨0x32, 2, [0, 1]⟩
      && (holding .sl ⟨0x34, 2, [0, 1]⟩ unscanned).ready .sl ⟨0x34, 2, [0, 1]⟩) = true ∧
      [0, 1] = [faceCode .f0, b8 (1 : DoorIx).val] ∧ unscanned.isFitted .f0 1 = true ∧
      (unscanned.door .f0 1).state = none ∧ unscanned.commit = none := by decide +kernel

/-- The payload of WRITE GEOMETRY for `geo2` with one door unit more, and of a tolerance at each end. -/
theorem witness_geometry_writes :
    let q : Geometry := { geo2 with n := 3, doors := put geo2.doors 2 ⟨250000, 3, 7⟩ }
    let p := geometryBytes .f0 q
    base.calm .f0 = true ∧ base.commit = none ∧ base.config.geometryLock = false ∧ (base.berth .f0).state = .empty ∧
      base.allLocked .f0 = true ∧ taken .sl 0x10 p = true ∧ faceOf (byteAt p 0) = some .f0 ∧
      p.length = 12 + 6 * byteAt p 1 ∧ readGeometry p = some q ∧ q.valid = true ∧
      (base.geo .f0).spaced 600 = true ∧ (base.geo .f0).spaced 50 = true ∧
      taken .sl 0x11 (faceCode .f0 :: be16 600) = true := by decide +kernel

/-- WRITE PARAMETERS below, at and above a range, WRITE DEVICE PARAMETERS and SET REPORTING. -/
theorem witness_parameter_writes : let busy := base.mapLink .il (fun k => { k with tx := some ⟨⟨0x81, 1, []⟩, true, 0, 0⟩ })
    let r : List Byte := [1, 63, 3, 5]
    base.commit = none ∧ (base.berth .f0).state = .empty ∧ base.allLocked .f0 = true ∧ paramRange 1 = some (100, 1000) ∧
      (taken .sl 0x12 ([faceCode .f0, 1] ++ b8 1 :: be32 99) && taken .sl 0x12 ([faceCode .f0, 1] ++ b8 1 :: be32 1000)
        && taken .sl 0x12 ([faceCode .f0, 1] ++ b8 1 :: be32 0xFFFFFFFE) && taken .sl 0x13 (be16 0xFFFE ++ [0, 1])
        && (holding .sl ⟨0x14, 2, r⟩ busy).ready .sl ⟨0x14, 2, r⟩) = true ∧
      (busy.link .il).tx.isSome = true := by decide +kernel

/-- A car of one door, a unit of that car and a descriptor, defined and emptied, in use and not. -/
theorem witness_item_writes : let car : CarProfile := ⟨20000, [2000]⟩
    let unit : UnitProfile := ⟨[23], 600⟩
    let d := desc .check .immediate 0 0 false
    let u := base.mapConfig (fun c => { c with cars := put c.cars 23 (some car), units := put c.units 15 (some unit) })
    let run := program { Engine.start with state := .waiting } (some d) none
    (taken .sl 0x15 (carBytes 23 (some car)) && taken .sl 0x15 (23 :: List.replicate 14 0) && taken .sl 0x16 (unitBytes 15 (some unit))
        && taken .sl 0x16 (15 :: List.replicate 12 0) && taken .sl 0x17 (descriptorBytes 0 (some d))
        && taken .sl 0x17 (descriptorBytes 0 none)) = true ∧
      (23 :: List.replicate 14 0 : List Byte).length = 15 ∧ byteAt (23 :: List.replicate 14 0) 0 = 23 ∧
      byteAt (23 :: List.replicate 14 0) 1 = 0 ∧
      byteAt (carBytes 23 (some car)) 1 = 1 ∧ readCar (carBytes 23 (some car)) = some car ∧
      u.config.units[(15 : Fin 16)] = some unit ∧ (23 : Fin 24) ∈ unit.cars ∧ base.config.units[(15 : Fin 16)] = none ∧
      (15 :: List.replicate 12 0 : List Byte).length = 13 ∧ readUnit (unitBytes 15 (some unit)) = some unit ∧
      (u.config.cars[(23 : Fin 24)]).isSome = true ∧ base.config.cars[(23 : Fin 24)] = none ∧
      (descriptorBytes 0 none).length = 18 ∧ byteAt (descriptorBytes 0 (some d)) 1 = 1 ∧
      readDescriptor base.explicitLimit (descriptorBytes 0 (some d)) = some (d, false) ∧
      (run.face .f0).engine.running = true ∧ (run.face .f0).engine.current = some 0 ∧
      (base.face .f0).engine.running = false ∧ (base.face .f1).engine.running = false := by decide +kernel

theorem witness_geometry_lock : (taken .sl 0x18 [] && taken .sl 0x19 []) = true ∧ base.powered = true ∧ base.notices = [] := by
  decide +kernel

/-! ### Witnesses: requests -/

/-- A consist of one unit of one car of one door. -/
def withTrain (s : State) : State :=
  s.mapConfig (fun c => { c with
    cars := put c.cars 23 (some ⟨20000, [2000]⟩), units := put c.units 15 (some ⟨[23], 600⟩) })

theorem witness_arrival : let p : List Byte := [0, 1, 15, 0]
    let us : List (Fin 16 × Orientation) := [(15, .forward)]
    let s (b : BerthState) := withTrain (berth0 (fun x => { x with state := b, measure := some ⟨some 0, false, false, none, false⟩ }))
    let r (b : BerthState) := (holding .il ⟨0x01, 2, p⟩ (s b)).ready .il ⟨0x01, 2, p⟩
    (s .empty).calm .f0 = true ∧ (r .empty && r .departing && r .settling && r .stopped) = true ∧
      faceOf (byteAt p 0) = some .f0 ∧ p.length = 2 + 2 * byteAt p 1 ∧ readConsist p = some us ∧
      (∃ flat, (s .empty).config.flatten us = .ok flat) ∧ (s .stopped).allLocked .f0 = true ∧
      ((s .stopped).berth .f0).measure.isSome = true ∧ ((s .stopped).berth .f0).posted = none := by
  refine ⟨by decide +kernel, by decide +kernel, rfl, rfl, by decide +kernel, ⟨[⟨2000, 1, 1, 1⟩], by rfl⟩, ?_⟩
  decide +kernel

/-- A consist of two units that is flattened, one of an empty profile, ones over each limit, and a door unit not LOCKED in
STOPPED. -/
theorem witness_flatten : let one : TrainUnit := ⟨⟨[23], 600⟩, [⟨20000, [2000]⟩], .reversed⟩
    let s := withTrain base
    let us : List (Fin 16 × Orientation) := [(15, .reversed), (15, .reversed)]
    let unit (n : Nat) (c : CarProfile) : TrainUnit := ⟨⟨List.replicate n 0, 0⟩, List.replicate n c, .forward⟩
    let open_ := door0 .standOpen closedIn none
    ([one, one].map (fun t => (some t.profile, t.orientation)) = us.map (fun u => (s.config.units[u.1], u.2)) ∧
      (∀ t ∈ [one, one], t.profile.cars.map (fun k => s.config.cars[k]) = t.cars.map some) ∧
      trainDoors [one, one] = [⟨18000, 1, 1, 1⟩, ⟨38600, 2, 2, 1⟩] ∧ trainStart [one, one] 2 = 40600) ∧
    base.config.units[(15 : Fin 16)] = none ∧
    12 < trainCars [unit 8 ⟨8000, [500]⟩, unit 5 ⟨8000, [500]⟩] ∧
    48 < (trainDoors [unit 8 ⟨8000, [500, 600, 700, 800, 900]⟩, unit 2 ⟨8000, [500, 600, 700, 800, 900]⟩]).length ∧
    250000 < trainStart [unit 8 ⟨30000, [500]⟩, unit 1 ⟨30000, [500]⟩] 2 ∧ open_.allLocked .f0 = false := by decide +kernel

/-- A release with a program armed: its descriptor empty, its trigger not met, and met by the release itself. -/
theorem witness_armed_release : let d (t : Trigger) := desc .mark t 0 10 false
    let s (o : Option Descriptor) := ((program { Engine.start with armed := some 0, state := .halted } o none).mapBerth .f0 (fun b => { b with
      state := .arriving }))
    let r (o : Option Descriptor) := (s o).mapBerth .f0 (fun b => { b with release := true })
    ((holding .il ⟨0x02, 2, [0]⟩ (s none)).ready .il ⟨0x02, 2, [0]⟩ && (s none).calm .f0) = true ∧
      ((s none).face .f0).mode.mode = .automatic ∧ ((s none).berth .f0).release = false ∧
      ((s none).face .f0).engine.armed = some 0 ∧ (s none).descriptor 0 = none ∧
      (r (some (d .onStopped))).triggerMet .f0 .onStopped = false ∧ (r (some (d .onRelease))).triggerMet .f0 .onRelease = true := by
  decide +kernel

/-- DOOR RELEASE and RELEASE WITHDRAW in each mode, with a train and without. -/
theorem witness_release : let s (m : Mode) (b : BerthState) (r : Bool) :=
      (berth0 (fun x => { x with state := b, release := r })).mapMode .f0 (fun x => { x with mode := m })
    let ok (k : Byte) (s : State) := (holding .il ⟨k, 2, [0]⟩ s).ready .il ⟨k, 2, [0]⟩ && s.calm .f0
    (ok 0x02 (s .maintenance .empty false) && ok 0x02 (s .automatic .movedFault false) && ok 0x02 (s .local_ .empty false)
      && ok 0x02 (s .supervised .stopped true) && ok 0x02 (s .automatic .arriving false)
      && ok 0x02 (s .automatic .stopped false) && ok 0x03 (s .automatic .stopped true)) = true ∧
    ((s .automatic .arriving false).face .f0).engine.armed = none ∧ ((s .automatic .arriving false).berth .f0).posted = none ∧
    ((s .automatic .stopped false).face .f0).align.grade ≠ some .noConsist ∧
    ((s .automatic .stopped true).face .f0).mode.latch = false ∧ (s .automatic .stopped true).isFitted .f0 0 = true ∧
    (let t := (passing .clear).mapMode .f0 (fun m => { m with mode := .automatic })
     let u := t.mapFace .f0 (fun x => { x with align := { x.align with map := [1] } })
     (1 : DoorIx) ∈ u.map .f0 ∧ (u.door .f0 1).state = some .locked ∧ u.isolated .f0 1 = false ∧ u.calm .f0 = true) := by
  decide +kernel

theorem witness_berth_requests : let s (b : BerthState) := berth0 (fun x => { x with state := b })
    let ok (k : Byte) (s : State) := (holding .il ⟨k, 2, [0]⟩ s).ready .il ⟨k, 2, [0]⟩ && s.calm .f0
    let m := base.mapMode .f0 (fun x => { x with mode := .maintenance })
    let h := m.mapMode .f0 (fun x => { x with possession := true })
    (ok 0x04 (s .settling) && ok 0x05 (s .stopped) && ok 0x05 (s .arriving) && ok 0x06 m && ok 0x07 h) = true ∧
      ((s .stopped).face .f0).clp.value = true ∧ ((s .stopped).beams .f0).allClear = true ∧
      ((s .stopped).berth .f0).release = false ∧ (m.berth .f0).state = .empty ∧ (h.face .f0).mode.possession = true ∧
      (h.face .f0).mode.latch = false ∧ h.isFitted .f0 0 = true ∧ h.isolated .f0 0 = false := by decide +kernel

/-- SET MODE turned away by the keyswitch, by another generation, and admitted into and out of MAINTENANCE. -/
theorem witness_set_mode : let p : List Byte := [0, 1, 1, 3]
    let key := base.mapMode .f0 (fun x => { x with mode := .local_, key := .localOpen, saved := some .automatic })
    let m := base.mapMode .f0 (fun x => { x with mode := .maintenance })
    let ok (p : List Byte) (s : State) := (holding .sl ⟨0x30, 2, p⟩ s).ready .sl ⟨0x30, 2, p⟩ && s.calm .f0
    (ok p base && ok p key && ok [0, 1, 2, 3] base && ok [0, 3, 1, 0] m) = true ∧
      [faceCode .f0, Mode.supervised.code, 1, Mode.maintenance.code] = p ∧ (base.face .f0).mode.key = .auto ∧
      (base.face .f0).mode.mode = .supervised ∧ (base.face .f0).mode.generation = 1 ∧ (key.face .f0).mode.key ≠ .auto ∧
      (base.berth .f0).state = .empty ∧ (m.face .f0).mode.mode = .maintenance ∧ m.allLocked .f0 = true := by decide +kernel

theorem witness_door_command : let po : List Byte := [0, 0, 0] ++ be32 0
    let pc : List Byte := [0, 1, 2] ++ be32 3
    let ok (p : List Byte) (s : State) := (holding .sl ⟨0x31, 2, p⟩ s).ready .sl ⟨0x31, 2, p⟩ && s.calm .f0
    let auto := base.mapMode .f0 (fun x => { x with mode := .automatic })
    let stop := ((passing .clear).mapBerth .f0 (fun b => { b with release := true })).mapFace .f0 (fun x => { x with
      align := { x.align with map := [0, 1] } })
    let arriving := berth0 (fun b => { b with state := .arriving })
    (ok po auto && ok po stop && ok po arriving && ok pc base) = true ∧ (auto.face .f0).mode.mode = .automatic ∧
      (stop.face .f0).mode.mode = .supervised ∧ (stop.berth .f0).state = .stopped ∧
      (stop.face .f0).align.grade ≠ some .noConsist ∧ (1 : DoorIx) ∈ stop.map .f0 ∧
      (stop.door .f0 1).state = some .locked ∧ stop.permits .f0 1 = true ∧ (arriving.berth .f0).posted = none ∧
      3 < 2 ^ (base.geo .f0).n ∧ (3 : Nat).testBit 1 = true := by decide +kernel

/-- DOOR COMMAND of SECTIONS and of EXPLICIT, at a STOPPED berth, with NO_CONSIST and where nothing is served. -/
theorem witness_door_command_selections : let p (a k : Byte) (n : Nat) : List Byte := [0, a, k] ++ be32 n
    let ok (p : List Byte) (s : State) := (holding .sl ⟨0x31, 2, p⟩ s).ready .sl ⟨0x31, 2, p⟩ && s.calm .f0
    let stop := ((passing .clear).mapBerth .f0 (fun b => { b with release := true })).mapFace .f0 (fun x => { x with
      align := { x.align with map := [0, 1] } })
    let none_ := stop.mapFace .f0 (fun x => { x with align := ⟨some .noConsist, none, 0, []⟩ })
    (ok (p 0 1 255) stop && ok (p 1 1 255) stop && ok (p 0 2 3) stop && ok (p 0 1 1) none_ && ok (p 0 0 0) base) = true ∧
      (255 : Nat).testBit ((stop.geo .f0).doors[(1 : Fin 32)]).section_.val = true ∧ (255 : Nat) < 2 ^ 8 ∧
      stop.permits .f0 1 = true ∧ (stop.door .f0 1).state = some .locked ∧ stop.isFitted .f0 1 = true ∧
      (none_.face .f0).align.grade = some .noConsist ∧ (none_.berth .f0).state = .stopped ∧ base.map .f0 = [] := by
  decide +kernel

/-- DOOR COMMAND of EXPLICIT for one door unit, which is LOCKED with none of the cases of R19. -/
theorem witness_single_door_command : let p (a : Byte) : List Byte := [0, a, 2] ++ be32 2
    let ok (p : List Byte) (s : State) := (holding .sl ⟨0x31, 2, p⟩ s).ready .sl ⟨0x31, 2, p⟩ && s.calm .f0
    base.startQueueLaw .f0 ∧ ((ok (p 0) base && ok (p 1) base) = true ∧ (2 : Nat) = 2 ^ (1 : DoorIx).val ∧
      (2 : Nat) < 2 ^ (base.geo .f0).n ∧ base.isFitted .f0 1 = true ∧ (base.face .f0).mode.mode = .supervised ∧
      (base.door .f0 1).state = some .locked ∧ base.isolated .f0 1 = false ∧ ¬base.mayLeaveLocked .f0 1) := by
  refine ⟨?_, by decide +kernel⟩
  unfold State.startQueueLaw
  decide +kernel

theorem witness_door_maintenance : let iso := base.mapConfig (fun c => c.setIso .f0 (put c.iso0 0 true))
    let f := door0 .fault closedIn none
    let z (o : Option (Fin 64)) := base.mapSense .f0 0 (fun d => { d with zone := .latched, episode := some ⟨0, o⟩ })
    let ok (k : Byte) (s : State) := (holding .sl ⟨k, 2, [0, 0]⟩ s).ready .sl ⟨k, 2, [0, 0]⟩ && s.calm .f0
    (ok 0x32 base && ok 0x32 f && ok 0x33 iso && ok 0x34 f && ok 0x34 base && ok 0x35 (z (some 63)) && ok 0x35 (z none)
      && ok 0x35 base && taken .sl 0x35 [2, 0] && taken .sl 0x35 [1, 2]) = true ∧
      base.isFitted .f0 0 = true ∧ base.commit = none ∧ base.served .f0 0 = false ∧ base.isolated .f0 0 = false ∧
      iso.isolated .f0 0 = true ∧ (iso.face .f0).mode.latch = false ∧ (f.door .f0 0).state = some .fault ∧
      (f.input .f0 0).leafClosed = true ∧ (f.input .f0 0).lockEngaged = true ∧ (f.input .f0 0).leafOpen = false ∧
      (f.input .f0 0).mrh = false ∧ ((z none).sense .f0 0).zone = .latched ∧ faceOf (2#8).toNat = none ∧
      (base.geo .f1).n ≤ (2#8).toNat := by decide +kernel

/-- ISOLATE of a served and of an isolated door unit, and RESTORE of one that is not and of one under the latch. -/
theorem witness_isolation : let iso := base.mapConfig (fun c => c.setIso .f0 (put c.iso0 0 true))
    let latch := iso.mapMode .f0 (fun m => { m with latch := true })
    let served := (passing .clear).mapFace .f0 (fun x => { x with
      doors := put x.doors 0 (rec .locked none)
      align := { x.align with map := [0] } })
    let ok (k : Byte) (s : State) := (holding .sl ⟨k, 2, [0, 0]⟩ s).ready .sl ⟨k, 2, [0, 0]⟩ && s.calm .f0
    (ok 0x32 served && ok 0x32 iso && ok 0x33 base && ok 0x33 latch) = true ∧ served.served .f0 0 = true ∧
      (served.door .f0 0).state = some .locked ∧ iso.isolated .f0 0 = true ∧ latch.isolated .f0 0 = true ∧
      (latch.face .f0).mode.latch = true ∧ (latch.door .f0 0).state = some .locked ∧ latch.sectionActive .f0 0 = true ∧
      (latch.input .f0 0).lockEngaged = true := by decide +kernel

/-- RESTORE under the latch with the lock not engaged: unlatch_settle running, zero with the grant made, and zero with the
spacing hold running. -/
theorem witness_restore_unlocked :
    let s := ((base.mapConfig (fun c => c.setIso .f0 (put c.iso0 0 true))).mapMode .f0 (fun m => { m with latch := true })).mapInput
      .f0 0 (fun i => { i with lockEngaged := false })
    let z := s.mapConfig (fun c => c.setPar .f0 { c.par0 with unlatchSettle := 0 })
    let held := z.mapGroup .f0 (z.groupOf .f0 0) (fun x => { x with spacing := some ⟨0, 5000⟩ })
    let ok (s : State) : Prop := (holding .sl ⟨0x33, 2, [0, 0]⟩ s).ready .sl ⟨0x33, 2, [0, 0]⟩ = true ∧ s.calm .f0 = true ∧
      s.commit = none ∧ s.isFitted .f0 0 = true ∧ s.isolated .f0 0 = true ∧ (s.face .f0).mode.latch = true ∧
      (s.door .f0 0).state = some .locked ∧ s.sectionActive .f0 0 = true ∧ (s.input .f0 0).lockEngaged = false ∧
      (s.group .f0 (s.groupOf .f0 0)).queue = []
    ok s ∧ (s.par .f0).unlatchSettle ≠ 0 ∧ ok z ∧ (z.par .f0).unlatchSettle = 0 ∧
      (z.group .f0 (z.groupOf .f0 0)).mayGrant = true ∧ ok held ∧ (held.par .f0).unlatchSettle = 0 ∧
      (held.group .f0 (held.groupOf .f0 0)).mayGrant = false := by decide +kernel

theorem witness_face_commands : let mf (r : Bool) := berth0 (fun b => { b with state := .movedFault, release := r })
    let sw := (mf false).mapFace .f0 (fun x => { x with beams := { x.beams with sw := put x.beams.sw 24 true } })
    let latch := base.mapMode .f0 (fun m => { m with latch := true, eoi := true })
    let ok (k : Byte) (s : State) := (holding .sl ⟨k, 2, [0]⟩ s).ready .sl ⟨k, 2, [0]⟩ && s.calm .f0
    (ok 0x36 base && ok 0x37 base && ok 0x37 (mf true) && ok 0x37 (mf false) && ok 0x37 sw && ok 0x38 base && ok 0x38 latch
      && ok 0x39 latch && ok 0x39 base) = true ∧
      (∀ j, base.isFitted .f0 j = true → (base.door .f0 j).state = some .locked) ∧ base.scanDone = true ∧
      ((mf false).berth .f0).state = .movedFault ∧ (mf false).allLocked .f0 = true ∧
      (sw.beams .f0).sw[(24 : Fin 25)] = true ∧ (∀ i : Fin 25, ((mf false).beams .f0).sw[i] = false) ∧
      (latch.face .f0).mode.eoi = true ∧ (base.face .f0).mode.eoi = false ∧ (base.face .f0).mode.possession = false := by
  decide +kernel

/-- EMERGENCY CLEAR with a door unit in RELEASED whose MRH is inactive, and one whose MRH is active. -/
theorem witness_emergency_clear :
    let i (mrh : Bool) : DoorInputs := ⟨true, false, false, mrh, false, false, false, false⟩
    let s (mrh : Bool) := (door0 .released (i mrh) none).mapMode .f0 (fun m => { m with latch := true })
    (s false).startQueueLaw .f0 ∧ ((holding .sl ⟨0x39, 2, [0]⟩ (s false)).ready .sl ⟨0x39, 2, [0]⟩ = true ∧
      (s false).calm .f0 = true ∧ ((s false).face .f0).mode.eoi = false ∧ ((s false).face .f0).mode.latch = true ∧
      (s false).isFitted .f0 0 = true ∧ ((s false).door .f0 0).state = some .released ∧
      ((s false).input .f0 0).mrh = false ∧ ((s true).input .f0 0).mrh = true) := by
  refine ⟨?_, by decide +kernel⟩
  unfold State.startQueueLaw
  decide +kernel

/-! ### Witnesses: the laws and the layouts -/

/-- The laws hold at rest, and a step is taken there: a door unit that releases, a frame that arrives. -/
theorem witness_laws :
    (∀ f, base.modeLaw f) ∧ base.linkLaw ∧ (∀ f, base.mapLaw f) ∧ (∀ f, base.clpLaw f) ∧
    (∃ t, step { base with pending := [.doorInputChange .f0 0 (leaf true false true true)] } = .next t) ∧
    ∃ t, step { base with pending := [.validFrameReceived .il ⟨0x05, 1, [0]⟩] } = .next t := by
  refine ⟨fun f => ?_, ?_, fun f => ?_, fun f => ?_, ⟨_, rfl⟩, ⟨_, rfl⟩⟩
  · cases f <;> (unfold State.modeLaw ModeUnit.lawful; decide +kernel)
  · unfold State.linkLaw LinkState.bounded; decide +kernel
  · cases f <;> (unfold State.mapLaw; decide +kernel)
  · cases f <;> (unfold State.clpLaw; decide +kernel)

/-- The laws of leaving LOCKED, of the emergency latch and of reclosing: a step that sets the latch with a door unit in CLOSING,
and one that reverses a door unit to its last attempt. -/
theorem witness_emergency_and_reclose_laws :
    let s := (door0 .closing openIn none).mapDoor .f0 0 (fun d => { d with attempts := 2 })
    (∀ f, s.startQueueLaw f ∧ s.emergencyLaw f ∧ s.recloseLaw f) ∧
    (∃ t, step { s with pending := [.eoiChange .f0 true] } = .next t ∧
      ((t.face .f0).mode.latch = true ∧ (t.door .f0 0).state = some .reversing ∧ (t.door .f0 1).state = some .unlatching)) ∧
    (s.door .f0 1).state = some .locked ∧
    ∃ t, step { s with pending := [.sensingInputChange .f0 0 ⟨true, false, false, false⟩] } = .next t ∧ (t.door .f0 0).attempts = 3 := by
  refine ⟨fun f => ⟨?_, ?_, ?_⟩, ⟨_, rfl, by decide +kernel⟩, by decide +kernel, ⟨_, rfl, by decide +kernel⟩⟩
  · cases f <;> (unfold State.startQueueLaw; decide +kernel)
  · cases f <;> (unfold State.emergencyLaw; decide +kernel)
  · refine ⟨by unfold WorkingCopy.recloses; decide +kernel, fun x h => ?_, fun w g k h => ?_, ?_⟩
    · cases h
    · cases h
    · cases f <;> decide +kernel

/-- Values at the ends of their ranges in each layout. -/
theorem witness_layouts :
    (let g : Geometry := { geo2 with pitch := 100, ab1 := -60000, ab2 := -30000, tolerance := 600 }
     1 ≤ g.n ∧ g.n ≤ 32 ∧ 20 ≤ g.pitch ∧ g.pitch ≤ 100 ∧ g.pitch % 2 = 0 ∧ -60000 ≤ g.ab1 ∧ g.ab1 ≤ -1000 ∧
       -30000 ≤ g.ab2 ∧ g.ab2 ≤ -500 ∧ 50 ≤ g.tolerance ∧ g.tolerance ≤ 600 ∧
       (∀ j : Fin 32, (g.doors[j]).centre ≤ 250000) ∧ ∀ j : Fin 32, g.n ≤ j.val → g.doors[j] = GeoDoor.blank) ∧
    (let c : CarProfile := ⟨30000, [500, 29500]⟩
     8000 ≤ c.length ∧ c.length ≤ 30000 ∧ 1 ≤ c.offsets.length ∧ c.offsets.length ≤ 5 ∧ increasing c.offsets = true ∧
       ∀ o ∈ c.offsets, 500 ≤ o ∧ o ≤ c.length - 500) ∧
    (let u : UnitProfile := ⟨[0, 23], 2000⟩
     1 ≤ u.cars.length ∧ u.cars.length ≤ 8 ∧ u.allowance ≤ 2000) ∧
    (let d : Descriptor := { desc .open_ .onClp 60000 120000 true with selection := ⟨.explicit, 3⟩, next := 95 }
     d.hold ≤ 60000 ∧ d.limit ≤ 120000 ∧ 2 ≤ 32 ∧ d.selection.mask.toNat < 2 ^ 2) ∧
    (let d : Descriptor := { desc .open_ .onClp 0 0 true with selection := ⟨.sections, 255⟩ }
     d.selection.mask.toNat < 2 ^ 8) := by decide +kernel

end Sys2Proof.Tests
end

section
/-! SUPPORT. How a command is carried out: every command but POWER_ON is an event, the taking of a request, or the dropping
of a frame, and each of these does nothing without power. With it, what the controller does when no command waits. -/

namespace Sys2Proof.Machine

/-! ### The three ways of carrying out a command -/

/-- The forms that a meaning has: POWER_ON, an event, a request that is taken and answered, a frame of an unknown KIND, and a
frame that is dropped (log 4, log 8, log 10). -/
inductive CommandForm (c : Instr) : Prop where
  | powerOn (r : StartReadings) (h : c = .powerOn r)
  | event (op : State → State) (h : ∀ s, exec c s = s.event op)
  | request (l : Link) (x : Frame) (d : State → State × Reply) (h : ∀ s, exec c s = .next (s.serve l x d))
  | unknown (l : Link) (k t : Byte) (p : List Byte) (h : c = .unknownKind l k t p)
  | dropped (l : Link) (x : Frame) (h : ∀ s, exec c s = .next (s.dropFrame l x))

theorem commandForm (c : Instr) : CommandForm c := by
  cases c
  case powerOn r => exact .powerOn r rfl
  case unknownKind l k t p => exact .unknown l k t p rfl
  case nonRequestFrame l k t p => exact .dropped l ⟨k, t, p⟩ (fun _ => rfl)
  all_goals first
    | exact .event _ (fun _ => rfl)
    | exact .request _ _ _ (fun _ => rfl)

theorem event_unpowered {s : State} (h : s.powered = false) (op : State → State) : s.event op = .next s := by
  simp [State.event, h]

theorem serve_unpowered {s : State} (h : s.powered = false) (l : Link) (x : Frame) (d : State → State × Reply) :
    s.serve l x d = s := by simp [State.serve, h]

theorem dropFrame_unpowered {s : State} (h : s.powered = false) (l : Link) (x : Frame) : s.dropFrame l x = s := by
  simp [State.dropFrame, h]

/-- Without power no command acts but POWER_ON (log 8). -/
theorem exec_unpowered {c : Instr} {s : State} (h : s.powered = false) (hc : ∀ r, c ≠ .powerOn r) : exec c s = .next s := by
  cases commandForm c with
  | powerOn r e => exact absurd e (hc r)
  | event op e => rw [e, event_unpowered h]
  | request l x d e => rw [e, serve_unpowered h]
  | dropped l x e => rw [e, dropFrame_unpowered h]
  | unknown l k t p e =>
    subst e
    simp only [exec, execUnknownKind, serve_unpowered h, ite_self]

/-! ### No command waiting -/

theorem step_idle {s : State} (h : s.pending = []) : step s = s.idle := by simp [step, h]

theorem idle_of_due {s : State} {c : Instr} (h : s.dueCommand = some c) : s.idle = exec c s := by simp [State.idle, h]

theorem idle_of_none {s : State} (h : s.dueCommand = none) : s.idle = .next (if s.powered then s.advance 1 else s) := by
  simp [State.idle, h]

theorem dueCommand_unpowered {s : State} (h : s.powered = false) : s.dueCommand = none := by simp [State.dueCommand, h]

@[simp] theorem advance_msClock (s : State) (n : Nat) : (s.advance n).msClock = s.msClock + BitVec.ofNat 32 n := by
  simp only [State.advance, State.sendDrives]
  (repeat' split) <;> rfl

@[simp] theorem advance_usClock (s : State) (n : Nat) : (s.advance n).usClock = s.usClock + BitVec.ofNat 32 (1000 * n) := by
  simp only [State.advance, State.sendDrives]
  (repeat' split) <;> rfl

/-- Settles O2: the idle step splits on the due event, and what has no power is left as it is. -/
theorem idleStepTakesDueEventOrATick : Obligations.IdleStepTakesDueEventOrATick := by
  refine ⟨fun s hp => ⟨fun c hc => ?_, fun hn hw => ?_, fun hw => ?_⟩, fun c s => exec_unpowered⟩
  · rw [step_idle hp, idle_of_due hc]
  · refine ⟨s.advance 1, by rw [step_idle hp, idle_of_none hn, if_pos hw], by simp, by simp, ?_⟩
    obtain ⟨m, u, p, d, h⟩ := advance_changes s 1
    rw [h]
  · rw [step_idle hp, idle_of_none (dueCommand_unpowered hw)]
    simp [hw]

end Sys2Proof.Machine
end

section
/-! SUPPORT. What a request command does with the frame it carries: for each request row its rule (the links, the length, the
decision), the taking and answering of the frame, and that a decision which refuses changes nothing. -/

namespace Sys2Proof.Machine

/-! ### The rule of a request row -/

/-- The rule of a request row: the links its KIND belongs to, the length of payload it requires, and what decides it once
link and length are right (R158, R168). -/
structure RequestRule where
  owner : Owner
  needs : Nat
  decide : State → State × Reply

/-- The checks of a rule on a link, and its decision. -/
def RequestRule.run (r : RequestRule) (l : Link) (p : List Byte) : State → State × Reply :=
  checked r.owner l (p.length = r.needs) r.decide

/-- The rule of each request row but SET MODE, which makes its checks itself (R124). -/
def requestRule : Instr → Option RequestRule
  | .arrivalNotice _ _ p => some ⟨.ilOnly, 2 + 2 * byteAt p 1, decideArrival p⟩
  | .doorRelease _ _ p => some ⟨.ilOnly, 1, decideRelease p⟩
  | .releaseWithdraw _ _ p => some ⟨.ilOnly, 1, decideWithdraw p⟩
  | .trainAtRest _ _ p => some ⟨.ilOnly, 1, decideAtRest p⟩
  | .departed _ _ p => some ⟨.ilOnly, 1, decideDeparted p⟩
  | .possessionGrant _ _ p => some ⟨.ilOnly, 1, decideGrant p⟩
  | .possessionRevoke _ _ p => some ⟨.ilOnly, 1, decideRevoke p⟩
  | .identify _ _ p => some ⟨.both, 1, decideIdentify p⟩
  | .getStatusFace l _ p => some ⟨.both, 3, decideGetStatus l p⟩
  | .getStatusDoorUnit l _ p => some ⟨.both, 3, decideGetStatus l p⟩
  | .getStatusBerth l _ p => some ⟨.both, 3, decideGetStatus l p⟩
  | .writeGeometry _ _ p => some ⟨.slOnly, 12 + 6 * byteAt p 1, decideWriteGeometry p⟩
  | .writeTolerance _ _ p => some ⟨.slOnly, 3, decideWriteTolerance p⟩
  | .writeParameters _ _ p => some ⟨.slOnly, 2 + 5 * byteAt p 1, decideWriteParameters p⟩
  | .writeDeviceParameters _ _ p => some ⟨.slOnly, 4, decideWriteDevice p⟩
  | .setReporting _ _ p => some ⟨.slOnly, 4, decideSetReporting p⟩
  | .writeCarProfile _ _ p => some ⟨.slOnly, 15, decideWriteCar p⟩
  | .writeUnitProfile _ _ p => some ⟨.slOnly, 13, decideWriteUnit p⟩
  | .writeDescriptor _ _ p => some ⟨.slOnly, 18, decideWriteDescriptor p⟩
  | .lockGeometry _ _ _ => some ⟨.slOnly, 0, decideLock⟩
  | .unlockGeometry _ _ _ => some ⟨.slOnly, 0, decideUnlock⟩
  | .commit _ _ _ => some ⟨.slOnly, 0, decideCommit⟩
  | .readGeometry _ _ p => some ⟨.slOnly, 1, decideReadGeometry p⟩
  | .readParameters _ _ p => some ⟨.slOnly, 1, decideReadParameters p⟩
  | .readDeviceParameters _ _ _ => some ⟨.slOnly, 0, decideReadDevice⟩
  | .readCarProfile _ _ p => some ⟨.slOnly, 1, decideReadCar p⟩
  | .readUnitProfile _ _ p => some ⟨.slOnly, 1, decideReadUnit p⟩
  | .readIsolation _ _ p => some ⟨.slOnly, 1, decideReadIsolation p⟩
  | .readDescriptor _ _ p => some ⟨.slOnly, 1, decideReadDescriptor p⟩
  | .doorCommandOpen _ _ p => some ⟨.slOnly, 7, decideDoorCommand p⟩
  | .doorCommandClose _ _ p => some ⟨.slOnly, 7, decideDoorCommand p⟩
  | .isolate _ _ p => some ⟨.slOnly, 2, decideIsolate p⟩
  | .restore _ _ p => some ⟨.slOnly, 2, decideRestore p⟩
  | .doorReset _ _ p => some ⟨.slOnly, 2, decideDoorReset p⟩
  | .ackGap _ _ p => some ⟨.slOnly, 2, decideAckGap p⟩
  | .faceReset _ _ p => some ⟨.slOnly, 1, decideFaceReset p⟩
  | .berthAck _ _ p => some ⟨.slOnly, 1, decideBerthAck p⟩
  | .evacuate _ _ p => some ⟨.slOnly, 1, decideEvacuate p⟩
  | .emergencyClear _ _ p => some ⟨.slOnly, 1, decideEmergencyClear p⟩
  | .startProgram _ _ p => some ⟨.slOnly, 2, decideStart p⟩
  | .haltProgram _ _ p => some ⟨.slOnly, 1, decideHalt p⟩
  | .resumeProgram _ _ p => some ⟨.slOnly, 1, decideResume p⟩
  | .stepProgram _ _ p => some ⟨.slOnly, 1, decideStep p⟩
  | .clearProgramErrors _ _ p => some ⟨.slOnly, 1, decideClearErrors p⟩
  | .armProgram _ _ p => some ⟨.slOnly, 2, decideArm p⟩
  | .disarmProgram _ _ p => some ⟨.slOnly, 1, decideDisarm p⟩
  | .readCounts _ _ p => some ⟨.slOnly, 1, decideReadCounts p⟩
  | .readHistory _ _ p => some ⟨.slOnly, 3, decideReadHistory p⟩
  | _ => none

/-- A counted length is one exact length, which the count fixes. -/
theorem countedLen_eq (base at_ size : Nat) (p : List Byte) :
    countedLen base at_ size p = decide (p.length = base + size * byteAt p at_) := by
  by_cases h : p.length = base + size * byteAt p at_
  · simp only [countedLen, h, decide_true, Bool.and_true, decide_eq_true_eq]; omega
  · simp [countedLen, h]

/-- A request row takes and answers its frame by its rule. -/
theorem exec_of_rule {i : Instr} {r : RequestRule} {l : Link} {x : Frame} (hr : requestRule i = some r)
    (hx : i.frame? = some (l, x)) (s : State) : exec i s = .next (s.serve l x (r.run l x.payload)) := by
  cases i
  case arrivalNotice | writeGeometry | writeParameters =>
    cases hr
    cases hx
    rw [RequestRule.run, ← countedLen_eq]
    rfl
  all_goals first
    | cases hr
      cases hx
      rfl
    | nomatch hr

/-! ### The row of a frame -/

/-- The row of a frame of one link carries that frame on that link. -/
theorem frame_ofFrame (l : Link) (x : Frame) : (Instr.ofFrame l x).frame? = some (l, x) := by
  obtain ⟨k, t, p⟩ := x
  have lit : ∀ n : Nat, k.toNat = n → k = BitVec.ofNat 8 n := fun n h => by
    rw [← h, BitVec.ofNat_toNat, BitVec.setWidth_eq]
  unfold Instr.ofFrame
  dsimp only
  split
  case h_47 => split <;> rfl
  all_goals
    rename_i h
    rw [lit _ h]
    (repeat' split) <;> rfl

/-- The KINDs of the requests of IL alone (R168). -/
abbrev ilKind (k : Nat) : Prop := 0x01 ≤ k ∧ k ≤ 0x07

/-- The KINDs of the requests of both links (R168). -/
abbrev bothKind (k : Nat) : Prop := k = 0x08 ∨ k = 0x09

/-- The KINDs of the requests of SL alone (R168). -/
abbrev slKind (k : Nat) : Prop :=
  0x10 ≤ k ∧ k ≤ 0x1A ∨ 0x20 ≤ k ∧ k ≤ 0x26 ∨ 0x30 ≤ k ∧ k ≤ 0x39 ∨ 0x40 ≤ k ∧ k ≤ 0x46 ∨ k = 0x48 ∨ k = 0x49

/-- The KINDs of an owner. -/
def Owner.ofKind (k : Nat) : Owner → Prop
  | .ilOnly => ilKind k
  | .both => bothKind k
  | .slOnly => slKind k

/-- The length of payload that a KIND requires (R168). -/
def kindNeeds (k : Nat) (p : List Byte) : Nat :=
  if k = 0x18 ∨ k = 0x19 ∨ k = 0x1A ∨ k = 0x22 then 0
  else if 0x32 ≤ k ∧ k ≤ 0x35 ∨ k = 0x40 ∨ k = 0x45 then 2
  else if k = 0x09 ∨ k = 0x11 ∨ k = 0x49 then 3
  else if k = 0x13 ∨ k = 0x14 ∨ k = 0x30 then 4
  else if k = 0x31 then 7
  else if k = 0x15 then 15
  else if k = 0x16 then 13
  else if k = 0x17 then 18
  else if k = 0x01 then 2 + 2 * byteAt p 1
  else if k = 0x10 then 12 + 6 * byteAt p 1
  else if k = 0x12 then 2 + 5 * byteAt p 1
  else 1

/-- What a row is to the KIND of its frame: no request, SET MODE, an unknown KIND, or a row with a rule whose links and
length are those of the KIND (R155, R158, R168). -/
inductive RowOfKind (l : Link) (x : Frame) (i : Instr) : Prop where
  | noRequest (hk : 0x80 ≤ x.kind.toNat) (h : i = .nonRequestFrame l x.kind x.tag x.payload)
  | setMode (hk : x.kind.toNat = 0x30) (h : i = .setMode l x.tag x.payload)
  | unknown (hk : x.kind.toNat < 0x80) (hn : ¬(ilKind x.kind.toNat ∨ bothKind x.kind.toNat ∨ slKind x.kind.toNat))
      (h : i = .unknownKind l x.kind x.tag x.payload)
  | request (r : RequestRule) (hk : x.kind.toNat < 0x80) (hm : x.kind.toNat ≠ 0x30) (ho : r.owner.ofKind x.kind.toNat)
      (hl : r.needs = kindNeeds x.kind.toNat x.payload) (h : requestRule i = some r)

/-- The row of a frame is the row of its KIND. -/
theorem rowOfKind (l : Link) (x : Frame) : RowOfKind l x (Instr.ofFrame l x) := by
  unfold Instr.ofFrame
  dsimp only
  split
  case h_47 =>
    split
    · next hk => exact .noRequest hk rfl
    · next hk => exact .unknown (by omega) (by simp only [imp_false] at *; omega) rfl
  all_goals rename_i h
  case h_28 => exact .setMode h rfl
  all_goals
    (repeat' split) <;>
      exact .request _ (by omega) (by omega) (by rw [h]; simp only [Owner.ofKind]; decide) (by rw [h]; rfl) rfl

end Sys2Proof.Machine
end

section
/-! SUPPORT. Requests that are refused: the frame at the head of its queue is taken and answered, and nothing else changes. -/

namespace Sys2Proof.Machine

/-! ### Taking the head frame -/

theorem drain_of_no_notices {s : State} (h : s.notices = []) : s.drain = s := by
  rw [drain_calm s (by simp [h]), ← h]

theorem ready_iff {l : Link} {x : Frame} {s : State} :
    s.ready l x = true ↔ s.powered = true ∧ s.notices = [] ∧ x.payload.length ≤ 248 ∧ s.canTake l x = true := by
  simp [State.ready, and_assoc]

@[simp] theorem popFrame_notices (s : State) (l : Link) : (s.popFrame l).notices = s.notices := by simp [State.popFrame]

@[simp] theorem popFrame_face (s : State) (l : Link) (f : Face) : (s.popFrame l).face f = s.face f := by
  simp [State.popFrame]

@[simp] theorem popFrame_config (s : State) (l : Link) : (s.popFrame l).config = s.config := by simp [State.popFrame]

@[simp] theorem popFrame_commit (s : State) (l : Link) : (s.popFrame l).commit = s.commit := by simp [State.popFrame]

/-- A frame that can be taken is taken, decided and answered (R155 to R157). -/
theorem serve_ready {l : Link} {x : Frame} {s : State} (h : s.ready l x = true) (d : State → State × Reply) :
    s.serve l x d = (d (s.popFrame l)).1.drain.replied l x (d (s.popFrame l)).2.code (d (s.popFrame l)).2.body := by
  obtain ⟨hw, hn, hp, ht⟩ := ready_iff.mp h
  simp [State.serve, State.present, State.answer, State.replied, hw, hp, ht]

/-- A frame that can be taken and is no request is dropped (R155). -/
theorem dropFrame_ready {l : Link} {x : Frame} {s : State} (h : s.ready l x = true) (hk : 0x80 ≤ x.kind.toNat) :
    s.dropFrame l x = s.popFrame l := by
  obtain ⟨hw, hn, hp, ht⟩ := ready_iff.mp h
  simp [State.dropFrame, State.present, hw, hp, ht, hk, drain_of_no_notices, hn]

/-- A decision that leaves the taken frame's state as it is gives the answer alone. -/
theorem serve_of_decision {l : Link} {x : Frame} {s : State} {d : State → State × Reply} {c : ResultCode} {body : List Byte}
    (h : s.ready l x = true) (hd : d (s.popFrame l) = (s.popFrame l, ⟨c, body⟩)) :
    s.serve l x d = (s.popFrame l).replied l x c body := by
  obtain ⟨_, hn, _⟩ := ready_iff.mp h
  rw [serve_ready h, hd, drain_of_no_notices (by simpa using hn)]

/-! ### Decisions that refuse change nothing -/

/-- The decision of a request left the state as it was, or its result is ACCEPT or ADJUSTED (R3). -/
def KeptUnlessAccepted (s : State) (r : State × Reply) : Prop := r.2.code ≠ .accept → r.2.code ≠ .adjusted → r.1 = s

@[simp] theorem refuse_kept (c : ResultCode) (s : State) : KeptUnlessAccepted s (refuse c s) := fun _ _ => rfl

@[simp] theorem accepted_kept (s t : State) : KeptUnlessAccepted s (accepted t) := fun h => absurd rfl h

@[simp] theorem acceptedWith_kept (s t : State) (body : List Byte) : KeptUnlessAccepted s (acceptedWith body t) :=
  fun h => absurd rfl h

@[simp] theorem writeAnswer_kept (s t : State) (adjusted : Bool) (v : List Byte) :
    KeptUnlessAccepted s (writeAnswer adjusted v t) := by
  unfold writeAnswer
  split
  · exact fun _ h => absurd rfl h
  · exact accepted_kept s t

theorem withFace_kept {p : List Byte} {k : Face → State → State × Reply} (h : ∀ f s, KeptUnlessAccepted s (k f s))
    (s : State) : KeptUnlessAccepted s (withFace p k s) := by
  unfold withFace
  split
  · exact refuse_kept _ s
  · exact h _ s

theorem withDoor_kept {p : List Byte} {k : Face → DoorIx → State → State × Reply}
    (h : ∀ f j s, KeptUnlessAccepted s (k f j s)) (s : State) : KeptUnlessAccepted s (withDoor p k s) := by
  unfold withDoor
  (repeat' split) <;> first
    | exact refuse_kept _ s
    | exact h _ _ s

theorem unlessCommit_kept {k : State → State × Reply} (h : ∀ s, KeptUnlessAccepted s (k s)) (s : State) :
    KeptUnlessAccepted s (unlessCommit k s) := by
  unfold unlessCommit
  split
  · exact refuse_kept _ s
  · exact h s

theorem checked_kept {o : Owner} {l : Link} {b : Bool} {d : State → State × Reply} (h : ∀ s, KeptUnlessAccepted s (d s))
    (s : State) : KeptUnlessAccepted s (checked o l b d s) := by
  unfold checked
  (repeat' split) <;> first
    | exact refuse_kept _ s
    | exact h s

section Decisions
variable (p : List Byte) (s : State)

@[simp] theorem decideArrival_kept : KeptUnlessAccepted s (decideArrival p s) := by
  refine withFace_kept (fun f s => ?_) s
  simp only [State.tryNotice]
  (repeat' split) <;> simp

@[simp] theorem decideRelease_kept : KeptUnlessAccepted s (decideRelease p s) := by
  refine withFace_kept (fun f s => ?_) s
  (repeat' split) <;> simp

@[simp] theorem decideWithdraw_kept : KeptUnlessAccepted s (decideWithdraw p s) := withFace_kept (fun _ _ => by simp) s

@[simp] theorem decideAtRest_kept : KeptUnlessAccepted s (decideAtRest p s) := by
  refine withFace_kept (fun f s => ?_) s
  split <;> simp

@[simp] theorem decideDeparted_kept : KeptUnlessAccepted s (decideDeparted p s) := by
  refine withFace_kept (fun f s => ?_) s
  split <;> simp

@[simp] theorem decideGrant_kept : KeptUnlessAccepted s (decideGrant p s) := by
  refine withFace_kept (fun f s => ?_) s
  (repeat' split) <;> simp

@[simp] theorem decideRevoke_kept : KeptUnlessAccepted s (decideRevoke p s) := withFace_kept (fun _ _ => by simp) s

@[simp] theorem decideIdentify_kept : KeptUnlessAccepted s (decideIdentify p s) := by
  simp only [decideIdentify]
  split <;> simp

@[simp] theorem decideGetStatus_kept (l : Link) : KeptUnlessAccepted s (decideGetStatus l p s) := by
  simp only [decideGetStatus]
  (repeat' split) <;> simp

@[simp] theorem decideWriteGeometry_kept : KeptUnlessAccepted s (decideWriteGeometry p s) := by
  refine withFace_kept (fun f s => ?_) s
  split
  · simp
  · refine unlessCommit_kept (fun s => ?_) s
    simp only [State.tryGeometry]
    (repeat' split) <;> simp

@[simp] theorem decideWriteTolerance_kept : KeptUnlessAccepted s (decideWriteTolerance p s) := by
  refine withFace_kept (fun f s => ?_) s
  dsimp only
  split
  · simp
  · refine unlessCommit_kept (fun s => ?_) s
    (repeat' split) <;> simp

@[simp] theorem decideWriteParameters_kept : KeptUnlessAccepted s (decideWriteParameters p s) := by
  refine withFace_kept (fun f s => ?_) s
  split
  · simp
  · refine unlessCommit_kept (fun s => ?_) s
    split <;> simp

@[simp] theorem decideWriteDevice_kept : KeptUnlessAccepted s (decideWriteDevice p s) := by
  simp only [decideWriteDevice]
  split
  · split
    · simp
    · exact unlessCommit_kept (fun _ => writeAnswer_kept _ _ _ _) s
  · simp

@[simp] theorem decideSetReporting_kept : KeptUnlessAccepted s (decideSetReporting p s) := by
  simp only [decideSetReporting]
  split
  · split
    · simp
    · exact unlessCommit_kept (fun _ => accepted_kept _ _) s
  · simp

@[simp] theorem decideWriteCar_kept : KeptUnlessAccepted s (decideWriteCar p s) := by
  simp only [decideWriteCar]
  split
  · refine unlessCommit_kept (fun s => ?_) s
    split <;> simp
  · split
    · simp
    · exact unlessCommit_kept (fun _ => accepted_kept _ _) s
  · simp

@[simp] theorem decideWriteUnit_kept : KeptUnlessAccepted s (decideWriteUnit p s) := by
  simp only [decideWriteUnit]
  split
  · exact unlessCommit_kept (fun _ => accepted_kept _ _) s
  · split
    · simp
    · refine unlessCommit_kept (fun s => ?_) s
      split <;> simp
  · simp

theorem tryDescriptor_kept (i : Fin 96) (o : Option Descriptor) (a : Bool) :
    KeptUnlessAccepted s (s.tryDescriptor i o a) := by
  simp only [State.tryDescriptor]
  split <;> simp

@[simp] theorem decideWriteDescriptor_kept : KeptUnlessAccepted s (decideWriteDescriptor p s) := by
  simp only [decideWriteDescriptor]
  split
  · exact unlessCommit_kept (fun s => tryDescriptor_kept s _ _ _) s
  · split
    · simp
    · exact unlessCommit_kept (fun s => tryDescriptor_kept s _ _ _) s
  · simp

@[simp] theorem decideLock_kept : KeptUnlessAccepted s (decideLock s) := unlessCommit_kept (fun _ => accepted_kept _ _) s

@[simp] theorem decideUnlock_kept : KeptUnlessAccepted s (decideUnlock s) := by
  refine unlessCommit_kept (fun s => ?_) s
  split <;> simp

@[simp] theorem decideCommit_kept : KeptUnlessAccepted s (decideCommit s) := by
  simp only [decideCommit]
  split <;> simp

@[simp] theorem decideReadGeometry_kept : KeptUnlessAccepted s (decideReadGeometry p s) := withFace_kept (fun _ _ => by simp) s

@[simp] theorem decideReadParameters_kept : KeptUnlessAccepted s (decideReadParameters p s) :=
  withFace_kept (fun _ _ => by simp) s

@[simp] theorem decideReadIsolation_kept : KeptUnlessAccepted s (decideReadIsolation p s) := withFace_kept (fun _ _ => by simp) s

@[simp] theorem decideReadDevice_kept : KeptUnlessAccepted s (decideReadDevice s) := acceptedWith_kept s s _

@[simp] theorem decideReadCar_kept : KeptUnlessAccepted s (decideReadCar p s) := by
  simp only [decideReadCar]
  split <;> simp

@[simp] theorem decideReadUnit_kept : KeptUnlessAccepted s (decideReadUnit p s) := by
  simp only [decideReadUnit]
  split <;> simp

@[simp] theorem decideReadDescriptor_kept : KeptUnlessAccepted s (decideReadDescriptor p s) := by
  simp only [decideReadDescriptor]
  split <;> simp

@[simp] theorem decideDoorCommand_kept : KeptUnlessAccepted s (decideDoorCommand p s) := by
  refine withFace_kept (fun f s => ?_) s
  simp only [State.commandOpen, State.commandClose]
  (repeat' split) <;> simp

@[simp] theorem decideIsolate_kept : KeptUnlessAccepted s (decideIsolate p s) := by
  refine withDoor_kept (fun f j s => unlessCommit_kept (fun s => ?_) s) s
  (repeat' split) <;> simp

@[simp] theorem decideRestore_kept : KeptUnlessAccepted s (decideRestore p s) := by
  refine withDoor_kept (fun f j s => unlessCommit_kept (fun s => ?_) s) s
  split <;> simp

@[simp] theorem decideDoorReset_kept : KeptUnlessAccepted s (decideDoorReset p s) := by
  refine withDoor_kept (fun f j s => ?_) s
  split <;> simp

@[simp] theorem decideAckGap_kept : KeptUnlessAccepted s (decideAckGap p s) := by
  refine withDoor_kept (fun f j s => ?_) s
  split <;> simp

@[simp] theorem decideFaceReset_kept : KeptUnlessAccepted s (decideFaceReset p s) := withFace_kept (fun _ _ => by simp) s

@[simp] theorem decideBerthAck_kept : KeptUnlessAccepted s (decideBerthAck p s) := by
  refine withFace_kept (fun f s => ?_) s
  (repeat' split) <;> simp

@[simp] theorem decideEvacuate_kept : KeptUnlessAccepted s (decideEvacuate p s) := withFace_kept (fun _ _ => by simp) s

@[simp] theorem decideEmergencyClear_kept : KeptUnlessAccepted s (decideEmergencyClear p s) := by
  refine withFace_kept (fun f s => ?_) s
  split <;> simp

@[simp] theorem decideStart_kept : KeptUnlessAccepted s (decideStart p s) := by
  refine withFace_kept (fun f s => ?_) s
  (repeat' split) <;> simp

@[simp] theorem decideHalt_kept : KeptUnlessAccepted s (decideHalt p s) := withFace_kept (fun _ _ => by simp) s

@[simp] theorem decideResume_kept : KeptUnlessAccepted s (decideResume p s) := by
  refine withFace_kept (fun f s => ?_) s
  (repeat' split) <;> simp

@[simp] theorem decideStep_kept : KeptUnlessAccepted s (decideStep p s) := by
  refine withFace_kept (fun f s => ?_) s
  split <;> simp

@[simp] theorem decideClearErrors_kept : KeptUnlessAccepted s (decideClearErrors p s) := withFace_kept (fun _ _ => by simp) s

@[simp] theorem decideArm_kept : KeptUnlessAccepted s (decideArm p s) := by
  refine withFace_kept (fun f s => ?_) s
  (repeat' split) <;> simp

@[simp] theorem decideDisarm_kept : KeptUnlessAccepted s (decideDisarm p s) := withFace_kept (fun _ _ => by simp) s

@[simp] theorem decideReadCounts_kept : KeptUnlessAccepted s (decideReadCounts p s) := withFace_kept (fun _ _ => by simp) s

@[simp] theorem decideReadHistory_kept : KeptUnlessAccepted s (decideReadHistory p s) := by
  refine withFace_kept (fun f s => ?_) s
  (repeat' split) <;> simp

end Decisions

/-- No request row but SET MODE changes anything with a result other than ACCEPT and ADJUSTED. -/
theorem requestRule_kept {i : Instr} {r : RequestRule} (hr : requestRule i = some r) (s : State) :
    KeptUnlessAccepted s (r.decide s) := by
  cases i <;> cases hr <;> simp

/-! ### SET MODE -/

/-- The decision of SET MODE before its reply payload is made. -/
def setModeResult (l : Link) (p : List Byte) (s : State) : State × ResultCode :=
  if !Owner.slOnly.allows l then (s, .wrongLink)
  else if !fixedLen 4 p then (s, .badLength)
  else match faceOf (byteAt p 0), modeOf (byteAt p 1), modeOf (byteAt p 3) with
    | some f, some a, some b => s.trySetMode f a (b8 (byteAt p 2)) b
    | _, _, _ => (s, .badField)

theorem decideSetMode_eq (l : Link) (p : List Byte) (s : State) :
    decideSetMode l p s =
      (((setModeResult l p s).1.drain.modeBody (namedFace p)).1,
        ⟨(setModeResult l p s).2, ((setModeResult l p s).1.drain.modeBody (namedFace p)).2⟩) := rfl

theorem trySetMode_kept {f : Face} {e new : Mode} {g : Byte} {s : State} (h : (s.trySetMode f e g new).2 ≠ .accept) :
    (s.trySetMode f e g new).1 = s := by
  revert h
  simp only [State.trySetMode]
  (repeat' split) <;> simp

theorem setModeResult_kept (l : Link) (p : List Byte) (s : State) (h : (setModeResult l p s).2 ≠ .accept) :
    (setModeResult l p s).1 = s := by
  revert h
  unfold setModeResult
  (repeat' split) <;> intro h <;> first
    | rfl
    | exact trySetMode_kept h

/-- The reply payload of SET MODE takes free values alone. -/
theorem modeBody_kept (o : Option Face) (s : State) : { (s.modeBody o).1 with freeCount := s.freeCount } = s := by
  cases o <;> rfl

theorem decideSetMode_kept {l : Link} {p : List Byte} {s : State} (hn : s.notices = [])
    (h : (decideSetMode l p s).2.code ≠ .accept) : { (decideSetMode l p s).1 with freeCount := s.freeCount } = s := by
  rw [decideSetMode_eq] at h ⊢
  rw [setModeResult_kept l p s h, drain_of_no_notices hn]
  exact modeBody_kept _ s

/-- A SET MODE that names a face and is refused by link or length carries the mode and generation of that face (log 15). -/
theorem decideSetMode_refused {l : Link} {p : List Byte} {s : State} {c : ResultCode} {f : Face} (hn : s.notices = [])
    (hr : setModeResult l p s = (s, c)) (hp : p ≠ []) (hf : faceOf (byteAt p 0) = some f) :
    decideSetMode l p s = (s, ⟨c, [(s.face f).mode.mode.code, (s.face f).mode.generation]⟩) := by
  have hnamed : namedFace p = some f := by simp [namedFace, hp, hf]
  rw [decideSetMode_eq, hr, hnamed, drain_of_no_notices hn]
  rfl

/-! ### The answer to every frame -/

/-- The decision of a row with a rule is refused WRONG_LINK on a link that its owner does not allow. -/
theorem run_wrongLink {r : RequestRule} {l : Link} (h : r.owner.allows l = false) (p : List Byte) (s : State) :
    r.run l p s = (s, ⟨.wrongLink, []⟩) := by simp [RequestRule.run, checked, h, refuse]

/-- On a right link a payload of another length is refused BAD_LENGTH. -/
theorem run_badLength {r : RequestRule} {l : Link} {p : List Byte} (h : r.owner.allows l = true) (hp : p.length ≠ r.needs)
    (s : State) : r.run l p s = (s, ⟨.badLength, []⟩) := by simp [RequestRule.run, checked, h, hp, refuse]

/-- On a right link a payload of the length required is decided. -/
theorem run_decides {r : RequestRule} {l : Link} {p : List Byte} (h : r.owner.allows l = true) (hp : p.length = r.needs)
    (s : State) : r.run l p s = r.decide s := by simp [RequestRule.run, checked, h, hp]

theorem exec_setMode (l : Link) (t : Byte) (p : List Byte) (s : State) :
    exec (.setMode l t p) s = .next (s.serve l ⟨0x30#8, t, p⟩ (decideSetMode l p)) := rfl

/-- A frame of an unknown KIND is served with the refusal UNKNOWN_KIND. -/
theorem exec_unknownKind {l : Link} {x : Frame} (h : Instr.ofFrame l x = .unknownKind l x.kind x.tag x.payload) (s : State) :
    exec (.unknownKind l x.kind x.tag x.payload) s = .next (s.serve l x (refuse .unknownKind)) := by
  have hu : unknownKind l x = true := by simp [unknownKind, h]
  simp only [exec, execUnknownKind, hu, if_true]

/-- Every frame of a KIND below 0x80 is served by some decision, and a decision that is not ACCEPT or ADJUSTED leaves all as it
was but the counter of free values (R3, R156, R158). -/
theorem exec_ofFrame {l : Link} {x : Frame} (hk : x.kind.toNat < 0x80) :
    ∃ d : State → State × Reply, (∀ s, exec (Instr.ofFrame l x) s = .next (s.serve l x d)) ∧
      ∀ s, s.notices = [] → (d s).2.code ≠ .accept → (d s).2.code ≠ .adjusted →
        { (d s).1 with freeCount := s.freeCount } = s := by
  have fc : ∀ {s : State} {r : State × Reply}, KeptUnlessAccepted s r → r.2.code ≠ .accept → r.2.code ≠ .adjusted →
      { r.1 with freeCount := s.freeCount } = s := fun h ha hd => by rw [h ha hd]
  cases rowOfKind l x with
  | noRequest hn => omega
  | setMode hm h =>
    obtain ⟨k, t, p⟩ := x
    have hk30 : k = 0x30#8 := BitVec.eq_of_toNat_eq hm
    subst hk30
    exact ⟨decideSetMode l p, fun s => by rw [h, exec_setMode], fun s hn ha _ => decideSetMode_kept hn ha⟩
  | unknown _ _ h =>
    exact ⟨refuse .unknownKind, fun s => by rw [h, exec_unknownKind h], fun s _ => fc (refuse_kept _ s)⟩
  | request r _ _ _ _ h =>
    exact ⟨r.run l x.payload, exec_of_rule h (frame_ofFrame l x),
      fun s _ => fc (checked_kept (requestRule_kept h) s)⟩

/-- The row of a KIND other than SET MODE that an owner has: its rule, with that owner and the length of the KIND. -/
theorem rule_of_kind {l : Link} {x : Frame} (hm : x.kind.toNat ≠ 0x30)
    (h : ilKind x.kind.toNat ∨ bothKind x.kind.toNat ∨ slKind x.kind.toNat) :
    ∃ r, requestRule (Instr.ofFrame l x) = some r ∧ r.owner.ofKind x.kind.toNat ∧
      r.needs = kindNeeds x.kind.toNat x.payload := by
  cases rowOfKind l x with
  | noRequest hn => omega
  | setMode he => exact absurd he hm
  | unknown _ hn => exact absurd h hn
  | request r _ _ ho hl hr => exact ⟨r, hr, ho, hl⟩

/-- The owner of a KIND allows the links that the KIND belongs to, and no other. -/
theorem allows_iff {o : Owner} {k : Nat} (h : o.ofKind k) (l : Link) :
    o.allows l = true ↔ l = .il ∧ ilKind k ∨ bothKind k ∨ l = .sl ∧ slKind k := by
  cases o <;> cases l <;> simp only [Owner.ofKind] at h <;> simp [Owner.allows, h] <;> omega

theorem unknown_ofFrame {l : Link} {x : Frame} (hk : x.kind.toNat < 0x80)
    (hn : ¬(ilKind x.kind.toNat ∨ bothKind x.kind.toNat ∨ slKind x.kind.toNat)) :
    Instr.ofFrame l x = .unknownKind l x.kind x.tag x.payload := by
  cases rowOfKind l x with
  | noRequest => omega
  | setMode he => omega
  | unknown _ _ h => exact h
  | request r _ _ ho =>
    refine absurd ?_ hn
    cases h : r.owner <;> rw [h] at ho
    exacts [.inl ho, .inr (.inr ho), .inr (.inl ho)]

theorem setMode_ofFrame {l : Link} {x : Frame} (h : x.kind.toNat = 0x30) :
    Instr.ofFrame l x = .setMode l x.tag x.payload := by
  simp [Instr.ofFrame, h]

/-- A frame whose row's rule refuses it is taken and answered with the header alone. -/
theorem exec_refused {l : Link} {x : Frame} {s : State} {r : RequestRule} {c : ResultCode} (h : s.ready l x = true)
    (hr : requestRule (Instr.ofFrame l x) = some r)
    (hd : r.run l x.payload (s.popFrame l) = (s.popFrame l, ⟨c, []⟩)) :
    exec (Instr.ofFrame l x) s = .next ((s.popFrame l).replied l x c []) := by
  rw [exec_of_rule hr (frame_ofFrame l x), serve_of_decision h hd]

/-- A request on the other link is refused WRONG_LINK (R158). -/
theorem exec_wrongLink {l : Link} {x : Frame} {s : State} (h : s.ready l x = true) (hm : x.kind.toNat ≠ 0x30)
    (hk : l = .sl ∧ ilKind x.kind.toNat ∨ l = .il ∧ slKind x.kind.toNat) :
    exec (Instr.ofFrame l x) s = .next ((s.popFrame l).replied l x .wrongLink []) := by
  obtain ⟨r, hr, ho, _⟩ := rule_of_kind (l := l) hm (hk.elim (fun a => .inl a.2) (fun a => .inr (.inr a.2)))
  have hno : r.owner.allows l = false := by
    rw [Bool.eq_false_iff, ne_eq, allows_iff ho]
    rcases hk with ⟨rfl, hk⟩ | ⟨rfl, hk⟩ <;> simp <;> omega
  exact exec_refused h hr (run_wrongLink hno _ _)

/-- On a right link a payload of another length than the KIND requires is refused BAD_LENGTH (R158). -/
theorem exec_badLength {l : Link} {x : Frame} {s : State} (h : s.ready l x = true) (hm : x.kind.toNat ≠ 0x30)
    (hk : l = .il ∧ ilKind x.kind.toNat ∨ bothKind x.kind.toNat ∨ l = .sl ∧ slKind x.kind.toNat)
    (hp : x.payload.length ≠ kindNeeds x.kind.toNat x.payload) :
    exec (Instr.ofFrame l x) s = .next ((s.popFrame l).replied l x .badLength []) := by
  obtain ⟨r, hr, ho, hl⟩ := rule_of_kind (l := l) hm (hk.imp And.right (Or.imp_right And.right))
  exact exec_refused h hr (run_badLength ((allows_iff ho l).mpr hk) (hl ▸ hp) _)

/-- A SET MODE that names a face and is refused by link or length is answered with the mode and generation of the face. -/
theorem exec_setMode_refused {l : Link} {x : Frame} {s : State} {c : ResultCode} {f : Face} (h : s.ready l x = true)
    (hk : x.kind.toNat = 0x30) (hp : x.payload ≠ []) (hf : faceOf (byteAt x.payload 0) = some f)
    (hr : setModeResult l x.payload (s.popFrame l) = (s.popFrame l, c)) :
    exec (Instr.ofFrame l x) s =
      .next ((s.popFrame l).replied l x c [(s.face f).mode.mode.code, (s.face f).mode.generation]) := by
  have hn : (s.popFrame l).notices = [] := by simpa using (ready_iff.mp h).2.1
  have hx : (⟨0x30#8, x.tag, x.payload⟩ : Frame) = x := by
    rw [← BitVec.eq_of_toNat_eq (x := x.kind) (y := 0x30#8) hk]
  rw [setMode_ofFrame hk, exec_setMode, hx, serve_of_decision h (decideSetMode_refused hn hr hp hf), popFrame_face]

/-! ### Door units named by a payload -/

@[simp] theorem faceOf_faceCode (f : Face) : faceOf (faceCode f).toNat = some f := by cases f <;> rfl

/-- A payload that names a fitted door unit is decided for it. -/
theorem withDoor_of_isFitted {f : Face} {j : DoorIx} {s : State} (h : s.isFitted f j = true)
    (k : Face → DoorIx → State → State × Reply) : withDoor [faceCode f, b8 j.val] k s = k f j s := by
  have hj : (b8 j.val).toNat = j.val := Nat.mod_eq_of_lt (by omega)
  simp [withDoor, byteAt, ixOf, hj, h]

/-- ISOLATE of a door unit with no state yet is refused NOT_LOCKED, and DOOR RESET of one NOT_FAULTED (log 27). -/
theorem decideIsolate_noState {f : Face} {j : DoorIx} {s : State} (h : s.isFitted f j = true) (hd : (s.door f j).state = none)
    (hc : s.commit = none) : decideIsolate [faceCode f, b8 j.val] s = (s, ⟨.notLocked, []⟩) := by
  simp [decideIsolate, withDoor_of_isFitted h, unlessCommit, hc, hd, refuse]

theorem decideDoorReset_noState {f : Face} {j : DoorIx} {s : State} (h : s.isFitted f j = true)
    (hd : (s.door f j).state = none) : decideDoorReset [faceCode f, b8 j.val] s = (s, ⟨.notFaulted, []⟩) := by
  simp [decideDoorReset, withDoor_of_isFitted h, hd, refuse]

end Sys2Proof.Machine
end

section
/-! PROOFS. The answers to frames: O42. -/

namespace Sys2Proof.Machine

/-- Settles O42: a frame is served by the rule of its row, whose checks of link and length and whose refusals leave the taken
frame's state as it is. -/
theorem refusalsChangeNothing : Obligations.RefusalsChangeNothing := by
  intro l x s hs
  have hn : (s.popFrame l).notices = [] := by simpa using (ready_iff.mp hs).2.1
  refine ⟨fun hk => ?_, fun hl hk => exec_wrongLink hs (by omega) (.inl ⟨hl, hk⟩),
    fun hl hk hm => exec_wrongLink hs hm (.inr ⟨hl, hk⟩), fun hk hu => ?_,
    fun hr hm hp => exec_badLength hs hm hr hp, fun f hk hp hf => ⟨fun hl => ?_, fun hl hlen => ?_⟩,
    fun f j hl hp hj hd => ⟨fun hk hc => ?_, fun hk => ?_⟩, fun hk => ?_⟩
  · obtain ⟨d, he, hd⟩ := exec_ofFrame (l := l) hk
    refine ⟨(d (s.popFrame l)).1.drain, _, _, by rw [he, serve_ready hs], fun ha hb => ?_⟩
    have hkept := hd _ hn ha hb
    have hnotices : (d (s.popFrame l)).1.notices = [] := (congrArg State.notices hkept).trans hn
    have hfree : (s.popFrame l).freeCount = s.freeCount := by simp [State.popFrame]
    rw [drain_of_no_notices hnotices, ← hfree, hkept]
  · rw [exec_unknownKind (unknown_ofFrame hk hu), serve_of_decision hs rfl]
  · exact exec_setMode_refused hs hk hp hf (by subst hl; rfl)
  · have hneeds : kindNeeds x.kind.toNat x.payload = 4 := by rw [hk]; rfl
    have hlen4 : x.payload.length ≠ 4 := hneeds ▸ hlen
    exact exec_setMode_refused hs hk hp hf (by subst hl; simp [setModeResult, Owner.allows, fixedLen, hlen4])
  · have hr : requestRule (Instr.ofFrame l x) = some ⟨.slOnly, 2, decideIsolate x.payload⟩ := by
      simp [Instr.ofFrame, hk, requestRule]
    refine exec_refused hs hr ((run_decides (by rw [hl]; rfl) (by rw [hp]; rfl) _).trans ?_)
    rw [hp]
    exact decideIsolate_noState (by rw [isFitted_of (popFrame_config s l), hj]) (by simpa [State.door] using hd)
      (by simpa using hc)
  · have hr : requestRule (Instr.ofFrame l x) = some ⟨.slOnly, 2, decideDoorReset x.payload⟩ := by
      simp [Instr.ofFrame, hk, requestRule]
    refine exec_refused hs hr ((run_decides (by rw [hl]; rfl) (by rw [hp]; rfl) _).trans ?_)
    rw [hp]
    exact decideDoorReset_noState (by rw [isFitted_of (popFrame_config s l), hj]) (by simpa [State.door] using hd)
  · rw [exec, execNonRequestFrame, dropFrame_ready hs hk]

end Sys2Proof.Machine
end

section
/-! SUPPORT. Commands of one face: what an event of a face leaves outside it, and what a request that names a face leaves of the
other one. -/

namespace Sys2Proof.Machine

/-! ### Events of a face -/

/-- Everything outside a face but the readings of the two counters, the phases and the drives sent out, which are put to those of
`s` (log 3, log 5). -/
def State.awayFrom (f : Face) (s x : State) : State :=
  State.outside f { x with
    msClock := s.msClock, usClock := s.usClock, usPhase := s.usPhase, scanPhase := s.scanPhase, fieldOut := s.fieldOut }

variable {f : Face} {s : State}

/-- What lies away from a face reads the outside of the face alone. -/
theorem awayFrom_of_outside {x y : State} (h : y.outside f = x.outside f) : s.awayFrom f y = s.awayFrom f x := by
  refine outside_eq_of (s.awayFrom f) (fun x => ?_) h
  cases f <;> simp [State.awayFrom, State.outside, LinkState.rxSide]

theorem awayFrom_clock (x : State) (a : Ms) (b : Us) (c : Nat) (d : Vector Drives 64) (q : Fin 1000) :
    s.awayFrom f { x with msClock := a, usClock := b, usPhase := q, scanPhase := c, fieldOut := d } = s.awayFrom f x := rfl

theorem awayFrom_self : s.awayFrom f s = s.outside f := rfl

/-- The notices of a state that is as another away from a face are of the face where those of the other are. -/
theorem notices_of_awayFrom {x : State} (hn : s.notices = []) (h : s.awayFrom f x = s.awayFrom f s) :
    ∀ n ∈ x.notices, n.face = f := by
  have a : x.notices.filter (fun n => n.face ≠ f) = s.notices.filter (fun n => n.face ≠ f) := congrArg State.notices h
  simpa [hn] using a

/-- An event whose operation leaves everything away from a face leaves it so when the engines have been told (log 10). -/
theorem event_awayFrom {op : State → State} {t : State} (hn : s.notices = []) (h : s.awayFrom f (op s) = s.awayFrom f s)
    (ht : s.event op = .next t) : s.awayFrom f t = s.outside f := by
  unfold State.event at ht
  obtain rfl := Host.Outcome.next.inj ht
  split
  · rw [awayFrom_of_outside (drain_outside (op s) f (notices_of_awayFrom hn h)), h, awayFrom_self]
  · exact awayFrom_self

/-- The expiry of a timer of a face leaves all away from the face. -/
theorem expiry_awayFrom {op : State → State} (h : ∀ x : State, (op x).outside f = x.outside f) (o : Option Timer) (x : State) :
    s.awayFrom f (x.expiry o op) = s.awayFrom f x :=
  expiry_keeps (s.awayFrom f) awayFrom_clock o (fun x => awayFrom_of_outside (h x)) x

/-- A beam change of a face leaves all away from the face. -/
theorem beamChange_awayFrom {op : State → State} (h : ∀ x : State, (op x).outside f = x.outside f) (held v : Bool) (a : Us)
    (x : State) : s.awayFrom f (x.beamChange held v a op) = s.awayFrom f x :=
  beamChange_keeps (s.awayFrom f) awayFrom_clock held v a (fun x => awayFrom_of_outside (h x)) x

/-- An event of a face leaves everything outside the face, but for the counters it may bring on (log 3, log 5). -/
theorem eventFace_awayFrom {c : Instr} {t : State} (hc : eventFace c = some f) (hn : s.notices = [])
    (ht : exec c s = .next t) : s.awayFrom f t = s.outside f := by
  cases c <;> cases hc
  case doorInputChange j v =>
    refine event_awayFrom hn ?_ ht
    split <;> exact awayFrom_of_outside (by simp)
  case sensingInputChange j v =>
    refine event_awayFrom hn ?_ ht
    split <;> exact awayFrom_of_outside (by simp)
  case unlatchSettleExpiry j =>
    refine event_awayFrom hn ?_ ht
    split
    · exact expiry_awayFrom (fun x => openEntry_outside x f j) _ _
    · rfl
  case recloseDelayExpiry j =>
    refine event_awayFrom hn ?_ ht
    split
    · exact expiry_awayFrom (fun x => enter_outside x f j _ _) _ _
    · rfl
  case doorTimeoutExpiry j =>
    have ht : execDoorTimeoutExpiry f j s = .next t := ht
    unfold execDoorTimeoutExpiry at ht
    refine event_awayFrom hn ?_ ht
    split
    · rfl
    · exact expiry_awayFrom (fun x => enterFault_outside x f j _) _ _
  case spacingHoldExpiry g => exact event_awayFrom hn (expiry_awayFrom (fun x => by simp) _ _) ht
  case historySlotEmptied g i => exact event_awayFrom hn (expiry_awayFrom (fun x => by simp) _ _) ht
  case quietTimerExpiry =>
    refine event_awayFrom hn (expiry_awayFrom (fun x => ?_) _ _) ht
    dsimp only
    split <;> simp
  case deferralTimerExpiry j => exact event_awayFrom hn (expiry_awayFrom (fun x => deferralExpired_outside x f j) _ _) ht
  case clearingTimerExpiry j => exact event_awayFrom hn (expiry_awayFrom (fun x => clearingExpired_outside x f j) _ _) ht
  case ab1Change v a => exact event_awayFrom hn (beamChange_awayFrom (fun x => ab1Changed_outside x f v) _ _ _ _) ht
  case ab2Change v a => exact event_awayFrom hn (beamChange_awayFrom (fun x => ab2Changed_outside x f v) _ _ _ _) ht
  case swBeamChange i v a => exact event_awayFrom hn (beamChange_awayFrom (fun x => swChanged_outside x f i v) _ _ _ _) ht
  case approachTimerExpiry =>
    refine event_awayFrom hn ?_ ht
    split
    · exact expiry_awayFrom (fun x => approachOver_outside x f) _ _
    · rfl
  case settleTimerExpiry =>
    refine event_awayFrom hn ?_ ht
    split
    · exact expiry_awayFrom (fun x => enterStopped_outside x f _) _ _
    · rfl
  case postingTimerExpiry => exact event_awayFrom hn (expiry_awayFrom (fun x => issuePosted_outside x f) _ _) ht
  case keyswitchChange pos => exact event_awayFrom hn (awayFrom_of_outside (keyAccepted_outside s f pos)) ht
  case eoiChange v => exact event_awayFrom hn (awayFrom_of_outside (eoiAccepted_outside s f v)) ht
  case limitTimerExpiry => exact event_awayFrom hn (expiry_awayFrom (fun x => limitOver_outside x f) _ _) ht
  case holdTimerExpiry => exact event_awayFrom hn (expiry_awayFrom (fun x => holdOver_outside x f) _ _) ht

/-! ### Requests that name a face -/

/-- What a command of one face may not touch of another: its units, and the notices that are about no unit of the first. -/
def State.across (f g : Face) (x : State) : FaceState × List Notice := (x.face g, x.notices.filter (fun n => n.face ≠ f))

section Across
variable {g : Face}

theorem across_of_outside (hg : g ≠ f) {x y : State} (h : y.outside f = x.outside f) : y.across f g = x.across f g := by
  refine outside_eq_of (State.across f g) (fun x => ?_) h
  cases f <;> cases g <;> simp [State.across, State.outside, State.face] at hg ⊢

theorem across_mapLink (x : State) (l : Link) (h : LinkState → LinkState) : (x.mapLink l h).across f g = x.across f g := by
  simp [State.across]

theorem across_mapConfig (x : State) (h : WorkingCopy → WorkingCopy) : (x.mapConfig h).across f g = x.across f g := by
  simp [State.across]

theorem across_silence (x : State) (a : Option Timer) (b : Bool) :
    State.across f g { x with silence := a, ilLost := b } = x.across f g := by cases g <;> rfl

theorem notices_of_across {x y : State} (hx : ∀ n ∈ x.notices, n.face = f) (h : y.across f g = x.across f g) :
    ∀ n ∈ y.notices, n.face = f := by
  have a : y.notices.filter (fun n => n.face ≠ f) = x.notices.filter (fun n => n.face ≠ f) := congrArg Prod.snd h
  have b : x.notices.filter (fun n => n.face ≠ f) = [] := by simpa using hx
  rw [b] at a
  simpa using a

theorem drain_across (hg : g ≠ f) {x : State} (hx : ∀ n ∈ x.notices, n.face = f) : x.drain.across f g = x.across f g :=
  across_of_outside hg (drain_outside x f hx)

/-- A decision on one face, with nothing left to be told to another engine, leaves another face alone. -/
def KeepsAcross (f g : Face) (d : State → State × Reply) : Prop :=
  ∀ x : State, (∀ n ∈ x.notices, n.face = f) → (d x).1.across f g = x.across f g

/-- The taking and answering of a request leaves another face alone where its decision does. -/
theorem serve_across (hg : g ≠ f) {l : Link} {x : Frame} {d : State → State × Reply} (hd : KeepsAcross f g d)
    (hs : ∀ n ∈ s.notices, n.face = f) : (s.serve l x d).across f g = s.across f g := by
  have present : (s.present l x).across f g = s.across f g := by
    unfold State.present
    split
    · rfl
    · exact frameArrives_keeps (State.across f g) across_mapLink across_silence l x s
  have decided : (d ((s.present l x).popFrame l)).1.across f g = s.across f g := by
    have popped : ((s.present l x).popFrame l).across f g = s.across f g := (across_mapLink ..).trans present
    exact (hd _ (notices_of_across hs popped)).trans popped
  unfold State.serve
  split
  · dsimp only
    split
    · have told := (drain_across hg (notices_of_across hs decided)).trans decided
      refine (sendReply_keeps (State.across f g) across_mapLink ..).trans ?_
      unfold State.clearOverruns
      split
      · exact (across_mapLink ..).trans told
      · exact told
    · exact (drain_across hg (notices_of_across hs present)).trans present
  · rfl

theorem checked_across {o : Owner} {l : Link} {b : Bool} {d : State → State × Reply} (hd : KeepsAcross f g d) :
    KeepsAcross f g (checked o l b d) := by
  intro x hx
  unfold checked
  (repeat' split) <;> first
    | rfl
    | exact hd x hx

/-- A decision that leaves alone what is outside a face leaves another face alone. -/
theorem keepsAcross_of_outside (hg : g ≠ f) {d : State → State × Reply} (h : ∀ x, (d x).1.outside f = x.outside f) :
    KeepsAcross f g d := fun x _ => across_of_outside hg (h x)

end Across

/-! ### Decisions on the face that a payload names -/

section Decisions
variable {p : List Byte} (hp : faceOf (byteAt p 0) = some f)
include hp

theorem withFace_named (k : Face → State → State × Reply) (x : State) : withFace p k x = k f x := by simp [withFace, hp]

theorem withDoor_named (k : Face → DoorIx → State → State × Reply) (x : State) :
    withDoor p k x = refuse .badField x ∨ ∃ j, withDoor p k x = k f j x := by
  unfold withDoor
  rw [hp]
  split
  · next a j ha hj =>
    cases ha
    split
    · exact .inr ⟨j, rfl⟩
    · exact .inl rfl
  · exact .inl rfl

theorem decideArrival_outside (x : State) : (decideArrival p x).1.outside f = x.outside f := by
  rw [decideArrival, withFace_named hp]
  simp only [State.tryNotice]
  (repeat' split) <;> simp [refuse, accepted]

theorem decideRelease_outside (x : State) : (decideRelease p x).1.outside f = x.outside f := by
  rw [decideRelease, withFace_named hp]
  dsimp only
  simp only [refuse, accepted]
  (repeat' split) <;> simp

theorem decideWithdraw_outside (x : State) : (decideWithdraw p x).1.outside f = x.outside f := by
  rw [decideWithdraw, withFace_named hp]
  exact withdraw_outside x f

theorem decideAtRest_outside (x : State) : (decideAtRest p x).1.outside f = x.outside f := by
  rw [decideAtRest, withFace_named hp]
  split <;> simp [refuse, accepted]

theorem decideDeparted_outside (x : State) : (decideDeparted p x).1.outside f = x.outside f := by
  rw [decideDeparted, withFace_named hp]
  split <;> simp [refuse, accepted]

theorem decideGrant_outside (x : State) : (decideGrant p x).1.outside f = x.outside f := by
  rw [decideGrant, withFace_named hp]
  (repeat' split) <;> simp [refuse, accepted]

theorem decideRevoke_outside (x : State) : (decideRevoke p x).1.outside f = x.outside f := by
  rw [decideRevoke, withFace_named hp]
  exact revokePossession_outside x f 3

theorem decideDoorCommand_outside (x : State) : (decideDoorCommand p x).1.outside f = x.outside f := by
  rw [decideDoorCommand, withFace_named hp]
  simp only [State.commandOpen, State.commandClose]
  (repeat' split) <;> simp [refuse, acceptedWith]

theorem decideDoorReset_outside (x : State) : (decideDoorReset p x).1.outside f = x.outside f := by
  rw [decideDoorReset]
  rcases withDoor_named hp _ x with h | ⟨j, h⟩ <;> rw [h]
  · rfl
  · split <;> simp [refuse, accepted]

theorem decideAckGap_outside (x : State) : (decideAckGap p x).1.outside f = x.outside f := by
  rw [decideAckGap]
  rcases withDoor_named hp _ x with h | ⟨j, h⟩ <;> rw [h]
  · rfl
  · split <;> simp [refuse, accepted]

theorem decideFaceReset_outside (x : State) : (decideFaceReset p x).1.outside f = x.outside f := by
  rw [decideFaceReset, withFace_named hp]
  exact resetFace_outside x f

theorem decideBerthAck_outside (x : State) : (decideBerthAck p x).1.outside f = x.outside f := by
  rw [decideBerthAck, withFace_named hp]
  (repeat' split) <;> simp [refuse, accepted]

theorem decideEvacuate_outside (x : State) : (decideEvacuate p x).1.outside f = x.outside f := by
  rw [decideEvacuate, withFace_named hp]
  simp only [accepted]
  split <;> simp

theorem decideEmergencyClear_outside (x : State) : (decideEmergencyClear p x).1.outside f = x.outside f := by
  rw [decideEmergencyClear, withFace_named hp]
  simp only [refuse, accepted]
  (repeat' split) <;> simp

theorem decideStart_outside (x : State) : (decideStart p x).1.outside f = x.outside f := by
  rw [decideStart, withFace_named hp]
  (repeat' split) <;> simp [refuse, accepted]

theorem decideHalt_outside (x : State) : (decideHalt p x).1.outside f = x.outside f := by
  rw [decideHalt, withFace_named hp]
  exact haltProgram_outside x f

theorem decideResume_outside (x : State) : (decideResume p x).1.outside f = x.outside f := by
  rw [decideResume, withFace_named hp]
  (repeat' split) <;> simp [refuse, accepted]

theorem decideStep_outside (x : State) : (decideStep p x).1.outside f = x.outside f := by
  rw [decideStep, withFace_named hp]
  split <;> simp [refuse, accepted]

theorem decideClearErrors_outside (x : State) : (decideClearErrors p x).1.outside f = x.outside f := by
  rw [decideClearErrors, withFace_named hp]
  exact mapEngine_outside ..

theorem decideArm_outside (x : State) : (decideArm p x).1.outside f = x.outside f := by
  rw [decideArm, withFace_named hp]
  (repeat' split) <;> simp [refuse, accepted]

theorem decideDisarm_outside (x : State) : (decideDisarm p x).1.outside f = x.outside f := by
  rw [decideDisarm, withFace_named hp]
  exact mapEngine_outside ..

theorem setModeResult_outside (l : Link) (x : State) : (setModeResult l p x).1.outside f = x.outside f := by
  unfold setModeResult
  (repeat' split)
  · rfl
  · rfl
  · next a b c ha _ _ =>
    rw [hp] at ha
    cases ha
    simp only [State.trySetMode]
    (repeat' split) <;> simp
  · rfl

variable {g : Face} (hg : g ≠ f)
include hg

/-- ISOLATE writes the isolation map, and leaves another face alone. -/
theorem decideIsolate_across : KeepsAcross f g (decideIsolate p) := by
  intro x _
  rw [decideIsolate]
  rcases withDoor_named hp _ x with h | ⟨j, h⟩ <;> rw [h]
  · rfl
  · refine unlessCommit_keeps (State.across f g) fun x => ?_
    (repeat' split) <;> first
      | rfl
      | exact (across_of_outside hg (reportDoor_outside ..)).trans (across_mapConfig ..)

/-- RESTORE writes the isolation map, and leaves another face alone. -/
theorem decideRestore_across : KeepsAcross f g (decideRestore p) := by
  intro x _
  rw [decideRestore]
  rcases withDoor_named hp _ x with h | ⟨j, h⟩ <;> rw [h]
  · rfl
  · refine unlessCommit_keeps (State.across f g) fun x => ?_
    split <;> first
      | rfl
      | exact (across_of_outside hg (emergencyIfLocked_outside ..)).trans
          ((across_of_outside hg (reportDoor_outside ..)).trans (across_mapConfig ..))

/-- SET MODE tells the engine of its face before it takes its reply payload, and leaves another face alone. -/
theorem decideSetMode_across (l : Link) : KeepsAcross f g (decideSetMode l p) := by
  intro x hx
  have body : ∀ o (y : State), (y.modeBody o).1.across f g = y.across f g := fun o y => by cases o <;> cases g <;> rfl
  have result := across_of_outside hg (setModeResult_outside hp l x)
  rw [decideSetMode_eq, body]
  exact (drain_across hg (notices_of_across hx result)).trans result

/-- The rule of a request row that names a face decides on that face, and leaves another face alone. -/
theorem requestRule_across {i : Instr} {r : RequestRule} (hi : requestOnFace i = some p) (hr : requestRule i = some r) :
    KeepsAcross f g r.decide := by
  cases i <;> cases hi <;> cases hr
  case arrivalNotice => exact keepsAcross_of_outside hg (decideArrival_outside hp)
  case doorRelease => exact keepsAcross_of_outside hg (decideRelease_outside hp)
  case releaseWithdraw => exact keepsAcross_of_outside hg (decideWithdraw_outside hp)
  case trainAtRest => exact keepsAcross_of_outside hg (decideAtRest_outside hp)
  case departed => exact keepsAcross_of_outside hg (decideDeparted_outside hp)
  case possessionGrant => exact keepsAcross_of_outside hg (decideGrant_outside hp)
  case possessionRevoke => exact keepsAcross_of_outside hg (decideRevoke_outside hp)
  case doorCommandOpen => exact keepsAcross_of_outside hg (decideDoorCommand_outside hp)
  case doorCommandClose => exact keepsAcross_of_outside hg (decideDoorCommand_outside hp)
  case doorReset => exact keepsAcross_of_outside hg (decideDoorReset_outside hp)
  case ackGap => exact keepsAcross_of_outside hg (decideAckGap_outside hp)
  case faceReset => exact keepsAcross_of_outside hg (decideFaceReset_outside hp)
  case berthAck => exact keepsAcross_of_outside hg (decideBerthAck_outside hp)
  case evacuate => exact keepsAcross_of_outside hg (decideEvacuate_outside hp)
  case emergencyClear => exact keepsAcross_of_outside hg (decideEmergencyClear_outside hp)
  case startProgram => exact keepsAcross_of_outside hg (decideStart_outside hp)
  case haltProgram => exact keepsAcross_of_outside hg (decideHalt_outside hp)
  case resumeProgram => exact keepsAcross_of_outside hg (decideResume_outside hp)
  case stepProgram => exact keepsAcross_of_outside hg (decideStep_outside hp)
  case clearProgramErrors => exact keepsAcross_of_outside hg (decideClearErrors_outside hp)
  case armProgram => exact keepsAcross_of_outside hg (decideArm_outside hp)
  case disarmProgram => exact keepsAcross_of_outside hg (decideDisarm_outside hp)
  case isolate => exact decideIsolate_across hp hg
  case restore => exact decideRestore_across hp hg

end Decisions

/-- A request row that names a face is SET MODE or has a rule, and carries the payload that names the face. -/
theorem requestOnFace_row {c : Instr} {p : List Byte} (hc : requestOnFace c = some p) :
    (∃ l t, c = .setMode l t p) ∨ ∃ l x r, c.frame? = some (l, x) ∧ requestRule c = some r := by
  cases c <;> cases hc
  case setMode l t => exact .inl ⟨l, t, rfl⟩
  all_goals exact .inr ⟨_, _, _, rfl, rfl⟩

/-- A request that names a face leaves another face as it is. -/
theorem requestOnFace_face {c : Instr} {p : List Byte} {g : Face} {t : State} (hc : requestOnFace c = some p)
    (hp : faceOf (byteAt p 0) = some f) (hg : g ≠ f) (hn : s.notices = []) (ht : exec c s = .next t) :
    t.face g = s.face g := by
  have hs : ∀ n ∈ s.notices, n.face = f := by simp [hn]
  have served : ∀ {l : Link} {x : Frame} {d : State → State × Reply}, exec c s = .next (s.serve l x d) →
      KeepsAcross f g d → t.face g = s.face g := fun he hd => by
    obtain rfl := Host.Outcome.next.inj (ht.symm.trans he)
    exact congrArg Prod.fst (serve_across hg hd hs)
  rcases requestOnFace_row hc with ⟨l, k, rfl⟩ | ⟨l, x, r, hx, hr⟩
  · exact served (exec_setMode l k p s) (decideSetMode_across hp hg l)
  · exact served (exec_of_rule hr hx s) (checked_across (requestRule_across hp hg hc hr))

/-- Settles O6: an event of a face through its operation's outside, a request through the decision that its row's rule makes on
the face named. -/
theorem commandsOfAFaceStayInTheFace : Obligations.CommandsOfAFaceStayInTheFace :=
  ⟨fun _ _ _ _ hc hn ht => eventFace_awayFrom hc hn ht, fun _ _ _ _ _ _ hc hp hg hn ht => requestOnFace_face hc hp hg hn ht⟩

end Sys2Proof.Machine
end

section
/-! SUPPORT. The berth side of a face under the operations of the Berth Tracker, for a face whose engine does not run. -/

namespace Sys2Proof.Machine

variable (s : State) (f : Face)

/-! ### Events on a calm face -/

theorem calm_iff {s : State} {f : Face} :
    s.calm f = true ↔ s.powered = true ∧ s.notices = [] ∧ (s.face f).engine.running = false := by
  simp [State.calm, and_assoc]

/-- An event on a powered controller that leaves the engine of its face at rest ends there: what is left to be told is dropped,
and nothing else happens (log 10). -/
theorem event_calm {s v : State} {f : Face} {op : State → State} (hw : s.powered = true) (hv : v.notices = [])
    (ho : (op s).outside f = v.outside f) (he : ((op s).face f).engine.running = false) :
    ∃ t, s.event op = .next t ∧ t.face f = (op s).face f ∧ t.outside f = v.outside f := by
  have hn := notices_of_outside v f (by simp [hv]) ho
  have hd : (op s).drain = { op s with notices := [] } := drain_calm _ (fun x hx => by rw [hn x hx]; exact he)
  refine ⟨(op s).drain, by simp [State.event, hw], ?_, (drain_outside _ f hn).trans ho⟩
  rw [hd]
  cases f <;> rfl

theorem unit_of_face {s t : State} {f : Face} (h : t.face f = s.face f) (k : DoorIx) : t.unit f k = s.unit f k := by
  simp [State.unit, State.door, State.sense, h]

theorem group_of_face {s t : State} {f : Face} (h : t.face f = s.face f) (g : GroupIx) : t.group f g = s.group f g := by
  simp [State.group, h]

/-! ### The berth side under updates of the berth, the beams and the mode -/

theorem mapBerth_side (h : Berth → Berth) : (s.mapBerth f h).side f = { s.side f with berth := h (s.berth f) } := by
  cases f <;> rfl

theorem mapBeams_side (h : Beams → Beams) : (s.mapBeams f h).side f = { s.side f with beams := h (s.beams f) } := by
  cases f <;> rfl

theorem mapMode_side (h : ModeUnit → ModeUnit) : (s.mapMode f h).side f = { s.side f with mode := h (s.face f).mode } := by
  cases f <;> rfl

@[simp] theorem reportBerth_face (left : BerthState) (c : BerthCause) (g : Face) :
    (s.reportBerth f left c).face g = s.face g := by simp [State.reportBerth]

@[simp] theorem reportSlow_face (g : Face) : (s.reportSlow f).face g = s.face g := by simp [State.reportSlow]

@[simp] theorem reportMode_face (left : Mode) (c : Byte) (g : Face) : (s.reportMode f left c).face g = s.face g := by
  simp [State.reportMode]

theorem side_of_face {s t : State} {f : Face} (h : t.face f = s.face f) : t.side f = s.side f :=
  congrArg FaceState.berthSide h

theorem dropped_possession {m : ModeUnit} (h : m.possession = false) : { m with possession := false } = m := by
  rw [← h]

theorem revokePossession_none {s : State} {f : Face} (h : (s.face f).mode.possession = false) (c : Byte) :
    s.revokePossession f c = s := by simp [State.revokePossession, h]

/-- A revocation clears the possession flag, and nothing else of the berth side (R131). -/
theorem revokePossession_side (c : Byte) :
    (s.revokePossession f c).side f = { s.side f with mode := { (s.face f).mode with possession := false } } := by
  by_cases h : (s.face f).mode.possession = true
  · rw [State.revokePossession, if_pos h, side_of_face (reportMode_face ..), State.closeAll, requestEach_side,
      State.dropPossession, mapMode_side]
  · have h := Bool.eq_false_iff.mpr h
    rw [revokePossession_none h, dropped_possession h]
    rfl

/-- A change of berth state gives the record its fields, and loses possession on leaving EMPTY (R92, R131). -/
theorem moveBerth_side (st : BerthState) (c : BerthCause) (edit : Berth → Berth) :
    (s.moveBerth f st c edit).side f = { s.side f with
      berth := { edit (s.berth f) with state := st }
      mode := if (s.berth f).state = .empty ∧ st ≠ .empty then { (s.face f).mode with possession := false }
        else (s.face f).mode } := by
  have moved := (side_of_face
    (reportBerth_face (s.mapBerth f fun b => { edit b with state := st }) f (s.berth f).state c f)).trans (mapBerth_side s f _)
  simp only [State.moveBerth, recomputeClp_side]
  by_cases h : (s.berth f).state = .empty ∧ st ≠ .empty
  · rw [if_pos (by simpa using h), if_pos h, revokePossession_side, moved]
    simp
  · rw [if_neg (by simpa using h), if_neg h, moved]
    rfl

/-- Where no possession is lost, a change of berth state is the change, its report and the recomputation of CLP. -/
theorem moveBerth_noRevoke {s : State} {f : Face} {st : BerthState}
    (h : (s.face f).mode.possession = false ∨ (s.berth f).state ≠ .empty) (c : BerthCause) (edit : Berth → Berth) :
    s.moveBerth f st c edit =
      ((s.mapBerth f (fun b => { edit b with state := st })).reportBerth f (s.berth f).state c).recomputeClp f none := by
  simp only [State.moveBerth]
  split
  · next e =>
    have hp : (s.face f).mode.possession = false := h.resolve_right (fun n => n (by simp at e; exact e.1))
    rw [revokePossession_none (by simpa using hp)]
  · rfl

section NoRevoke
variable {s : State} {f : Face} {st : BerthState} (h : (s.face f).mode.possession = false ∨ (s.berth f).state ≠ .empty)
  (c : BerthCause) (edit : Berth → Berth)
include h

theorem moveBerth_doors : ((s.moveBerth f st c edit).face f).doors = (s.face f).doors := by
  rw [moveBerth_noRevoke h]
  simp

theorem moveBerth_unit (k : DoorIx) : (s.moveBerth f st c edit).unit f k = s.unit f k := by
  rw [moveBerth_noRevoke h, recomputeClp_unit, unit_of_face (reportBerth_face ..)]
  simp [State.unit, State.door, State.sense]

theorem moveBerth_group (g : GroupIx) : (s.moveBerth f st c edit).group f g = s.group f g := by
  rw [moveBerth_noRevoke h]
  simp [State.group]

end NoRevoke

/-! ### AB1 and the start of an approach (R81) -/

@[simp] theorem mapBeams_unit (h : Beams → Beams) (k : DoorIx) : (s.mapBeams f h).unit f k = s.unit f k := by cases f <;> rfl

@[simp] theorem mapBeams_group (h : Beams → Beams) (g : GroupIx) : (s.mapBeams f h).group f g = s.group f g := by
  cases f <;> rfl

theorem mapBeams_berth (h : Beams → Beams) : (s.mapBeams f h).berth f = s.berth f := by cases f <;> rfl

theorem mapBeams_mode (h : Beams → Beams) : ((s.mapBeams f h).face f).mode = (s.face f).mode := by cases f <;> rfl

section Approach
variable {s : State} {f : Face} (h : (s.berth f).state = .empty ∨ (s.berth f).state = .notified)
include h

/-- AB1 interrupted in EMPTY or NOTIFIED is the start of an approach. -/
theorem ab1Changed_approach :
    s.ab1Changed f true = (s.mapBeams f (fun b => { b with ab1 := true })).startApproach f := by
  simp [State.ab1Changed, h]

/-- What the start of an approach does to the berth side (R81, R131). -/
theorem ab1Changed_side : (s.ab1Changed f true).side f = { s.side f with
    beams := { s.beams f with ab1 := true }
    berth := { s.berth f with
      state := .approaching, ab1Time := some (s.beamReading, s.msClock)
      approachTimer := some ⟨s.msClock, (s.par f).approachLimit⟩ }
    mode := { (s.face f).mode with
      possession := (s.face f).mode.possession && (s.berth f).state = .notified } } := by
  have reading : ∀ g, (s.mapBeams f g).beamReading = s.beamReading := fun g => by cases f <;> rfl
  have clock : ∀ g, (s.mapBeams f g).msClock = s.msClock := fun g => by cases f <;> rfl
  have par : ∀ g, (s.mapBeams f g).par f = s.par f := fun g => by cases f <;> rfl
  rw [ab1Changed_approach h, State.startApproach, moveBerth_side, mapBeams_side, mapBeams_berth, mapBeams_mode, reading, clock,
    par, State.startTimer, clock]
  rcases h with h | h <;> simp [h]

theorem ab1Changed_unit (hp : (s.face f).mode.possession = false ∨ (s.berth f).state = .notified) (k : DoorIx) :
    (s.ab1Changed f true).unit f k = s.unit f k := by
  rw [ab1Changed_approach h, State.startApproach, moveBerth_unit, mapBeams_unit]
  rw [mapBeams_mode, mapBeams_berth]
  exact hp.imp_right (fun e => by simp [e])

theorem ab1Changed_group (hp : (s.face f).mode.possession = false ∨ (s.berth f).state = .notified) (g : GroupIx) :
    (s.ab1Changed f true).group f g = s.group f g := by
  rw [ab1Changed_approach h, State.startApproach, moveBerth_group, mapBeams_group]
  rw [mapBeams_mode, mapBeams_berth]
  exact hp.imp_right (fun e => by simp [e])

end Approach

/-! ### A posted open and the alignment result -/

/-- The record less a posted open and its timer, if one is held (R115). -/
def Berth.discard (b : Berth) : Berth := if b.posted.isSome then { b with posted := none, postingTimer := none } else b

@[simp] theorem discard_state (b : Berth) : b.discard.state = b.state := by unfold Berth.discard; split <;> rfl

@[simp] theorem discard_ab1Time (b : Berth) : b.discard.ab1Time = b.ab1Time := by unfold Berth.discard; split <;> rfl

@[simp] theorem discard_approachTimer (b : Berth) : b.discard.approachTimer = b.approachTimer := by
  unfold Berth.discard; split <;> rfl

@[simp] theorem discard_posted (b : Berth) : b.discard.posted = none := by
  unfold Berth.discard
  split
  · rfl
  · next h => simpa using h

/-- An engine that does not run hears nothing of a posted open that is lost. -/
theorem postedLost_calm {s : State} {f : Face} (h : (s.face f).engine.running = false) : s.postedLost f = s := by
  have : (s.face f).engine.state ≠ .acting := fun e => by simp [Engine.running, e] at h
  simp [State.postedLost, this]

/-- With an engine at rest, discarding a posted open takes it and its timer from the berth, if one is held (R115). -/
theorem discardPosted_face {s : State} {f : Face} (h : (s.face f).engine.running = false) (c : DiscardCause) :
    (s.discardPosted f c).face f = { s.face f with berth := (s.berth f).discard } := by
  unfold State.discardPosted Berth.discard
  split
  · next e => simp [e]; rfl
  · next p e =>
    have taken : ∀ d, (((s.mapBerth f (fun b => { b with posted := none, postingTimer := none })).report .berth .postedDiscarded
        f none d).face f) = { s.face f with berth := { s.berth f with posted := none, postingTimer := none } } := fun d => by
      rw [report_face, State.mapBerth, mapFace_face]
      rfl
    dsimp only
    split
    · rw [postedLost_calm (by rw [taken]; exact h), taken]
      simp [e]
    · rw [taken]
      simp [e]

theorem discardPosted_side {s : State} {f : Face} (h : (s.face f).engine.running = false) (c : DiscardCause) :
    (s.discardPosted f c).side f = { s.side f with berth := (s.berth f).discard } :=
  congrArg FaceState.berthSide (discardPosted_face h c)

theorem setQuiet_face (v : Bool) : (s.setQuiet f v).face f = { s.face f with quiet := v } := by
  unfold State.setQuiet
  split
  · next e => rw [← e]
  · rw [tell_face, mapFace_face]

/-- Clearing the alignment result ends the quiet condition, and changes nothing else of the face (R46, R95). -/
theorem clearAlign_face :
    (s.clearAlign f).face f = { s.face f with align := Alignment.blank, quietTimer := none, quiet := false } := by
  rw [State.clearAlign, State.stopQuiet, setQuiet_face, mapFace_face, State.setAlign, mapFace_face]

theorem clearAlign_side :
    (s.clearAlign f).side f = { s.side f with align := Alignment.blank, quietTimer := none, quiet := false } :=
  congrArg FaceState.berthSide (clearAlign_face s f)

/-! ### Disarming every gap zone (R53) -/

theorem zone_of_unit {s t : State} {f : Face} {k : DoorIx} (h : t.unit f k = s.unit f k) :
    (t.sense f k).zone = (s.sense f k).zone := congrArg (fun u => u.2.zone) h

theorem leaveZone_zone (j : DoorIx) (z : Zone) (o : EpisodeOutcome) : ((s.leaveZone f j z o).sense f j).zone = z := by
  have put : ∀ (x : State), ((x.putZone f j z).sense f j).zone = z := fun x => by
    simp [State.putZone, State.sense, State.mapSense]
  simp only [State.leaveZone]
  rw [zone_of_unit (recomputeClp_unit ..)]
  split
  · exact put s
  · next e =>
    rw [State.reportGap, zone_of_unit (report_unit ..)]
    have kept : ∀ x : State, ((x.mapSense f j (fun d => { d with episode := none })).sense f j).zone = (x.sense f j).zone :=
      fun x => by simp [State.sense, State.mapSense]
    rw [kept, put]

theorem disarmZone_zone (j k : DoorIx) :
    ((s.disarmZone f j).sense f k).zone = if k = j then .idle else (s.sense f k).zone := by
  unfold State.disarmZone
  split_ifs with hz hk hk
  · rw [hk, hz]
  · rfl
  · rw [hk, leaveZone_zone]
  · exact zone_of_unit (leaveZone_unit s f .idle .disarmed hk)

/-- After the zones of some door units have been disarmed, each of them is idle, and the others are as they were. -/
theorem forEach_disarmZone_zone (js : List DoorIx) (k : DoorIx) :
    ((forEach js (State.disarmZone f) s).sense f k).zone = if k ∈ js then .idle else (s.sense f k).zone := by
  induction js generalizing s with
  | nil => simp [forEach]
  | cons j js ih =>
    have step := ih (s.disarmZone f j)
    rw [disarmZone_zone] at step
    refine step.trans ?_
    by_cases hj : k = j <;> by_cases hs : k ∈ js <;> simp [hj, hs]

theorem disarmAll_zone {k : DoorIx} (h : s.isFitted f k = true) : ((s.disarmAll f).sense f k).zone = .idle := by
  rw [State.disarmAll, forEach_disarmZone_zone, if_pos]
  simp [State.fitted, h]

@[simp] theorem disarmAll_side : (s.disarmAll f).side f = s.side f :=
  forEach_keeps (State.side f) _ (fun j x => disarmZone_side x f j f) _ s

@[simp] theorem disarmAll_doors : ((s.disarmAll f).face f).doors = (s.face f).doors :=
  forEach_keeps (fun x => (x.face f).doors) _ (fun j x => disarmZone_doors x f j f) _ s

/-! ### The end of an approach (R83) -/

section Over
variable {s : State} {f : Face} (ha : (s.berth f).state = .approaching)
include ha

/-- With a consist held the end of an approach is the change to NOTIFIED and the SLOW_APPROACH report. -/
theorem approachOver_consist (hc : (s.berth f).consist.isSome = true) :
    (s.approachOver f).side f = { s.side f with berth := { s.berth f with
        state := .notified, ab1Time := none, ab2Time := none, speed := none, predicted := none, approachTimer := none } }
      ∧ (∀ k, (s.approachOver f).unit f k = s.unit f k) ∧ ((s.approachOver f).face f).doors = (s.face f).doors := by
  have hne : (s.face f).mode.possession = false ∨ (s.berth f).state ≠ .empty := .inr (by simp [ha])
  simp only [State.approachOver, if_pos hc]
  refine ⟨?_, fun k => ?_, ?_⟩
  · rw [side_of_face (reportSlow_face ..), moveBerth_side]
    simp [ha]
    rfl
  · rw [unit_of_face (reportSlow_face ..), moveBerth_unit hne]
  · rw [reportSlow_face, moveBerth_doors hne]

/-- Without a consist the berth enters EMPTY: the record is emptied, the posted open discarded, the alignment result cleared
and every gap zone disarmed (R83, R90). -/
theorem approachOver_noConsist (he : (s.face f).engine.running = false) (hc : (s.berth f).consist = none) :
    (s.approachOver f).side f = { s.side f with
        berth := Berth.discard { (s.berth f).emptied with state := .empty }
        align := Alignment.blank, quietTimer := none, quiet := false }
      ∧ ((s.approachOver f).face f).doors = (s.face f).doors
      ∧ ∀ j, s.isFitted f j = true → ((s.approachOver f).sense f j).zone = .idle := by
  have hne : (s.face f).mode.possession = false ∨ (s.berth f).state ≠ .empty := .inr (by simp [ha])
  have moved : (s.moveBerth f .empty .approachLimit Berth.emptied).side f =
      { s.side f with berth := { (s.berth f).emptied with state := .empty } } := by
    rw [moveBerth_side]
    simp [ha]
    rfl
  have resting : ((s.moveBerth f .empty .approachLimit Berth.emptied).face f).engine.running = false :=
    (congrArg (fun x => x.engine.running) moved).trans he
  simp only [State.approachOver, hc, Option.isSome_none, Bool.false_eq_true, if_false, State.enterEmpty]
  refine ⟨?_, ?_, fun j hj => ?_⟩
  · have record : (s.moveBerth f .empty .approachLimit Berth.emptied).berth f = { (s.berth f).emptied with state := .empty } :=
      congrArg FaceState.berth moved
    rw [side_of_face (reportSlow_face ..), disarmAll_side, clearAlign_side, discardPosted_side resting, record, moved]
  · rw [reportSlow_face, disarmAll_doors, clearAlign_face, discardPosted_face resting]
    exact moveBerth_doors hne ..
  · have config :
        (((s.moveBerth f .empty .approachLimit Berth.emptied).discardPosted f .berth).clearAlign f).config = s.config :=
      outside_eq_of (f := f) State.config (fun _ => rfl) (by simp)
    rw [zone_of_unit (unit_of_face (reportSlow_face ..) j), disarmAll_zone]
    rw [isFitted_of config, hj]

end Over

/-! ### The obligation -/

/-- AB1 interrupted in EMPTY or NOTIFIED on a calm face, as the event that is accepted 500 µs later (R78, R81). -/
theorem exec_ab1_approach {f : Face} {a : Us} {s : State} (hs : s.calm f = true) (hb : (s.beams f).ab1 = false)
    (hst : (s.berth f).state = .empty ∨ (s.berth f).state = .notified) :
    let u := s.reachMicros (a + 500#32)
    ∃ t, exec (.ab1Change f true a) s = .next t ∧ t.face f = (u.ab1Changed f true).face f ∧ t.outside f = u.outside f := by
  obtain ⟨hw, hn, he⟩ := calm_iff.mp hs
  have hface : (s.reachMicros (a + 500#32)).face f = s.face f := reachMicros_face ..
  have taken : s.beamChange (s.beams f).ab1 true a (State.ab1Changed f true) =
      (s.reachMicros (a + 500#32)).ab1Changed f true := by
    rw [State.beamChange, hb]
    rfl
  have side := ab1Changed_side (s := s.reachMicros (a + 500#32)) (f := f) (by rwa [State.berth, hface])
  have resting : (((s.reachMicros (a + 500#32)).ab1Changed f true).face f).engine.running = false :=
    (congrArg (fun x => x.engine.running) side).trans ((congrArg (fun x => x.engine.running) hface).trans he)
  rw [← taken] at resting
  have out : (s.beamChange (s.beams f).ab1 true a (State.ab1Changed f true)).outside f =
      (s.reachMicros (a + 500#32)).outside f := by rw [taken, ab1Changed_outside]
  obtain ⟨t, ht, hf, ho⟩ := event_calm (op := fun s => s.beamChange (s.beams f).ab1 true a (State.ab1Changed f true)) hw
    (by simpa using hn) out resting
  exact ⟨t, ht, hf.trans (congrArg (fun x => x.face f) taken), ho⟩

/-- The approach timer expires in APPROACHING on a calm face (R83). -/
theorem exec_approachTimer {f : Face} {s : State} {m : Timer} (hs : s.calm f = true) (ha : (s.berth f).state = .approaching)
    (hm : (s.berth f).approachTimer = some m) (hdue : m.due s.msClock = true) :
    ∃ t, exec (.approachTimerExpiry f) s = .next t ∧ t.face f = (s.approachOver f).face f ∧ t.outside f = s.outside f := by
  obtain ⟨hw, hn, he⟩ := calm_iff.mp hs
  have engine : ((s.approachOver f).face f).engine = (s.face f).engine := by
    cases hc : (s.berth f).consist with
    | none => exact (congrArg FaceState.engine (approachOver_noConsist ha he hc).1 :)
    | some c => exact (congrArg FaceState.engine (approachOver_consist ha (by rw [hc]; rfl)).1 :)
  have taken : (if (s.berth f).state = .approaching then s.expiry (s.berth f).approachTimer (State.approachOver f) else s) =
      s.approachOver f := by rw [if_pos ha, hm, State.expiry, State.reach, if_pos hdue]
  have out : (s.approachOver f).outside f = s.outside f := approachOver_outside s f
  rw [← taken] at out engine
  obtain ⟨t, ht, hf, ho⟩ := event_calm
    (op := fun s => if (s.berth f).state = .approaching then s.expiry (s.berth f).approachTimer (State.approachOver f) else s)
    hw hn out (by rw [engine, he])
  exact ⟨t, ht, hf.trans (congrArg (fun x => x.face f) taken), ho⟩

/-- Settles O20: the berth side after the start of an approach and after its end, told to an engine that does not run. -/
theorem approachStartsAndIsAbandoned : Obligations.ApproachStartsAndIsAbandoned := by
  refine ⟨fun f a s hs hb hst => ⟨reachMicros_usClock .., ?_⟩, fun f s m hs ha hm hdue => ?_⟩
  · obtain ⟨t, ht, hf, ho⟩ := exec_ab1_approach (a := a) hs hb hst
    have hface : (s.reachMicros (a + 500#32)).face f = s.face f := reachMicros_face ..
    have hst' : ((s.reachMicros (a + 500#32)).berth f).state = .empty ∨
        ((s.reachMicros (a + 500#32)).berth f).state = .notified := by
      rwa [State.berth, hface]
    have side := (side_of_face hf).trans (ab1Changed_side hst')
    have reading : (s.reachMicros (a + 500#32)).beamReading = a := reachMicros_beamReading s a
    rw [side_of_face hface, State.berth, State.beams, hface, reading, par_of (reachMicros_config s _)] at side
    refine ⟨t, ht, (congrArg FaceState.berth side :), (congrArg FaceState.beams side :), (congrArg FaceState.mode side :),
      (congrArg FaceState.align side :), ho, fun hp k => ⟨?_, fun g => ?_⟩⟩
    · rw [unit_of_face hf, ab1Changed_unit hst' (by rwa [State.berth, hface]), unit_of_face hface]
    · rw [group_of_face hf, ab1Changed_group hst' (by rwa [State.berth, hface]), group_of_face hface]
  · obtain ⟨t, ht, hf, ho⟩ := exec_approachTimer hs ha hm hdue
    have he := (calm_iff.mp hs).2.2
    cases hc : (s.berth f).consist with
    | some c =>
      obtain ⟨hside, hunit, hdoors⟩ := approachOver_consist ha (by rw [hc]; rfl)
      have side := (side_of_face hf).trans hside
      exact ⟨t, ht, fun _ => ⟨(congrArg FaceState.berth side :), fun k => (unit_of_face hf k).trans (hunit k),
        (congrArg FaceState.align side :)⟩, fun hno => (by cases hno), (congrArg FaceState.doors hf).trans hdoors,
        (congrArg FaceState.beams side :), (congrArg FaceState.mode side :), ho⟩
    | none =>
      obtain ⟨hside, hdoors, hzone⟩ := approachOver_noConsist ha he hc
      have side := (side_of_face hf).trans hside
      have berth : t.berth f = _ := (congrArg FaceState.berth side :)
      refine ⟨t, ht, fun hsome => (by cases hsome), fun _ => ?_, (congrArg FaceState.doors hf).trans hdoors,
        (congrArg FaceState.beams side :), (congrArg FaceState.mode side :), ho⟩
      rw [berth]
      exact ⟨discard_state _, discard_ab1Time _, discard_approachTimer _, discard_posted _, (congrArg FaceState.align side :),
        fun j hj => (zone_of_unit (unit_of_face hf j)).trans (hzone j hj)⟩

end Sys2Proof.Machine
end

section
/-! SUPPORT. The door side of a face: what its door units, deferrals and Start Queues are, the moves that the operations make
of it, and the operations that leave it as it is. -/

namespace Sys2Proof.Machine

/-! ### The door side -/

/-- The door units of a face with what the laws of them read: the settings and the latch that no operation on a door unit
changes, and the records, deferrals and Start Queues that it does. -/
@[ext] structure DoorSide where
  fitted : DoorIx → Bool
  isolated : DoorIx → Bool
  groupOf : DoorIx → GroupIx
  par : Params
  scanDone : Bool
  latch : Bool
  record : DoorIx → DoorRec
  deferral : DoorIx → Option Timer
  queue : GroupIx → List Entry

/-- The door side of a face of a state. -/
def State.doorSide (f : Face) (s : State) : DoorSide where
  fitted := s.isFitted f
  isolated := s.isolated f
  groupOf := s.groupOf f
  par := s.par f
  scanDone := s.scanDone
  latch := (s.face f).mode.latch
  record := s.door f
  deferral := fun k => (s.sense f k).deferral
  queue := fun p => (s.group f p).queue

/-- The door side is read from the configuration, the scan state, the latch, and the records, deferrals and queues. -/
theorem doorSide_eq {s t : State} {f : Face} {r : DoorIx → DoorRec} {d : DoorIx → Option Timer} {q : GroupIx → List Entry}
    (hc : t.config = s.config) (hd : t.scanDone = s.scanDone) (hm : (t.face f).mode.latch = (s.face f).mode.latch)
    (hr : ∀ k, t.door f k = r k) (hs : ∀ k, (t.sense f k).deferral = d k) (hq : ∀ p, (t.group f p).queue = q p) :
    t.doorSide f = { s.doorSide f with record := r, deferral := d, queue := q } := by
  simp only [State.doorSide, par_of hc, hd, hm, hs, hq, DoorSide.mk.injEq, and_true, true_and]
  exact ⟨funext (isFitted_of hc f), funext (isolated_of hc f), funext (groupOf_of hc f), funext hr⟩

theorem doorSide_of {s t : State} {f : Face} (hc : t.config = s.config) (hd : t.scanDone = s.scanDone)
    (hm : (t.face f).mode.latch = (s.face f).mode.latch) (hr : ∀ k, t.door f k = s.door f k)
    (hs : ∀ k, (t.sense f k).deferral = (s.sense f k).deferral)
    (hq : ∀ p, (t.group f p).queue = (s.group f p).queue) : t.doorSide f = s.doorSide f := doorSide_eq hc hd hm hr hs hq

/-- A state whose units and groups are those of another, with the same settings and mode, has its door side. -/
theorem doorSide_of_units {s t : State} {f : Face} (ho : t.outside f = s.outside f) (hm : t.side f = s.side f)
    (hu : ∀ k, t.unit f k = s.unit f k) (hq : ∀ p, (t.group f p).queue = (s.group f p).queue) :
    t.doorSide f = s.doorSide f :=
  doorSide_of (outside_eq_of State.config (fun _ => rfl) ho) (outside_eq_of State.scanDone (fun _ => rfl) ho)
    (congrArg (fun x => x.mode.latch) hm :) (fun k => congrArg Prod.fst (hu k))
    (fun k => congrArg (fun x => x.2.deferral) (hu k)) hq

/-- The other face keeps its door side where everything outside a face is kept. -/
theorem doorSide_of_outside {s t : State} {f g : Face} (hg : g ≠ f) (ho : t.outside f = s.outside f) :
    t.doorSide g = s.doorSide g := by
  have hf : t.face g = s.face g := by
    cases f <;> cases g <;> first | exact absurd rfl hg | skip
    · exact congrArg (fun x => x.f1) ho
    · exact congrArg (fun x => x.f0) ho
  refine doorSide_of (outside_eq_of State.config (fun _ => rfl) ho) (outside_eq_of State.scanDone (fun _ => rfl) ho)
    (by rw [hf]) (fun k => ?_) (fun k => ?_) (fun p => ?_) <;> simp only [State.door, State.sense, State.group, hf]

end Sys2Proof.Machine
end

section
namespace Sys2Proof.Machine

/-! ### The law of the Start Queues on a door side -/

/-- The law of the Start Queues (R30), read from the door side of the face. -/
structure DoorSide.QueueLaw (a : DoorSide) : Prop where
  nodup : ∀ p, ((a.queue p).map Entry.door).Nodup
  sorted : ∀ p, (a.queue p).Pairwise (fun x y => y.cls = .emergency → x.cls = .emergency)
  entry : ∀ p, ∀ e ∈ a.queue p, a.fitted e.door = true ∧ a.groupOf e.door = p ∧ a.isolated e.door = false ∧
    (e.motion = .open_ ∧ (a.record e.door).state = some .unlatched ∧ (a.record e.door).timer = none ∨
      e.motion = .close ∧ (a.record e.door).state = some .closeWait ∧ a.deferral e.door = none)
  deferred : ∀ j, (a.deferral j).isSome = true → (a.record j).state = some .closeWait
  fitted_of_state : ∀ j, (a.record j).state ≠ none → a.fitted j = true
  isolated_state : ∀ j, a.isolated j = true → (a.record j).state = none ∨ (a.record j).state = some .locked
    ∨ (a.record j).state = some .released ∨ (a.record j).state = some .fault
  unscanned : a.scanDone = false → ∀ j, (a.record j).state = none

theorem startQueueLaw_iff {s : State} {f : Face} : s.startQueueLaw f ↔ (s.doorSide f).QueueLaw := by
  constructor
  · rintro ⟨hq, hd⟩
    exact ⟨fun p => (hq p).1, fun p => (hq p).2.1, fun p => (hq p).2.2, fun j => (hd j).1, fun j => (hd j).2.1,
      fun j => (hd j).2.2.1, fun h j => (hd j).2.2.2 h⟩
  · rintro ⟨h1, h2, h3, h4, h5, h6, h7⟩
    exact ⟨fun p => ⟨h1 p, h2 p, h3 p⟩, fun j => ⟨h4 j, h5 j, h6 j, fun h => h7 h j⟩⟩

/-- A door unit holds no entry in the queue of its group. -/
def DoorSide.Free (a : DoorSide) (j : DoorIx) : Prop := ∀ e ∈ a.queue (a.groupOf j), e.door ≠ j

namespace DoorSide
variable {a b : DoorSide} {j k : DoorIx}

/-- A door unit that holds no entry in its own group holds none in any. -/
theorem QueueLaw.free_any (h : a.QueueLaw) (hj : a.Free j) (p : GroupIx) : ∀ e ∈ a.queue p, e.door ≠ j := by
  intro e he hd
  obtain ⟨-, hg, -⟩ := h.entry p e he
  rw [hd] at hg
  exact hj e (hg ▸ he) hd

/-- A door unit in neither UNLATCHED nor CLOSE_WAIT holds no entry. -/
theorem QueueLaw.free_of_state (h : a.QueueLaw) (hu : (a.record j).state ≠ some .unlatched)
    (hc : (a.record j).state ≠ some .closeWait) : a.Free j := by
  intro e he hd
  obtain ⟨-, -, -, hs⟩ := h.entry _ e he
  rw [hd] at hs
  rcases hs with ⟨-, hs, -⟩ | ⟨-, hs, -⟩
  · exact hu hs
  · exact hc hs

/-- A door unit whose unlatch_settle runs holds no entry (R10). -/
theorem QueueLaw.free_of_settling (h : a.QueueLaw) (hu : (a.record j).state = some .unlatched)
    (ht : (a.record j).timer.isSome = true) : a.Free j := by
  intro e he hd
  obtain ⟨-, -, -, hs⟩ := h.entry _ e he
  rw [hd] at hs
  rcases hs with ⟨-, -, hs⟩ | ⟨-, hs, -⟩
  · simp [hs] at ht
  · simp [hs] at hu

/-- A door unit whose deferral runs holds no entry (R12). -/
theorem QueueLaw.free_of_deferred (h : a.QueueLaw) (ht : (a.deferral j).isSome = true) : a.Free j := by
  intro e he hd
  have hc := h.deferred j ht
  obtain ⟨-, -, -, hs⟩ := h.entry _ e he
  rw [hd] at hs
  rcases hs with ⟨-, hs, -⟩ | ⟨-, -, hs⟩
  · simp [hs] at hc
  · simp [hs] at ht

theorem QueueLaw.scanned_of_state (h : a.QueueLaw) (hs : (a.record j).state ≠ none) : a.scanDone = true := by
  cases hd : a.scanDone with
  | true => rfl
  | false => exact absurd (h.unscanned hd j) hs

/-! ### The moves of a door side -/

/-- The states that a door unit may enter, with the record it enters them with, from the record it has: the rules of sections
1.3 to 1.7. In LOCKED, RELEASED, FAULT and OPEN nothing of the record is kept that a law speaks of. -/
inductive Enters (a : DoorSide) (j : DoorIx) (d : DoorRec) : DoorRec → DoorState → Prop where
  | locked (e : DoorRec) : Enters a j d e .locked
  | released (e : DoorRec) : Enters a j d e .released
  | fault (e : DoorRec) : Enters a j d e .fault
  | stands (e : DoorRec) (hi : a.isolated j = false) : Enters a j d e .standOpen
  | unlocks (c : ReqClass) (hi : a.isolated j = false) (h : d.state = some .locked ∨ d.state = some .locking) :
      Enters a j d (d.startOpen c) .unlatching
  | relocks (h : d.state = some .unlatched) : Enters a j d d .unlatching
  | unlatches (h : d.state = some .unlatching) : Enters a j d d .unlatched
  | opens (h : d.state = some .unlatched) : Enters a j d d .opening
  | waitsOpened (hp : d.pendingClose = true)
      (h : d.state = some .opening ∨ d.state = some .reversing ∧ d.reqClass.isSome = true) : Enters a j d d .closeWait
  | waitsAgain (h : d.state = some .recloseHold) : Enters a j d d .closeWait
  | waitsAsked (hl : a.latch = false) (h : d.state = some .standOpen) : Enters a j d d .closeWait
  | waitsObstructed (hl : a.latch = false) (h : d.state = some .obstructed) : Enters a j d { d with attempts := 0 } .closeWait
  | closes (h : d.state = some .closeWait) : Enters a j d d .closing
  | reverses (c : ReqClass) (h : d.state = some .closing) : Enters a j d (d.startOpen c) .reversing
  | obstructs (h : d.state = some .closing) :
      Enters a j d { d with attempts := d.attempts + 1, reqClass := none } .reversing
  | holds (h : d.state = some .reversing) (hc : d.reqClass = none) (hn : d.attempts < a.par.recloseMax) :
      Enters a j d d .recloseHold
  | givesUp (h : d.state = some .reversing) (hc : d.reqClass = none) (hn : ¬d.attempts < a.par.recloseMax) :
      Enters a j d d .obstructed
  | locks (h : d.state = some .closing) : Enters a j d d .locking
  | locksAsked (hl : a.latch = false) (h : d.state = some .unlatching ∨ d.state = some .unlatched) : Enters a j d d .locking
  | locksFound (x : Option FaultCause) (hl : a.latch = false) (hi : a.isolated j = false)
      (h : d.state = none ∨ d.state = some .released ∨ d.state = some .fault) : Enters a j d { d with cause := x } .locking

/-- What a request makes of a record whose door unit keeps its state (R17, R18). -/
inductive Asks (latch : Bool) (d : DoorRec) : DoorRec → Prop where
  | onTheWay (c : ReqClass) (h : d.state = some .unlatching ∨ d.state = some .unlatched ∨ d.state = some .opening) :
      Asks latch d (d.askOpen c)
  | standing (h : d.state = some .standOpen) : Asks latch d { d with pendingClose := false }
  | reversing (c : ReqClass) (h : d.state = some .reversing) : Asks latch d (d.askReverse c)
  | toClose (hl : latch = false) (h : d.state = some .opening ∨ d.state = some .reversing) :
      Asks latch d { d with pendingClose := true }

/-- The door side after a door unit has entered a state: its record, no deferral, and no entry (R7, R33, R49). -/
def enter (a : DoorSide) (j : DoorIx) (st : DoorState) (e : DoorRec) (now : Ms) : DoorSide := { a with
  record := Function.update a.record j (e.enter st now a.par)
  deferral := Function.update a.deferral j none
  queue := fun p => (a.queue p).filter (fun x => x.door ≠ j) }

/-- The door side after an entry has joined the queue of the group of a door unit (R31). -/
def place (a : DoorSide) (x : Entry) : DoorSide := { a with
  queue := Function.update a.queue (a.groupOf x.door) (joinQueue x (a.queue (a.groupOf x.door))) }

/-- One move of a door side. -/
inductive Move (a : DoorSide) : DoorSide → Prop where
  | enters (j : DoorIx) (st : DoorState) (e : DoorRec) (now : Ms) (hf : a.fitted j = true) (hs : a.scanDone = true)
      (h : a.Enters j (a.record j) e st) : Move a (a.enter j st e now)
  | asks (j : DoorIx) (e : DoorRec) (h : Asks a.latch (a.record j) e) :
      Move a { a with record := Function.update a.record j e }
  | placesOpen (j : DoorIx) (c : ReqClass) (now : Ms) (h : (a.record j).state = some .unlatched) (hj : a.Free j) :
      Move a (place { a with record := Function.update a.record j { a.record j with timer := none } } ⟨j, .open_, c, now⟩)
  | placesClose (j : DoorIx) (now : Ms) (h : (a.record j).state = some .closeWait) (hj : a.Free j) :
      Move a (place { a with deferral := Function.update a.deferral j none } ⟨j, .close, .normal, now⟩)
  | raises (x : Entry) (h : x ∈ a.queue (a.groupOf x.door)) : Move a (place { a with
      queue := Function.update a.queue (a.groupOf x.door)
        ((a.queue (a.groupOf x.door)).filter (fun y => y.door ≠ x.door)) } { x with cls := .emergency })
  | defers (j : DoorIx) (t : Timer) (h : (a.record j).state = some .closeWait) (hj : a.Free j) :
      Move a { a with deferral := Function.update a.deferral j (some t) }
  | settles (j : DoorIx) (t : Timer) (h : (a.record j).state = some .unlatched) (hj : a.Free j) :
      Move a { a with record := Function.update a.record j { a.record j with timer := some t } }
  | empties : Move a { a with queue := fun _ => [] }

/-- Moves one after the other. -/
abbrev Path : DoorSide → DoorSide → Prop := Relation.ReflTransGen Move

/-! ### The law of the Start Queues is kept -/

@[simp] theorem enter_state (d : DoorRec) (st : DoorState) (now : Ms) (p : Params) : (d.enter st now p).state = some st := rfl

/-- The states that an isolated door unit may enter are LOCKED, RELEASED and FAULT (R25). -/
theorem Enters.isolated_state {d e : DoorRec} {st : DoorState} (h : a.Enters j d e st) (hi : a.isolated j = true)
    (hd : d.state = none ∨ d.state = some .locked ∨ d.state = some .released ∨ d.state = some .fault) :
    st = .locked ∨ st = .released ∨ st = .fault := by
  rcases hd with hd | hd | hd | hd <;> cases h <;> simp_all

theorem mem_joinQueue {x y : Entry} {q : List Entry} : y ∈ joinQueue x q ↔ y = x ∨ y ∈ q := by
  unfold joinQueue
  split
  · simp [or_comm]
  · conv_rhs => rw [← List.takeWhile_append_dropWhile (p := fun x : Entry => decide (x.cls = .emergency)) (l := q)]
    simp only [List.mem_append, List.mem_cons]
    tauto

theorem joinQueue_perm (x : Entry) (q : List Entry) : (joinQueue x q).Perm (x :: q) := by
  unfold joinQueue
  split
  · exact List.perm_append_singleton x q
  · conv_rhs => rw [← List.takeWhile_append_dropWhile (p := fun x : Entry => decide (x.cls = .emergency)) (l := q)]
    exact List.perm_middle

/-- An entry that joins the tail of its class leaves EMERGENCY entries before NORMAL ones (R30, R31). -/
theorem joinQueue_sorted {x : Entry} {q : List Entry}
    (h : q.Pairwise (fun x y => y.cls = .emergency → x.cls = .emergency)) :
    (joinQueue x q).Pairwise (fun x y => y.cls = .emergency → x.cls = .emergency) := by
  unfold joinQueue
  split
  · next hx => exact List.pairwise_append.2 ⟨h, List.pairwise_singleton .., fun y _ z hz => by
      rw [List.mem_singleton.1 hz, hx]; intro hc; cases hc⟩
  · next hx =>
    rw [List.pairwise_append, List.pairwise_cons]
    have front : ∀ y ∈ q.takeWhile (fun x => decide (x.cls = .emergency)), y.cls = .emergency := fun y hy => by
      simpa using List.mem_takeWhile_imp hy
    exact ⟨h.sublist (List.takeWhile_sublist _), ⟨fun _ _ _ => hx, h.sublist (List.dropWhile_sublist _)⟩,
      fun y hy _ _ _ => front y hy⟩

/-- A queue joined by an entry of a door unit that holds none keeps the law where the entry meets it. -/
theorem QueueLaw.place (h : a.QueueLaw) {x : Entry} (hj : a.Free x.door) (hf : a.fitted x.door = true)
    (hi : a.isolated x.door = false)
    (hx : x.motion = .open_ ∧ (a.record x.door).state = some .unlatched ∧ (a.record x.door).timer = none ∨
      x.motion = .close ∧ (a.record x.door).state = some .closeWait ∧ a.deferral x.door = none) : (a.place x).QueueLaw where
  nodup p := by
    by_cases hp : p = a.groupOf x.door
    · subst hp
      simp only [DoorSide.place, Function.update_self]
      rw [((joinQueue_perm x _).map Entry.door).nodup_iff, List.map_cons, List.nodup_cons]
      refine ⟨fun hm => ?_, h.nodup _⟩
      obtain ⟨e, he, hd⟩ := List.mem_map.1 hm
      exact hj e he hd
    · simpa [DoorSide.place, hp] using h.nodup p
  sorted p := by
    by_cases hp : p = a.groupOf x.door
    · subst hp
      simpa [DoorSide.place] using joinQueue_sorted (h.sorted _)
    · simpa [DoorSide.place, hp] using h.sorted p
  entry p e he := by
    by_cases hp : p = a.groupOf x.door
    · subst hp
      simp only [DoorSide.place, Function.update_self, mem_joinQueue] at he
      rcases he with rfl | he
      · exact ⟨hf, rfl, hi, hx⟩
      · exact h.entry _ e he
    · simp only [DoorSide.place, Function.update_of_ne hp] at he
      exact h.entry p e he
  deferred := h.deferred
  fitted_of_state := h.fitted_of_state
  isolated_state := h.isolated_state
  unscanned := h.unscanned

/-- The law stays where a record changes neither its state nor its timer, or where its door unit holds no entry. -/
theorem QueueLaw.update_record (h : a.QueueLaw) {e : DoorRec} (hs : e.state = (a.record j).state)
    (ht : e.timer = (a.record j).timer ∨ a.Free j) : ({ a with record := Function.update a.record j e } : DoorSide).QueueLaw := by
  have state : ∀ k, (Function.update a.record j e k).state = (a.record k).state := fun k => by
    by_cases hk : k = j
    · subst hk; simpa using hs
    · simp [hk]
  refine ⟨h.nodup, h.sorted, fun p x hx => ?_, fun k hk => ?_, fun k hk => ?_, fun k hk => ?_, fun hd k => ?_⟩
  · obtain ⟨hf, hg, hi, hm⟩ := h.entry p x hx
    refine ⟨hf, hg, hi, ?_⟩
    have timer : (Function.update a.record j e x.door).timer = (a.record x.door).timer := by
      by_cases hk : x.door = j
      · rcases ht with ht | hj
        · rw [hk]; simpa using ht
        · exact absurd hk (h.free_any hj p x hx)
      · simp [hk]
    simpa only [state, timer] using hm
  all_goals simp only [state] at *
  · exact h.deferred k hk
  · exact h.fitted_of_state k hk
  · exact h.isolated_state k hk
  · exact h.unscanned hd k

theorem QueueLaw.update_deferral (h : a.QueueLaw) {o : Option Timer}
    (ho : o = none ∨ (a.record j).state = some .closeWait ∧ a.Free j) :
    ({ a with deferral := Function.update a.deferral j o } : DoorSide).QueueLaw := by
  refine ⟨h.nodup, h.sorted, fun p x hx => ?_, fun k hk => ?_, h.fitted_of_state, h.isolated_state, h.unscanned⟩
  · obtain ⟨hf, hg, hi, hm⟩ := h.entry p x hx
    refine ⟨hf, hg, hi, hm.imp_right fun ⟨hc, hs, hd⟩ => ⟨hc, hs, ?_⟩⟩
    by_cases hk : x.door = j
    · rcases ho with rfl | ⟨-, hj⟩
      · simp [hk]
      · exact absurd hk (h.free_any hj p x hx)
    · simpa [hk] using hd
  · by_cases hkj : k = j
    · subst hkj
      rcases ho with rfl | ⟨hs, -⟩
      · simp at hk
      · exact hs
    · exact h.deferred k (by simpa [hkj] using hk)

/-- The law stays where entries leave the queues. -/
theorem QueueLaw.sublist (h : a.QueueLaw) {q : GroupIx → List Entry} (hq : ∀ p, (q p).Sublist (a.queue p)) :
    ({ a with queue := q } : DoorSide).QueueLaw :=
  ⟨fun p => (h.nodup p).sublist ((hq p).map _), fun p => (h.sorted p).sublist (hq p),
    fun p e he => h.entry p e ((hq p).subset he), h.deferred, h.fitted_of_state, h.isolated_state, h.unscanned⟩

/-- A door unit that enters a state keeps the law (R25, R33, R49). -/
theorem QueueLaw.enter (h : a.QueueLaw) {st : DoorState} {e : DoorRec} (now : Ms) (hf : a.fitted j = true)
    (hs : a.scanDone = true) (he : a.Enters j (a.record j) e st) : (a.enter j st e now).QueueLaw := by
  have hq : ∀ p, ((a.queue p).filter (fun x => x.door ≠ j)).Sublist (a.queue p) := fun p => List.filter_sublist
  refine ⟨fun p => (h.nodup p).sublist ((hq p).map _), fun p => (h.sorted p).sublist (hq p), fun p x hx => ?_,
    fun k hk => ?_, fun k hk => ?_, fun k hk => ?_, fun hd k => ?_⟩
  · simp only [DoorSide.enter, List.mem_filter, decide_eq_true_eq] at hx
    simpa [DoorSide.enter, hx.2] using h.entry p x hx.1
  all_goals
    simp only [DoorSide.enter] at *
    rcases eq_or_ne k j with rfl | hkj
  · simp at hk
  · rw [Function.update_of_ne hkj] at *
    exact h.deferred k hk
  · exact hf
  · rw [Function.update_of_ne hkj] at hk
    exact h.fitted_of_state k hk
  · simpa using he.isolated_state hk (h.isolated_state k hk)
  · rw [Function.update_of_ne hkj]
    exact h.isolated_state k hk
  · rw [hs] at hd; cases hd
  · rw [Function.update_of_ne hkj]
    exact h.unscanned hd k

/-- A door unit in UNLATCHED or CLOSE_WAIT is fitted and not isolated. -/
theorem QueueLaw.served_of_state (h : a.QueueLaw)
    (hs : (a.record j).state = some .unlatched ∨ (a.record j).state = some .closeWait) :
    a.fitted j = true ∧ a.isolated j = false := by
  refine ⟨h.fitted_of_state j (by rcases hs with hs | hs <;> simp [hs]), ?_⟩
  cases hi : a.isolated j with
  | false => rfl
  | true =>
    rcases h.isolated_state j hi with hk | hk | hk | hk <;> rcases hs with hs | hs <;> rw [hk] at hs <;> cases hs

theorem Asks.state {l : Bool} {d e : DoorRec} (h : Asks l d e) : e.state = d.state := by cases h <;> rfl

theorem Asks.timer {l : Bool} {d e : DoorRec} (h : Asks l d e) : e.timer = d.timer := by cases h <;> rfl

/-- Every move keeps the law of the Start Queues. -/
theorem QueueLaw.move (h : a.QueueLaw) (m : a.Move b) : b.QueueLaw := by
  cases m with
  | enters j st e now hf hs he => exact h.enter now hf hs he
  | asks j e he => exact h.update_record he.state (.inl he.timer)
  | placesOpen j c now hu hj =>
    obtain ⟨hf, hi⟩ := h.served_of_state (.inl hu)
    exact (h.update_record (e := { a.record j with timer := none }) rfl (.inr hj)).place hj hf hi (by simp [hu])
  | placesClose j now hc hj =>
    obtain ⟨hf, hi⟩ := h.served_of_state (.inr hc)
    exact (h.update_deferral (.inl rfl)).place hj hf hi (by simp [hc])
  | raises x hx =>
    obtain ⟨hf, -, hi, hm⟩ := h.entry _ x hx
    refine (h.sublist fun p => ?_).place (x := { x with cls := .emergency }) (fun y hy => ?_) hf hi hm
    · by_cases hp : p = a.groupOf x.door
      · subst hp; simp
      · simp [hp]
    · simp only [Function.update_self, List.mem_filter, decide_eq_true_eq] at hy
      exact hy.2
  | defers j t hc hj => exact h.update_deferral (.inr ⟨hc, hj⟩)
  | settles j t hu hj => exact h.update_record rfl (.inr hj)
  | empties => exact h.sublist fun p => List.nil_sublist _

theorem QueueLaw.path (h : a.QueueLaw) (m : a.Path b) : b.QueueLaw := by
  induction m with
  | refl => exact h
  | tail _ m ih => exact ih.move m

end DoorSide
end Sys2Proof.Machine
end

section
namespace Sys2Proof.Machine
variable (s : State) (f : Face) (j : DoorIx)

/-! ### Operations that leave the door side as it is -/

theorem mapFace_doorSide (g : Face) (h : FaceState → FaceState) (hd : ∀ x, (h x).doors = x.doors)
    (hs : ∀ x (k : DoorIx), ((h x).sense[k]).deferral = (x.sense[k]).deferral)
    (hq : ∀ x (p : GroupIx), ((h x).groups[p]).queue = (x.groups[p]).queue)
    (hm : ∀ x, (h x).mode.latch = x.mode.latch) : (s.mapFace g h).doorSide f = s.doorSide f := by
  by_cases hg : f = g
  · subst hg
    exact doorSide_of (by simp) (by simp) (by simp [hm]) (fun k => by simp [State.door, hd])
      (fun k => by simpa [State.sense] using hs (s.face f) k) (fun p => by simpa [State.group] using hq (s.face f) p)
  · exact doorSide_of (by simp) (by simp) (by rw [mapFace_face_other _ _ _ _ hg])
      (fun k => by simp [State.door, mapFace_face_other _ _ _ _ hg])
      (fun k => by simp [State.sense, mapFace_face_other _ _ _ _ hg])
      (fun p => by simp [State.group, mapFace_face_other _ _ _ _ hg])

/-- What changes no face, no setting and no scan state changes no door side. -/
theorem doorSide_of_face {s t : State} {f : Face} (hc : t.config = s.config) (hd : t.scanDone = s.scanDone)
    (hf : t.face f = s.face f) : t.doorSide f = s.doorSide f :=
  doorSide_of hc hd (by rw [hf]) (fun k => by simp [State.door, hf]) (fun k => by simp [State.sense, hf])
    (fun p => by simp [State.group, hf])

@[simp] theorem tell_doorSide (n : Notice) : (s.tell n).doorSide f = s.doorSide f := doorSide_of_face rfl rfl (by simp)

@[simp] theorem mapLink_doorSide (l : Link) (h : LinkState → LinkState) : (s.mapLink l h).doorSide f = s.doorSide f :=
  doorSide_of_face (by simp) (by simp) (by simp)

@[simp] theorem report_doorSide (c : ReportClass) (k : ReportKind) (g : Face) (o : Option Nat) (d : List Byte) :
    (s.report c k g o d).doorSide f = s.doorSide f :=
  doorSide_of_face (outside_eq_of State.config (fun _ => rfl) (report_outside (f := f) ..))
    (outside_eq_of State.scanDone (fun _ => rfl) (report_outside (f := f) ..)) (by simp)

@[simp] theorem mapEngine_doorSide (g : Face) (h : Engine → Engine) : (s.mapEngine g h).doorSide f = s.doorSide f :=
  mapFace_doorSide s f g _ (fun _ => rfl) (fun _ _ => rfl) (fun _ _ => rfl) (fun _ => rfl)

@[simp] theorem mapBerth_doorSide (g : Face) (h : Berth → Berth) : (s.mapBerth g h).doorSide f = s.doorSide f :=
  mapFace_doorSide s f g _ (fun _ => rfl) (fun _ _ => rfl) (fun _ _ => rfl) (fun _ => rfl)

@[simp] theorem mapBeams_doorSide (g : Face) (h : Beams → Beams) : (s.mapBeams g h).doorSide f = s.doorSide f :=
  mapFace_doorSide s f g _ (fun _ => rfl) (fun _ _ => rfl) (fun _ _ => rfl) (fun _ => rfl)

@[simp] theorem setAlign_doorSide (g : Face) (a : Alignment) : (s.setAlign g a).doorSide f = s.doorSide f :=
  mapFace_doorSide s f g _ (fun _ => rfl) (fun _ _ => rfl) (fun _ _ => rfl) (fun _ => rfl)

@[simp] theorem mapInput_doorSide (g : Face) (h : DoorInputs → DoorInputs) :
    (s.mapInput g j h).doorSide f = s.doorSide f :=
  mapFace_doorSide s f g _ (fun _ => rfl) (fun _ _ => rfl) (fun _ _ => rfl) (fun _ => rfl)

theorem mapMode_doorSide (g : Face) (h : ModeUnit → ModeUnit) (hm : ∀ m, (h m).latch = m.latch) :
    (s.mapMode g h).doorSide f = s.doorSide f :=
  mapFace_doorSide s f g _ (fun _ => rfl) (fun _ _ => rfl) (fun _ _ => rfl) (fun x => hm x.mode)

theorem mapGroup_doorSide (g : Face) (p : GroupIx) (h : Group → Group) (hq : ∀ x, (h x).queue = x.queue) :
    (s.mapGroup g p h).doorSide f = s.doorSide f :=
  mapFace_doorSide s f g _ (fun _ => rfl) (fun _ _ => rfl) (fun x q => by
    by_cases e : q = p
    · subst e; simp [hq]
    · simp [put_get_other _ _ e]) (fun _ => rfl)

theorem mapSense_doorSide (g : Face) (h : DoorSense → DoorSense) (hd : ∀ x, (h x).deferral = x.deferral) :
    (s.mapSense g j h).doorSide f = s.doorSide f :=
  mapFace_doorSide s f g _ (fun _ => rfl) (fun x k => by
    by_cases e : k = j
    · subst e; simp [hd]
    · simp [put_get_other _ _ e]) (fun _ _ => rfl) (fun _ => rfl)

@[simp] theorem recomputeClp_doorSide (g : Face) (o : Option DoorIx) :
    (s.recomputeClp g o).doorSide f = s.doorSide f := by
  have clp : ∀ c, (s.mapFace g (fun x => { x with clp := c })).doorSide f = s.doorSide f := fun c =>
    mapFace_doorSide s f g _ (fun _ => rfl) (fun _ _ => rfl) (fun _ _ => rfl) (fun _ => rfl)
  simp only [State.recomputeClp]
  (repeat' split) <;> simp [clp]

@[simp] theorem recordStart_doorSide (g : Face) (p : GroupIx) : (s.recordStart g p).doorSide f = s.doorSide f :=
  mapGroup_doorSide s f g p _ (fun _ => rfl)

@[simp] theorem reportDoor_doorSide (g : Face) : (s.reportDoor g j).doorSide f = s.doorSide f := by simp [State.reportDoor]

@[simp] theorem reportGap_doorSide (c : ReportClass) (g : Face) (event what : Byte) (duration : Option Nat)
    (slot : Option (Fin 64)) : (s.reportGap c g j event what duration slot).doorSide f = s.doorSide f := by
  simp [State.reportGap]

@[simp] theorem putZone_doorSide (g : Face) (z : Zone) : (s.putZone g j z).doorSide f = s.doorSide f :=
  mapSense_doorSide s f j g _ (fun _ => rfl)

@[simp] theorem onset_doorSide (g : Face) : (s.onset g j).doorSide f = s.doorSide f := by
  have drop : ∀ i (d : DoorSense), (d.dropSlot i).deferral = d.deferral := fun i d => by
    simp only [DoorSense.dropSlot]; (repeat' split) <;> rfl
  simp only [State.onset]
  exact (mapSense_doorSide _ f j g _ (by intro; rfl)).trans
    (mapFace_doorSide s f g _ (by intro; rfl) (by intro x k; simp [drop]) (by intros; rfl) (by intro; rfl))

@[simp] theorem occupyZone_doorSide (g : Face) : (s.occupyZone g j).doorSide f = s.doorSide f := by
  simp only [State.occupyZone]; split <;> simp

@[simp] theorem completeRecord_doorSide (g : Face) (e : Episode) (o : EpisodeOutcome) :
    (s.completeRecord g e o).doorSide f = s.doorSide f := by
  simp only [State.completeRecord]
  split
  · rfl
  · exact mapFace_doorSide s f g _ (fun _ => rfl) (fun _ _ => rfl) (fun _ _ => rfl) (fun _ => rfl)

@[simp] theorem leaveZone_doorSide (g : Face) (z : Zone) (o : EpisodeOutcome) :
    (s.leaveZone g j z o).doorSide f = s.doorSide f := by
  simp only [State.leaveZone]
  split
  · simp
  · simp only [recomputeClp_doorSide, reportGap_doorSide]
    exact (mapSense_doorSide _ f j g _ (by intro; rfl)).trans (by simp)

@[simp] theorem disarmZone_doorSide (g : Face) : (s.disarmZone g j).doorSide f = s.doorSide f := by
  simp only [State.disarmZone]; split <;> simp

@[simp] theorem armZone_doorSide (g : Face) : (s.armZone g j).doorSide f = s.doorSide f := by
  simp only [State.armZone]; (repeat' split) <;> simp

@[simp] theorem gapChanged_doorSide (g : Face) : (s.gapChanged g j).doorSide f = s.doorSide f := by
  simp only [State.gapChanged]
  split <;> first
    | rfl
    | exact occupyZone_doorSide s f j g
    | (rw [recomputeClp_doorSide]; exact (mapSense_doorSide _ f j g _ (by intro; rfl)).trans (by simp))

@[simp] theorem clearingExpired_doorSide (g : Face) : (s.clearingExpired g j).doorSide f = s.doorSide f := by
  simp only [State.clearingExpired]; split <;> simp

@[simp] theorem senseZone_doorSide (g : Face) (st : DoorState) : (s.senseZone g j st).doorSide f = s.doorSide f := by
  cases st <;> simp [State.senseZone]

@[simp] theorem senseTracker_doorSide (g : Face) (old : Option DoorState) (st : DoorState) :
    (s.senseTracker g j old st).doorSide f = s.doorSide f := by
  simp only [State.senseTracker]
  (repeat' split) <;> first | rfl | exact mapSense_doorSide s f j g _ (fun _ => rfl)

@[simp] theorem moveTracker_doorSide (g : Face) : (s.moveTracker g j).doorSide f = s.doorSide f := by
  have count : ∀ s : State, (s.countBoarding g j).doorSide f = s.doorSide f ∧ (s.countAlighting g j).doorSide f = s.doorSide f := by
    intro s
    simp only [State.countBoarding, State.countAlighting]
    split
    · constructor <;>
  exact (mapFace_doorSide _ f g _ (by intro; rfl) (by intros; rfl) (by intros; rfl) (by intro; rfl)).trans
          (mapSense_doorSide s f j g _ (by intro; rfl))
    · exact ⟨rfl, rfl⟩
  have track : ∀ h, (s.mapSense g j (fun d => { d with tracker := h })).doorSide f = s.doorSide f := fun h =>
    mapSense_doorSide s f j g _ (fun _ => rfl)
  simp only [State.moveTracker]
  (repeat' split) <;> first | rfl | simp [(count _).1, (count _).2, track]

@[simp] theorem setQuiet_doorSide (g : Face) (v : Bool) : (s.setQuiet g v).doorSide f = s.doorSide f := by
  simp only [State.setQuiet]
  split
  · rfl
  · rw [tell_doorSide]
    exact mapFace_doorSide s f g _ (fun _ => rfl) (fun _ _ => rfl) (fun _ _ => rfl) (fun _ => rfl)

@[simp] theorem restartQuiet_doorSide (g : Face) : (s.restartQuiet g).doorSide f = s.doorSide f := by
  simp only [State.restartQuiet, setQuiet_doorSide]
  exact mapFace_doorSide s f g _ (fun _ => rfl) (fun _ _ => rfl) (fun _ _ => rfl) (fun _ => rfl)

@[simp] theorem stopQuiet_doorSide (g : Face) : (s.stopQuiet g).doorSide f = s.doorSide f := by
  simp only [State.stopQuiet, setQuiet_doorSide]
  exact mapFace_doorSide s f g _ (fun _ => rfl) (fun _ _ => rfl) (fun _ _ => rfl) (fun _ => rfl)

@[simp] theorem quietOfMap_doorSide (g : Face) : (s.quietOfMap g).doorSide f = s.doorSide f := by
  simp only [State.quietOfMap]; split <;> simp

@[simp] theorem clearAlign_doorSide (g : Face) : (s.clearAlign g).doorSide f = s.doorSide f := by simp [State.clearAlign]

@[simp] theorem clearCounts_doorSide (g : Face) : (s.clearCounts g).doorSide f = s.doorSide f :=
  mapFace_doorSide s f g _ (fun _ => rfl) (fun x k => by simp) (fun _ _ => rfl) (fun _ => rfl)

/-! ### Updates of the door side -/

theorem mapDoor_doorSide (h : DoorRec → DoorRec) : (s.mapDoor f j h).doorSide f =
    { s.doorSide f with record := Function.update (s.doorSide f).record j (h (s.door f j)) } :=
  doorSide_eq (by simp) (by simp) (by simp) (fun k => by
    by_cases e : k = j
    · subst e; simp
    · rw [mapDoor_door_other _ _ _ _ e, Function.update_of_ne e]; rfl)
    (fun k => by simp [State.sense, State.doorSide]) (fun p => by simp [State.group, State.doorSide])

theorem mapSense_doorSide_deferral (h : DoorSense → DoorSense) : (s.mapSense f j h).doorSide f =
    { s.doorSide f with deferral := Function.update (s.doorSide f).deferral j (h (s.sense f j)).deferral } :=
  doorSide_eq (by simp) (by simp) (by simp) (fun k => by simp [State.door, State.doorSide]) (fun k => by
    by_cases e : k = j
    · subst e; simp
    · rw [mapSense_sense_other _ _ _ _ e, Function.update_of_ne e]; rfl) (fun p => by simp [State.group, State.doorSide])

theorem mapGroup_doorSide_queue (p : GroupIx) (h : Group → Group) : (s.mapGroup f p h).doorSide f =
    { s.doorSide f with queue := Function.update (s.doorSide f).queue p (h (s.group f p)).queue } :=
  doorSide_eq (by simp) (by simp) (by simp) (fun k => by simp [State.door, State.doorSide])
    (fun k => by simp [State.sense, State.doorSide]) (fun q => by
    by_cases e : q = p
    · subst e; simp
    · rw [mapGroup_group_other _ _ _ _ e, Function.update_of_ne e]; rfl)

/-- Entering a state writes the record and ends the deferral; the Start Queue entry is taken away apart. -/
theorem enterState_doorSide (st : DoorState) (edit : DoorRec → DoorRec) : (s.enterState f j st edit).doorSide f =
    { s.doorSide f with
      record := Function.update (s.doorSide f).record j ((edit (s.door f j)).enter st s.msClock (s.par f))
      deferral := Function.update (s.doorSide f).deferral j none } := by
  simp only [State.enterState, senseZone_doorSide, State.senseDeferral, mapSense_doorSide_deferral, senseTracker_doorSide]
  split <;> simp only [reportDoor_doorSide, mapDoor_doorSide]

theorem enterTold_doorSide_eq (st : DoorState) (edit : DoorRec → DoorRec) :
    (s.enterTold f j st edit).doorSide f = (s.enterState f j st edit).doorSide f := by simp [State.enterTold]

theorem enterTold_doorSide (st : DoorState) (edit : DoorRec → DoorRec) : (s.enterTold f j st edit).doorSide f =
    { s.doorSide f with
      record := Function.update (s.doorSide f).record j ((edit (s.door f j)).enter st s.msClock (s.par f))
      deferral := Function.update (s.doorSide f).deferral j none } :=
  (enterTold_doorSide_eq ..).trans (enterState_doorSide ..)

end Sys2Proof.Machine
end

section
namespace Sys2Proof.Machine
open DoorSide

/-! ### Operations on door units as moves -/

/-- Where the law of the Start Queues holds, the door side of the second state is reached from that of the first by moves. -/
def Leads (f : Face) (s t : State) : Prop := (s.doorSide f).QueueLaw → (s.doorSide f).Path (t.doorSide f)

section
variable {s t u : State} {f : Face} {j : DoorIx}

theorem leads_of_eq (h : t.doorSide f = s.doorSide f) : Leads f s t := fun _ => h ▸ .refl

theorem Leads.refl : Leads f s s := leads_of_eq rfl

theorem Leads.trans (h : Leads f s t) (k : Leads f t u) : Leads f s u := fun l => (h l).trans (k (l.path (h l)))

/-- What does not change the door side can follow anything. -/
theorem Leads.then_eq (h : Leads f s t) (k : u.doorSide f = t.doorSide f) : Leads f s u := h.trans (leads_of_eq k)

/-- Where the moves need the law themselves. -/
theorem leads_of_law (h : (s.doorSide f).QueueLaw → Leads f s t) : Leads f s t := fun l => h l l

theorem leads_of_move (h : (s.doorSide f).Move (t.doorSide f)) : Leads f s t := fun _ => .single h

/-- A door unit that holds no entry loses none by entering a state. -/
theorem enter_of_free {a : DoorSide} (l : a.QueueLaw) (hj : a.Free j) (st : DoorState) (e : DoorRec) (now : Ms) :
    a.enter j st e now = { a with
      record := Function.update a.record j (e.enter st now a.par), deferral := Function.update a.deferral j none } := by
  have : ∀ p, (a.queue p).filter (fun x => decide (x.door ≠ j)) = a.queue p := fun p =>
    List.filter_eq_self.2 fun x hx => by simpa using l.free_any hj p x hx
  simp only [DoorSide.enter, this]

/-- A door unit that holds no entry enters a state. -/
theorem enterState_leads {st : DoorState} {edit : DoorRec → DoorRec} (hf : s.isFitted f j = true) (hs : s.scanDone = true)
    (hj : (s.doorSide f).Free j) (h : (s.doorSide f).Enters j (s.door f j) (edit (s.door f j)) st) :
    Leads f s (s.enterState f j st edit) := fun l => by
  have m := Move.enters (a := s.doorSide f) j st (edit (s.door f j)) s.msClock hf hs h
  rw [enter_of_free l hj] at m
  rw [enterState_doorSide]
  exact .single m

theorem enterTold_leads {st : DoorState} {edit : DoorRec → DoorRec} (hf : s.isFitted f j = true) (hs : s.scanDone = true)
    (hj : (s.doorSide f).Free j) (h : (s.doorSide f).Enters j (s.door f j) (edit (s.door f j)) st) :
    Leads f s (s.enterTold f j st edit) := (enterState_leads hf hs hj h).then_eq (enterTold_doorSide_eq ..)

theorem scanDone_of_state {st : DoorState} (l : (s.doorSide f).QueueLaw) (h : (s.door f j).state = some st) :
    s.scanDone = true := l.scanned_of_state (j := j) (show (s.door f j).state ≠ none by simp [h])

theorem isFitted_of_state {st : DoorState} (l : (s.doorSide f).QueueLaw) (h : (s.door f j).state = some st) :
    s.isFitted f j = true := l.fitted_of_state j (show (s.door f j).state ≠ none by simp [h])

theorem isolated_of_state {st : DoorState} (l : (s.doorSide f).QueueLaw) (h : (s.door f j).state = some st)
    (h1 : st ≠ .locked) (h2 : st ≠ .released) (h3 : st ≠ .fault) : s.isolated f j = false := by
  cases hi : s.isolated f j with
  | false => rfl
  | true =>
    have := l.isolated_state j hi
    simp only [State.doorSide, h, Option.some.injEq, reduceCtorEq, h1, h2, h3, or_self] at this

theorem obstruct_leads : Leads f s (s.obstruct f j) := leads_of_law fun l => by
  simp only [State.obstruct]
  split
  · next hc =>
    have free := l.free_of_state (j := j) (show (s.door f j).state ≠ _ by simp [hc]) (show (s.door f j).state ≠ _ by simp [hc])
    refine Leads.then_eq (enterTold_leads (isFitted_of_state l hc) (scanDone_of_state l hc) free ?_)
      (recordStart_doorSide ..)
    exact .obstructs hc
  · exact .refl

/-- The door unit of the head of a queue has no other entry: with the head gone it has none. -/
theorem filter_head {a : DoorSide} (l : a.QueueLaw) {p : GroupIx} {e : Entry} {rest : List Entry} (hq : a.queue p = e :: rest) :
    (fun q => (a.queue q).filter (fun x => decide (x.door ≠ e.door))) = Function.update a.queue p rest := by
  funext q
  have hg := (l.entry p e (hq ▸ List.mem_cons_self)).2.1
  by_cases hqp : q = p
  · subst hqp
    have nd := l.nodup q
    rw [hq, List.map_cons, List.nodup_cons] at nd
    rw [Function.update_self, hq, List.filter_cons_of_neg (by simp)]
    exact List.filter_eq_self.2 fun x hx => by
      have : x.door ≠ e.door := fun h => nd.1 (h ▸ List.mem_map_of_mem hx)
      simpa using this
  · rw [Function.update_of_ne hqp]
    exact List.filter_eq_self.2 fun x hx => by
      have : x.door ≠ e.door := fun h => hqp ((l.entry q x hx).2.1.symm.trans ((congrArg _ h).trans hg))
      simpa using this

/-- The group at a grant, before the door unit moves: the head taken, the start recorded and the spacing hold started
(R34, R35). -/
def State.takeHead (f : Face) (p : GroupIx) (rest : List Entry) (s : State) : State :=
  ((s.mapGroup f p (fun x => { x with queue := rest })).recordStart f p).mapGroup f p
    (fun x => { x with spacing := s.spacingStart f })

theorem takeHead_doorSide (p : GroupIx) (rest : List Entry) : (s.takeHead f p rest).doorSide f =
    { s.doorSide f with queue := Function.update (s.doorSide f).queue p rest } := by
  rw [State.takeHead, mapGroup_doorSide _ _ _ _ _ (by intro; rfl), recordStart_doorSide, mapGroup_doorSide_queue]

/-- What a grant does (R36). -/
theorem grantOnce_cases (p : GroupIx) : s.grantOnce f p = s ∨ ∃ e rest, (s.group f p).queue = e :: rest ∧
    (s.group f p).mayGrant = true ∧
    s.grantOnce f p = match e.motion with
      | .open_ => (s.takeHead f p rest).enterTold f e.door .opening id
      | .close => (s.takeHead f p rest).enterClosing f e.door := by
  unfold State.grantOnce
  split
  · exact .inl rfl
  · next e rest hq =>
    split
    · next hg => exact .inr ⟨e, rest, hq, hg, by cases e.motion <;> rfl⟩
    · exact .inl rfl

/-- The door unit of a head that is taken enters a state. -/
theorem takeHead_enterTold_leads {p : GroupIx} {e : Entry} {rest : List Entry} (hq : (s.group f p).queue = e :: rest)
    {st : DoorState} (h : (s.doorSide f).Enters e.door (s.door f e.door) (s.door f e.door) st) :
    Leads f s ((s.takeHead f p rest).enterTold f e.door st id) := leads_of_law fun l => leads_of_move <| by
  obtain ⟨hf, -, -, hm⟩ := l.entry p e (by simp [State.doorSide, hq])
  have hs : s.scanDone = true := l.scanned_of_state (j := e.door) (by rcases hm with hm | hm <;> simp [hm.2.1])
  have m := Move.enters (a := s.doorSide f) e.door st (s.door f e.door) (s.takeHead f p rest).msClock hf hs h
  rw [DoorSide.enter, filter_head l (show (s.doorSide f).queue p = e :: rest from hq)] at m
  have hd : (s.takeHead f p rest).door f e.door = s.door f e.door :=
    congrArg (fun a => a.record e.door) (takeHead_doorSide p rest)
  have hp : (s.takeHead f p rest).par f = s.par f := congrArg DoorSide.par (takeHead_doorSide p rest)
  rw [enterTold_doorSide, takeHead_doorSide, hd, hp]
  exact m

/-- A grant is the entry of the door unit at the head into OPENING or CLOSING, with the reversal that an EDGE makes at once (R36,
R50). -/
theorem grantOnce_leads (p : GroupIx) : Leads f s (s.grantOnce f p) := leads_of_law fun l => by
  rcases grantOnce_cases p with h | ⟨e, rest, hq, -, h⟩
  · exact leads_of_eq (by rw [h])
  · rw [h]
    obtain ⟨-, -, -, hm⟩ := l.entry p e (by simp [State.doorSide, hq])
    rcases hm with ⟨ho, hu, -⟩ | ⟨hc, hw, -⟩
    · rw [ho]
      exact takeHead_enterTold_leads hq (.opens hu)
    · rw [hc]
      refine (takeHead_enterTold_leads hq (.closes hw)).trans ?_
      simp only [State.enterClosing]
      split
      · exact obstruct_leads
      · exact .refl

theorem evalGrants_leads (p : GroupIx) : Leads f s (s.evalGrants f p) :=
  (((grantOnce_leads p).trans (grantOnce_leads p)).trans (grantOnce_leads p)).trans (grantOnce_leads p)

theorem evalIfHead_leads (p : GroupIx) : Leads f s (s.evalIfHead f p j) := by
  unfold State.evalIfHead
  split
  · exact evalGrants_leads p
  · exact .refl

/-- unlatch_settle has passed, of a door unit that holds no entry (R10). -/
theorem openEntry_leads (hu : (s.door f j).state = some .unlatched) (hj : (s.doorSide f).Free j) :
    Leads f s (s.openEntry f j) := by
  refine Leads.trans (t := (s.mapDoor f j (fun d => { d with timer := none })).mapGroup f (s.groupOf f j)
    (fun x => { x with queue := joinQueue ⟨j, .open_, (s.door f j).reqClass.getD .normal, s.msClock⟩ x.queue }))
    (leads_of_move ?_) ?_
  · have m := Move.placesOpen (a := s.doorSide f) j ((s.door f j).reqClass.getD .normal) s.msClock hu hj
    rw [mapGroup_doorSide_queue, mapDoor_doorSide]
    simpa [DoorSide.place, State.doorSide, State.group] using m
  · have hg : (s.mapDoor f j (fun d => { d with timer := none })).groupOf f j = s.groupOf f j := groupOf_of (by simp) f j
    rw [State.openEntry, State.placeEntry, hg, mapDoor_msClock]
    exact evalIfHead_leads _

/-- The CLOSE entry of a door unit in CLOSE_WAIT that holds none is placed (R12). -/
theorem closeEntry_leads (hc : (s.door f j).state = some .closeWait) (hj : (s.doorSide f).Free j) :
    Leads f s (s.closeEntry f j) := by
  refine Leads.trans (t := (s.mapSense f j (fun d => { d with deferral := none })).mapGroup f (s.groupOf f j)
    (fun x => { x with queue := joinQueue ⟨j, .close, .normal, s.msClock⟩ x.queue })) (leads_of_move ?_) ?_
  · have m := Move.placesClose (a := s.doorSide f) j s.msClock hc hj
    rw [mapGroup_doorSide_queue, mapSense_doorSide_deferral]
    simpa [DoorSide.place, State.doorSide, State.group] using m
  · have hg : (s.mapSense f j (fun d => { d with deferral := none })).groupOf f j = s.groupOf f j := groupOf_of (by simp) f j
    rw [State.closeEntry, State.placeEntry, hg, mapSense_msClock]
    exact evalIfHead_leads _

theorem decideDeferral_leads (hc : (s.door f j).state = some .closeWait) (hj : (s.doorSide f).Free j) :
    Leads f s (s.decideDeferral f j) := by
  unfold State.decideDeferral
  dsimp only
  split
  · exact closeEntry_leads hc hj
  · refine leads_of_move ?_
    rw [mapSense_doorSide_deferral]
    exact .defers j _ hc hj

end
end Sys2Proof.Machine
end

section
namespace Sys2Proof.Machine
open DoorSide

section
variable {s t u : State} {f : Face} {j : DoorIx}

theorem free_iff : (s.doorSide f).Free j ↔ s.noEntry f (s.groupOf f j) j := Iff.rfl

/-- A door unit enters a state and loses its entry (R33). -/
theorem enterTold_removeEntry_leads {st : DoorState} {edit : DoorRec → DoorRec} (hf : s.isFitted f j = true)
    (hs : s.scanDone = true) (h : (s.doorSide f).Enters j (s.door f j) (edit (s.door f j)) st) :
    Leads f s ((s.enterTold f j st edit).removeEntry f j) := leads_of_law fun l => by
  have hg : (s.enterTold f j st edit).groupOf f j = s.groupOf f j := groupOf_of (by simp) f j
  have filtered : Leads f s ((s.enterTold f j st edit).mapGroup f (s.groupOf f j)
      (fun x => { x with queue := x.queue.filter (fun e => e.door ≠ j) })) := leads_of_move <| by
    have m := Move.enters (a := s.doorSide f) j st (edit (s.door f j)) s.msClock hf hs h
    have hq : (fun p => ((s.doorSide f).queue p).filter (fun x => decide (x.door ≠ j))) = Function.update
        (s.doorSide f).queue (s.groupOf f j) ((s.group f (s.groupOf f j)).queue.filter (fun x => decide (x.door ≠ j))) := by
      funext p
      by_cases hp : p = s.groupOf f j
      · subst hp
        simp [State.doorSide]
      · rw [Function.update_of_ne hp]
        exact List.filter_eq_self.2 fun x hx => by
          have : x.door ≠ j := fun h => hp ((l.entry p x hx).2.1.symm.trans (congrArg _ h))
          simpa using this
    rw [mapGroup_doorSide_queue, enterTold_doorSide, enterTold_group]
    rw [DoorSide.enter, hq] at m
    exact m
  rw [State.removeEntry, hg]
  split
  · exact filtered.trans (evalGrants_leads _)
  · exact filtered

/-- The record with which a door unit stands in a state, its entry gone (R33). -/
theorem enterTold_removeEntry_door (st : DoorState) (edit : DoorRec → DoorRec) :
    ((s.enterTold f j st edit).removeEntry f j).door f j = (edit (s.door f j)).enter st s.msClock (s.par f) :=
  (congrArg Prod.fst (removeEntry_unit _ f j (.inl rfl))).trans (enterTold_door ..)

theorem enterTold_removeEntry_free (st : DoorState) (edit : DoorRec → DoorRec) :
    (((s.enterTold f j st edit).removeEntry f j).doorSide f).Free j := by
  have hg : ((s.enterTold f j st edit).removeEntry f j).groupOf f j = (s.enterTold f j st edit).groupOf f j :=
    groupOf_of (by simp) f j
  rw [free_iff, hg]
  exact removeEntry_noEntry (s.enterTold f j st edit) f j

theorem enterUnlatched_leads (hu : (s.door f j).state = some .unlatching) : Leads f s (s.enterUnlatched f j) :=
  leads_of_law fun l => by
    have free := l.free_of_state (j := j) (show (s.door f j).state ≠ _ by simp [hu]) (show (s.door f j).state ≠ _ by simp [hu])
    have told : Leads f s (s.enterTold f j .unlatched id) :=
      enterTold_leads (isFitted_of_state l hu) (scanDone_of_state l hu) free (.unlatches hu)
    unfold State.enterUnlatched
    dsimp only
    split
    · refine told.trans (openEntry_leads (by simp) ?_)
      have hg : (s.enterTold f j .unlatched id).groupOf f j = s.groupOf f j := groupOf_of (by simp) f j
      rw [free_iff, hg]
      intro e he
      exact free e (by simpa using! he)
    · exact told

/-- What follows at once when a door unit has entered a state is made of moves (R9, R12). -/
theorem enter_follows (st : DoorState) (edit : DoorRec → DoorRec) :
    Leads f ((s.enterTold f j st edit).removeEntry f j) (s.enter f j st edit) := by
  have door := enterTold_removeEntry_door (s := s) (f := f) (j := j) st edit
  cases st
  case unlatching =>
    rw [State.enter]
    split
    · exact .refl
    · exact enterUnlatched_leads (by rw [door]; rfl)
  case closeWait => exact decideDeferral_leads (by rw [door]; rfl) (enterTold_removeEntry_free _ _)
  all_goals exact .refl

/-- A door unit enters a state with everything that follows at once (R9, R12, R33). -/
theorem enter_leads {st : DoorState} {edit : DoorRec → DoorRec} (hf : s.isFitted f j = true)
    (hs : s.scanDone = true) (h : (s.doorSide f).Enters j (s.door f j) (edit (s.door f j)) st) :
    Leads f s (s.enter f j st edit) := (enterTold_removeEntry_leads hf hs h).trans (enter_follows st edit)

/-! ### Requests as moves (R16 to R19) -/

/-- What a request does to a record whose door unit keeps its state. -/
theorem mapDoor_leads {h : DoorRec → DoorRec} (hl : Asks (s.face f).mode.latch (s.door f j) (h (s.door f j))) :
    Leads f s (s.mapDoor f j h) := leads_of_move <| by
  rw [mapDoor_doorSide]
  exact .asks j _ hl

theorem raiseEntry_leads : Leads f s (s.raiseEntry f j) := by
  unfold State.raiseEntry
  dsimp only
  split
  · exact .refl
  · next e he =>
    have hm := List.mem_of_find?_eq_some he
    have hd : e.door = j := by simpa using (List.find?_some he : _) |> fun h => (by simpa using h : (e.door = j ∧ _) ∧ _).1.1
    subst hd
    refine Leads.trans (leads_of_move ?_) (evalIfHead_leads _)
    rw [mapGroup_doorSide_queue]
    have m := Move.raises (a := s.doorSide f) e hm
    simpa [DoorSide.place, State.doorSide, State.group] using m

theorem takeOpen_leads (c : ReqClass) (hi : s.isolated f j = false) : Leads f s (s.takeOpen f j c).1 :=
  leads_of_law fun l => by
    unfold State.takeOpen
    have fit : ∀ {st : DoorState}, (s.door f j).state = some st → s.isFitted f j = true := isFitted_of_state l
    have scan : ∀ {st : DoorState}, (s.door f j).state = some st → s.scanDone = true := scanDone_of_state l
    split
    case h_1 | h_2 | h_3 => exact .refl
    case h_4 hd | h_5 hd =>
      split
      · exact enter_leads (fit hd) (scan hd) (.unlocks c hi (by simp [hd]))
      · exact .refl
    case h_6 hd | h_7 hd => exact mapDoor_leads (.onTheWay c (by simp [hd]))
    case h_8 hd =>
      have asked : Leads f s (s.mapDoor f j (DoorRec.askOpen c)) := mapDoor_leads (.onTheWay c (by simp [hd]))
      dsimp only
      split
      · exact asked.trans raiseEntry_leads
      · exact asked
    case h_9 hd => exact mapDoor_leads (.standing hd)
    case h_10 hd | h_11 hd | h_12 hd => exact enter_leads (fit hd) (scan hd) (.stands _ hi)
    case h_13 hd => exact (enter_leads (fit hd) (scan hd) (.reverses c hd)).then_eq (recordStart_doorSide ..)
    case h_14 hd => exact mapDoor_leads (.reversing c hd)

theorem takeClose_leads (hl : (s.face f).mode.latch = false) : Leads f s (s.takeClose f j).1 :=
  leads_of_law fun l => by
    unfold State.takeClose
    have fit : ∀ {st : DoorState}, (s.door f j).state = some st → s.isFitted f j = true := isFitted_of_state l
    have scan : ∀ {st : DoorState}, (s.door f j).state = some st → s.scanDone = true := scanDone_of_state l
    split
    case h_1 | h_2 | h_3 | h_10 | h_11 | h_12 | h_13 | h_14 => exact .refl
    case h_4 hd | h_5 hd => exact enter_leads (fit hd) (scan hd) (.locksAsked hl (by simp [hd]))
    case h_6 hd => exact mapDoor_leads (.toClose hl (by simp [hd]))
    case h_7 hd => exact enter_leads (fit hd) (scan hd) (.waitsAsked hl hd)
    case h_8 hd => exact enter_leads (fit hd) (scan hd) (.waitsObstructed hl hd)
    case h_9 hd =>
      dsimp only
      split
      · exact mapDoor_leads (.toClose hl (by simp [hd]))
      · exact .refl

/-- One request of one door unit is a sequence of moves, for every state that keeps the law of the Start Queues. -/
theorem request_leads (r : DoorRequest) : Leads f s (s.request f j r).1 := by
  unfold State.request
  split
  · exact .refl
  · split
    · exact .refl
    · next hi =>
      have hi : s.isolated f j = false := by simpa using hi
      cases r with
      | close =>
        dsimp only
        split
        · exact .refl
        · next hl => exact takeClose_leads (by simpa using hl)
      | open_ => exact takeOpen_leads _ hi
      | emergencyOpen => exact takeOpen_leads _ hi

theorem forEach_leads {α : Type} (op : α → State → State) (h : ∀ x s, Leads f s (op x s)) (xs : List α) (s : State) :
    Leads f s (forEach xs op s) := by
  induction xs generalizing s with
  | nil => exact .refl
  | cons x xs ih => exact (h x s).trans (ih _)

theorem requestEach_leads (js : List DoorIx) (r : DoorRequest) : Leads f s (s.requestEach f js r) :=
  forEach_leads _ (fun _ _ => request_leads r) js s

theorem requestAll_leads (r : DoorRequest) (js : List DoorIx) : Leads f s (s.requestAll f r js).1 := by
  induction js generalizing s with
  | nil => exact .refl
  | cons j js ih => exact (request_leads r).trans ih

/-! ### Resolution as moves (R24) -/

/-- What resolution finds of a door unit: an isolated one is LOCKED, RELEASED or in FAULT, and LOCKING is not found under the
emergency latch. -/
theorem resolution_enters (hd : (s.door f j).state = none ∨ (s.door f j).state = some .released
    ∨ (s.door f j).state = some .fault) : (s.doorSide f).Enters j (s.door f j)
      { s.door f j with cause := (s.resolution f j).2 } (s.resolution f j).1 := by
  have table : ∀ i : DoorInputs, (resolutionTable i).1 = .locked ∨ (resolutionTable i).1 = .released
      ∨ (resolutionTable i).1 = .fault ∨ (resolutionTable i).1 = .standOpen ∨ (resolutionTable i).1 = .locking := by
    intro i
    unfold resolutionTable
    (repeat' split) <;> simp
  unfold State.resolution
  dsimp only
  cases hi : s.isolated f j
  case true =>
    rw [if_pos rfl]
    split
    · exact .fault _
    · split
      · exact .fault _
      · next h1 h2 =>
        rcases table (s.input f j) with h | h | h | h | h
        · rw [h]; exact .locked _
        · rw [h]; exact .released _
        · rw [h]; exact .fault _
        · exact absurd h h2
        · exact absurd h h1
  case false =>
    rw [if_neg (by simp)]
    split
    · exact .released _
    · next h1 =>
      rcases table (s.input f j) with h | h | h | h | h <;> rw [h]
      · exact .locked _
      · exact .released _
      · exact .fault _
      · exact .stands _ hi
      · refine .locksFound _ ?_ hi hd
        simp only [h, decide_true, Bool.and_true] at h1
        exact (by simpa using h1 : (s.face f).mode.latch = false)

theorem emergencyIfLocked_leads : Leads f s (s.emergencyIfLocked f j) := by
  unfold State.emergencyIfLocked
  split
  · exact request_leads _
  · exact .refl

/-- One door unit that becomes fitted is resolved: the state found is entered (R24, R27). -/
def State.resolveOne (f : Face) (j : DoorIx) (s : State) : State :=
  (s.enterState f j (s.resolution f j).1 (fun d => { d with cause := (s.resolution f j).2 })).tell
    (.door f j (s.resolution f j).1)

theorem resolveNew_eq (js : List DoorIx) (s : State) : s.resolveNew f js =
    forEach js (State.emergencyIfLocked f) ((forEach js (State.resolveOne f) s).recomputeClp f none) := rfl

/-- Resolution of a door unit leaves the record of every other. -/
theorem resolveOne_door_other {k : DoorIx} (hk : k ≠ j) : (s.resolveOne f j).door f k = s.door f k := by
  have h := congrArg (fun a => a.record k) (enterState_doorSide s f j (s.resolution f j).1
    (fun d => { d with cause := (s.resolution f j).2 }))
  simpa [State.resolveOne, State.doorSide, Function.update_of_ne hk, State.door] using h

theorem resolveOne_config (s : State) (f : Face) (j : DoorIx) : (s.resolveOne f j).config = s.config := by
  simp [State.resolveOne]

theorem resolveOne_scanDone (s : State) (f : Face) (j : DoorIx) : (s.resolveOne f j).scanDone = s.scanDone := by
  simp [State.resolveOne]

/-- Door units with no state yet are resolved one by one (R27, R66). -/
theorem resolveNew_leads (js : List DoorIx) (hn : js.Nodup) (hs : s.scanDone = true) (hf : ∀ k ∈ js, s.isFitted f k = true)
    (hd : ∀ k ∈ js, (s.door f k).state = none) : Leads f s (s.resolveNew f js) := by
  have each : Leads f s (forEach js (State.resolveOne f) s) := by
    induction js generalizing s with
    | nil => exact .refl
    | cons j js ih =>
      obtain ⟨hj, hn⟩ := List.nodup_cons.1 hn
      have none_j := hd j List.mem_cons_self
      refine (leads_of_law fun l => ?_ : Leads f s (s.resolveOne f j)).trans (ih hn ?_ (fun k hk => ?_) fun k hk => ?_)
      · exact (enterState_leads (hf j List.mem_cons_self) hs
          (l.free_of_state (show (s.door f j).state ≠ _ by simp [none_j]) (show (s.door f j).state ≠ _ by simp [none_j]))
          (resolution_enters (.inl none_j))).then_eq (tell_doorSide ..)
      · rw [resolveOne_scanDone]; exact hs
      · rw [isFitted_of (resolveOne_config ..)]; exact hf k (List.mem_cons_of_mem _ hk)
      · rw [resolveOne_door_other (by rintro rfl; exact hj hk)]; exact hd k (List.mem_cons_of_mem _ hk)
  rw [resolveNew_eq]
  exact (each.then_eq (recomputeClp_doorSide _ f f none)).trans (forEach_leads _ (fun _ _ => emergencyIfLocked_leads) _ _)

/-- A door unit in RELEASED or FAULT is resolved (R24). -/
theorem resolve_leads (hd : (s.door f j).state = some .released ∨ (s.door f j).state = some .fault) :
    Leads f s (s.resolve f j) := leads_of_law fun l => by
  have fit : s.isFitted f j = true := by rcases hd with h | h <;> exact isFitted_of_state l h
  have scan : s.scanDone = true := by rcases hd with h | h <;> exact scanDone_of_state l h
  unfold State.resolve
  dsimp only
  split
  · exact .refl
  · exact (enter_leads fit scan (resolution_enters (.inr hd))).trans emergencyIfLocked_leads

/-! ### Input changes and timers as moves -/

theorem reachedOpen_leads (hi : s.isolated f j = false)
    (hd : (s.door f j).state = some .opening ∨ (s.door f j).state = some .reversing ∧ (s.door f j).reqClass.isSome = true) :
    Leads f s (s.reachedOpen f j) := leads_of_law fun l => by
  have fit : s.isFitted f j = true := by rcases hd with h | ⟨h, -⟩ <;> exact isFitted_of_state l h
  have scan : s.scanDone = true := by rcases hd with h | ⟨h, -⟩ <;> exact scanDone_of_state l h
  unfold State.reachedOpen
  split
  · next hp => exact enter_leads fit scan (.waitsOpened hp hd)
  · exact enter_leads fit scan (.stands _ hi)

theorem reversalEnds_leads (hd : (s.door f j).state = some .reversing) (hc : (s.door f j).reqClass = none) :
    Leads f s (s.reversalEnds f j) := leads_of_law fun l => by
  unfold State.reversalEnds
  split
  · next hn => exact enter_leads (isFitted_of_state l hd) (scanDone_of_state l hd) (.holds hd hc hn)
  · next hn => exact enter_leads (isFitted_of_state l hd) (scanDone_of_state l hd) (.givesUp hd hc hn)

theorem enterFault_leads (c : FaultCause) (hf : s.isFitted f j = true) (hs : s.scanDone = true) :
    Leads f s (s.enterFault f j c) := enter_leads hf hs (.fault _)

theorem ownChange_leads (old new : DoorInputs) : Leads f s (s.ownChange f j old new) := leads_of_law fun l => by
  unfold State.ownChange
  dsimp only
  have fit : ∀ {st : DoorState}, (s.door f j).state = some st → s.isFitted f j = true := isFitted_of_state l
  have scan : ∀ {st : DoorState}, (s.door f j).state = some st → s.scanDone = true := scanDone_of_state l
  split
  case h_1 hd =>
    split
    · exact enterFault_leads _ (fit hd) (scan hd)
    · exact .refl
  case h_2 hd =>
    split
    · exact enterUnlatched_leads hd
    · exact .refl
  case h_3 hd =>
    split
    · exact enter_leads (fit hd) (scan hd) (.relocks hd)
    · exact .refl
  case h_4 hd =>
    split
    · exact reachedOpen_leads (isolated_of_state l hd (by simp) (by simp) (by simp)) (.inl hd)
    · exact .refl
  case h_5 hd =>
    split
    · split
      · next hc => exact reachedOpen_leads (isolated_of_state l hd (by simp) (by simp) (by simp)) (.inr ⟨hd, hc⟩)
      · next hc => exact reversalEnds_leads hd (by simpa using hc)
    · exact .refl
  case h_6 hd =>
    split
    · exact enter_leads (fit hd) (scan hd) (.locks hd)
    · exact .refl
  case h_7 hd =>
    split
    · exact enter_leads (fit hd) (scan hd) (.locked _)
    · exact .refl
  all_goals exact .refl

theorem checkPosition_leads (old new : DoorInputs) : Leads f s (s.checkPosition f j old new) := leads_of_law fun l => by
  unfold State.checkPosition
  split
  · exact .refl
  · next st hd =>
    (repeat' split) <;> first
      | exact .refl
      | exact enterFault_leads _ (isFitted_of_state l hd) (scanDone_of_state l hd)
      | exact ownChange_leads old new

/-- An input change of a fitted door unit after the first complete scan (R13, R14, R22, R23). -/
theorem takeInputs_leads (old new : DoorInputs) (hf : s.isFitted f j = true) (hs : s.scanDone = true) :
    Leads f s (s.takeInputs f j old new) := by
  unfold State.takeInputs
  split
  · split
    · exact leads_of_eq (by simp)
    · exact enter_leads hf hs (.released _)
  · split
    · next h => exact resolve_leads (.inl (by simpa using (Bool.and_eq_true_iff.1 h).2))
    · exact checkPosition_leads old new

theorem doorChange_leads (v : LeafSignals) (hs : s.scanDone = true) : Leads f s (s.doorChange f j v) := by
  have input : Leads f s (s.mapInput f j (withLeaf v)) := leads_of_eq (by simp)
  unfold State.doorChange
  dsimp only
  split
  · next hf => exact input.trans (takeInputs_leads _ _ ((isFitted_of (by simp) f j).trans hf) (by simpa using hs))
  · exact input

/-- The end of a running deferral (R49). -/
theorem closeEntry_deferred_leads (hd : (s.sense f j).deferral.isSome = true) : Leads f s (s.closeEntry f j) :=
  leads_of_law fun l => closeEntry_leads (l.deferred j hd) (l.free_of_deferred hd)

/-- The change of the sensing inputs as the Passenger Sensing Unit takes it, before the door unit is told: tracker, quiet
condition and gap zone (R41). -/
def State.sensed (f : Face) (j : DoorIx) (old new : DoorInputs) (s : State) : State :=
  let beams := old.dwa ≠ new.dwa || old.dwb ≠ new.dwb
  let s1 := if beams then s.moveTracker f j else s
  let s2 := if beams && s1.served f j then s1.restartQuiet f else s1
  if old.gap ≠ new.gap then s2.gapChanged f j else s2

theorem takeSense_eq (old new : DoorInputs) (s : State) : s.takeSense f j old new =
    (if s.deferralEnds f j new then
      (if !old.edge && new.edge then (s.sensed f j old new).obstruct f j else s.sensed f j old new).closeEntry f j
    else if !old.edge && new.edge then (s.sensed f j old new).obstruct f j else s.sensed f j old new) := rfl

@[simp] theorem sensed_doorSide (old new : DoorInputs) : (s.sensed f j old new).doorSide f = s.doorSide f := by
  simp only [State.sensed, apply_ite (State.doorSide f), gapChanged_doorSide, restartQuiet_doorSide, moveTracker_doorSide,
    ite_self]

theorem takeSense_leads (old new : DoorInputs) : Leads f s (s.takeSense f j old new) := leads_of_law fun l => by
  have sensed : Leads f s (s.sensed f j old new) := leads_of_eq (by simp)
  have told : Leads f s (if !old.edge && new.edge then (s.sensed f j old new).obstruct f j else s.sensed f j old new) := by
    split
    · exact sensed.trans obstruct_leads
    · exact sensed
  rw [takeSense_eq]
  split
  · next hd =>
    have hd : (s.sense f j).deferral.isSome = true := by
      simp only [State.deferralEnds, Bool.and_eq_true] at hd
      exact hd.1.1
    have waits : ((s.sensed f j old new).door f j).state = some .closeWait := by
      have : (s.sensed f j old new).door f j = s.door f j := congrArg (fun a => a.record j) (sensed_doorSide old new)
      rw [this]
      exact l.deferred j hd
    have stays : (s.sensed f j old new).obstruct f j = s.sensed f j old new := by
      simp [State.obstruct, waits]
    rw [stays, ite_self]
    refine sensed.trans (closeEntry_deferred_leads ?_)
    have : ((s.sensed f j old new).sense f j).deferral = (s.sense f j).deferral :=
      congrArg (fun a => a.deferral j) (sensed_doorSide old new)
    rwa [this]
  · exact told

theorem senseChange_leads (v : SenseSignals) : Leads f s (s.senseChange f j v) := by
  have input : Leads f s (s.mapInput f j (withSense v)) := leads_of_eq (by simp)
  unfold State.senseChange
  dsimp only
  split
  · exact input.trans (takeSense_leads _ _)
  · exact input

end
end Sys2Proof.Machine
end

section
namespace Sys2Proof.Machine
open DoorSide

/-! ### Engine, handler, modes and berth: operations that reach no door unit -/

section
variable (s : State) (f g : Face)

@[simp] theorem reportProgram_doorSide (event : Byte) (flags : BitVec 16) (v : Byte) :
    (s.reportProgram g event flags v).doorSide f = s.doorSide f := by simp [State.reportProgram]

@[simp] theorem reportHalt_doorSide (c : Byte) : (s.reportHalt g c).doorSide f = s.doorSide f := by simp [State.reportHalt]

@[simp] theorem setError_doorSide (e : ProgError) : (s.setError g e).doorSide f = s.doorSide f := by
  simp only [State.setError]; split <;> simp

@[simp] theorem haltCause_doorSide (e : ProgError) : (s.haltCause g e).doorSide f = s.doorSide f := by
  simp only [State.haltCause]; split <;> simp

@[simp] theorem failEmpty_doorSide : (s.failEmpty g).doorSide f = s.doorSide f := by simp [State.failEmpty]

@[simp] theorem enterHolding_doorSide (b : Bool) : (s.enterHolding g b).doorSide f = s.doorSide f := by
  simp only [State.enterHolding, apply_ite (State.doorSide f), tell_doorSide, mapEngine_doorSide, ite_self]

@[simp] theorem finishIfDone_doorSide (b : Bool) : (s.finishIfDone g b).doorSide f = s.doorSide f := by
  simp only [State.finishIfDone]; split <;> simp

@[simp] theorem takeResult_doorSide (a : Action) (x : DoorIx × ResultCode) :
    (s.takeResult g a x).doorSide f = s.doorSide f := by
  simp only [State.takeResult, State.follow]; (repeat' split) <;> first | rfl | simp

@[simp] theorem takeResults_doorSide (a : Action) (xs : List (DoorIx × ResultCode)) :
    (s.takeResults g a xs).doorSide f = s.doorSide f :=
  forEach_keeps (State.doorSide f) _ (fun x s => takeResult_doorSide s f g a x) xs s

@[simp] theorem limitOver_doorSide : (s.limitOver g).doorSide f = s.doorSide f := by
  simp only [State.limitOver]; split <;> simp

@[simp] theorem doorTold_doorSide (j : DoorIx) (st : DoorState) : (s.doorTold g j st).doorSide f = s.doorSide f := by
  simp only [State.doorTold, State.settle]; (repeat' split) <;> simp

@[simp] theorem postedIssued_doorSide (rs : List (DoorIx × ResultCode)) :
    (s.postedIssued g rs).doorSide f = s.doorSide f := by
  simp only [State.postedIssued]; split <;> simp

@[simp] theorem postedLost_doorSide : (s.postedLost g).doorSide f = s.doorSide f := by
  simp only [State.postedLost]; split <;> simp

@[simp] theorem haltProgram_doorSide : (s.haltProgram g).doorSide f = s.doorSide f := by
  simp only [State.haltProgram]; split <;> simp

@[simp] theorem discardPosted_doorSide (c : DiscardCause) : (s.discardPosted g c).doorSide f = s.doorSide f := by
  simp only [State.discardPosted]; (repeat' split) <;> simp

@[simp] theorem setIssueTime_doorSide (p : Posted) : (s.setIssueTime g p).doorSide f = s.doorSide f := by
  simp only [State.setIssueTime]; split <;> simp

@[simp] theorem takeByGrade_doorSide : (s.takeByGrade g).doorSide f = s.doorSide f := by
  simp only [State.takeByGrade]; (repeat' split) <;> simp

@[simp] theorem clearRelease_doorSide : (s.clearRelease g).doorSide f = s.doorSide f := by simp [State.clearRelease]

@[simp] theorem reportMode_doorSide (left : Mode) (c : Byte) : (s.reportMode g left c).doorSide f = s.doorSide f := by
  simp [State.reportMode]

@[simp] theorem dropPossession_doorSide : (s.dropPossession g).doorSide f = s.doorSide f :=
  mapMode_doorSide s f g _ (by intro; rfl)

@[simp] theorem enterMaintenance_doorSide : (s.enterMaintenance g).doorSide f = s.doorSide f := by
  simp [State.enterMaintenance]

@[simp] theorem changeMode_doorSide (m : Mode) : (s.changeMode g m).doorSide f = s.doorSide f := by
  simp only [State.changeMode, apply_ite (State.doorSide f), reportMode_doorSide, dropPossession_doorSide,
    enterMaintenance_doorSide, haltCause_doorSide, ite_self]
  exact mapMode_doorSide s f g _ (by intro; rfl)

@[simp] theorem grantPossession_doorSide : (s.grantPossession g).doorSide f = s.doorSide f := by
  simp only [State.grantPossession]
  split
  · rfl
  · rw [reportMode_doorSide]; exact mapMode_doorSide s f g _ (by intro; rfl)

@[simp] theorem keyEntersAuto_doorSide : (s.keyEntersAuto g).doorSide f = s.doorSide f := by
  simp only [State.keyEntersAuto, apply_ite (State.doorSide f), reportMode_doorSide, enterMaintenance_doorSide, ite_self]
  exact mapMode_doorSide s f g _ (by intro; rfl)

@[simp] theorem reportEmergency_doorSide (c : Byte) (n : Option Nat) : (s.reportEmergency g c n).doorSide f = s.doorSide f := by
  simp [State.reportEmergency]

@[simp] theorem reportBerth_doorSide (b : BerthState) (c : BerthCause) : (s.reportBerth g b c).doorSide f = s.doorSide f := by
  simp [State.reportBerth]

@[simp] theorem reportSlow_doorSide : (s.reportSlow g).doorSide f = s.doorSide f := by simp [State.reportSlow]

@[simp] theorem disarmAll_doorSide : (s.disarmAll g).doorSide f = s.doorSide f :=
  forEach_keeps (State.doorSide f) _ (fun j s => disarmZone_doorSide s f j g) _ _

@[simp] theorem enterMoved_doorSide (i : Fin 25) : (s.enterMoved g i).doorSide f = s.doorSide f := by
  simp [State.enterMoved]

@[simp] theorem reportAlignment_doorSide : (s.reportAlignment g).doorSide f = s.doorSide f := by
  simp only [State.reportAlignment]
  rw [forEach_keeps (State.doorSide f) _ (fun _ _ => report_doorSide ..), report_doorSide]

@[simp] theorem storeConsist_doorSide (c : Consist) : (s.storeConsist g c).doorSide f = s.doorSide f := by
  simp [State.storeConsist]

@[simp] theorem advance_doorSide (n : Nat) : (s.advance n).doorSide f = s.doorSide f := by
  simp only [State.advance, State.sendDrives]
  (repeat' split) <;> exact doorSide_of_face rfl rfl (by cases f <;> rfl)

@[simp] theorem reach_doorSide (t : Timer) : (s.reach t).doorSide f = s.doorSide f := by
  simp only [State.reach]; split <;> simp

@[simp] theorem reachMicros_doorSide (t : Us) : (s.reachMicros t).doorSide f = s.doorSide f := by
  simp only [State.reachMicros, State.advanceMicros]
  split
  · rfl
  · refine Eq.trans (doorSide_of_face rfl rfl (by cases f <;> rfl)) (?_ : State.doorSide f (if _ then s else s.advance _) = _)
    split <;> simp
end

/-! ### Engine, handler, modes and berth: operations that make requests -/

section
variable {s t u : State} {f : Face}

theorem openSelection_leads (m : BitVec 8) (d : BitVec 32) (src : Source) : Leads f s (s.openSelection f m d src).1 := by
  simp only [State.openSelection, State.post]
  (repeat' split)
  · exact leads_of_eq (by simp)
  · exact requestAll_leads _ _
  · exact .refl

theorem act_leads (d : Descriptor) : Leads f s (s.act f d) := by
  have acting : Leads f s (s.mapEngine f (fun e => { e with state := .acting, phase := .act, followed := [], awaiting := false })) :=
    leads_of_eq (by simp)
  simp only [State.act]
  split
  · exact acting.then_eq (by simp)
  · exact acting.then_eq (by simp)
  · refine acting.then_eq ?_
    rw [finishIfDone_doorSide]
    split <;> simp
  · exact (acting.trans (requestAll_leads _ _)).then_eq ((finishIfDone_doorSide ..).trans (takeResults_doorSide ..))
  · have opened := acting.trans (openSelection_leads d.selection.sections d.selection.doorMask .program)
    split <;> exact opened.then_eq (by simp)

theorem issueAction_leads : Leads f s (s.issueAction f) := by
  simp only [State.issueAction]
  split
  · exact leads_of_eq (by simp)
  · exact act_leads _

theorem enterWaiting_leads : Leads f s (s.enterWaiting f) := by
  simp only [State.enterWaiting]
  (repeat' split)
  · exact leads_of_eq (by simp)
  · exact (leads_of_eq (by simp)).trans (act_leads _)
  · exact leads_of_eq (by simp)

theorem recheck_leads (t : Trigger) : Leads f s (s.recheck f t) := by
  simp only [State.recheck]
  (repeat' split)
  · exact .refl
  · exact act_leads _
  · exact .refl

theorem holdOver_leads : Leads f s (s.holdOver f) := by
  simp only [State.holdOver]
  (repeat' split)
  · exact leads_of_eq (by simp)
  · exact (leads_of_eq (by simp)).trans enterWaiting_leads
  · exact leads_of_eq (by simp)

/-- What is told to an engine leads every face: it acts on its own face alone. -/
theorem takeNotice_leads (n : Notice) : Leads f s (s.takeNotice n) := by
  by_cases h : f = n.face
  · subst h
    cases n with
    | door g j st => exact leads_of_eq (by simp [State.takeNotice])
    | quiet g => exact recheck_leads _
    | clp g => exact recheck_leads _
    | holdEnds g =>
      simp only [State.takeNotice]
      split
      · exact holdOver_leads
      · exact .refl
  · exact leads_of_eq (doorSide_of_outside h (takeNotice_outside _ _ rfl))

theorem notices_doorSide (ns : List Notice) : ({ s with notices := ns } : State).doorSide f = s.doorSide f :=
  doorSide_of_face rfl rfl (by cases f <;> rfl)

theorem drain_leads : Leads f s s.drain := by
  have run : ∀ n (s : State), Leads f s (s.drainN n) := by
    intro n
    induction n with
    | zero => exact fun _ => .refl
    | succ n ih =>
      intro s
      simp only [State.drainN]
      split
      · exact .refl
      · exact ((leads_of_eq (notices_doorSide _)).trans (takeNotice_leads _)).trans (ih _)
  exact (run 4096 s).then_eq (notices_doorSide _)

theorem startAt_leads (i : Fin 96) (c : Byte) : Leads f s (s.startAt f i c) :=
  (leads_of_eq (by simp)).trans enterWaiting_leads

theorem resumeProgram_leads : Leads f s (s.resumeProgram f) := by
  simp only [State.resumeProgram]
  (repeat' split)
  · exact (leads_of_eq (by simp)).trans enterWaiting_leads
  · exact leads_of_eq (by simp)
  · exact (leads_of_eq (by simp)).trans (act_leads _)
  · exact leads_of_eq (by simp)
  · exact leads_of_eq (by simp)

theorem issuePosted_leads : Leads f s (s.issuePosted f) := by
  simp only [State.issuePosted]
  (repeat' split)
  · exact .refl
  · exact leads_of_eq (by simp)
  · exact (requestAll_leads _ _).then_eq ((postedIssued_doorSide ..).trans (mapBerth_doorSide ..))

theorem issueIfDue_leads : Leads f s (s.issueIfDue f) := by
  simp only [State.issueIfDue]
  (repeat' split) <;> first | exact .refl | exact issuePosted_leads

theorem closeAll_leads : Leads f s (s.closeAll f) := requestEach_leads _ _

theorem withdraw_leads : Leads f s (s.withdraw f) := by
  have cleared : Leads f s (((s.clearRelease f).discardPosted f .withdrawn).haltCause f .releaseWithdrawn) :=
    leads_of_eq (by simp)
  simp only [State.withdraw]
  split
  · exact cleared.trans closeAll_leads
  · exact cleared

theorem giveRelease_leads : Leads f s (s.giveRelease f) := by
  have given : Leads f s (s.mapBerth f (fun b => { b with release := true })) := leads_of_eq (by simp)
  simp only [State.giveRelease]
  (repeat' split)
  · exact given.trans (recheck_leads _)
  · exact given.trans (startAt_leads _ _)
  · exact given.trans (openSelection_leads _ _ _)
  all_goals exact given

theorem revokePossession_leads (c : Byte) : Leads f s (s.revokePossession f c) := by
  simp only [State.revokePossession]
  split
  · exact ((leads_of_eq (dropPossession_doorSide ..)).trans closeAll_leads).then_eq (reportMode_doorSide ..)
  · exact .refl

theorem takeKey_leads (pos : KeyPos) : Leads f s (s.takeKey f pos) := by
  simp only [State.takeKey]
  (repeat' split) <;> first | exact .refl | exact requestEach_leads _ _

theorem keyChange_leads (pos : KeyPos) : Leads f s (s.keyChange f pos) := by
  simp only [State.keyChange, State.keyLeavesAuto]
  split
  · refine Leads.trans (leads_of_eq ?_) (takeKey_leads _)
    simp only [apply_ite (State.doorSide f), reportMode_doorSide, dropPossession_doorSide, discardPosted_doorSide,
      haltCause_doorSide, ite_self]
    exact mapMode_doorSide s f f _ (by intro; rfl)
  · split
    · exact leads_of_eq (by simp)
    · refine Leads.trans (leads_of_eq ?_) (takeKey_leads _)
      rw [reportMode_doorSide]
      exact mapMode_doorSide s f f _ (by intro; rfl)

theorem keyAccepted_leads (pos : KeyPos) : Leads f s (s.keyAccepted f pos) := by
  have read : Leads f s (s.mapMode f (fun m => { m with keyRead := true })) :=
    leads_of_eq (mapMode_doorSide s f f _ (by intro; rfl))
  simp only [State.keyAccepted]
  (repeat' split)
  · exact .refl
  · exact read.trans (keyChange_leads _)
  · exact read.then_eq (by simp)
  · exact read.then_eq (mapMode_doorSide _ f f _ (by intro; rfl))

theorem moveBerth_leads (st : BerthState) (c : BerthCause) (edit : Berth → Berth) : Leads f s (s.moveBerth f st c edit) := by
  have moved : Leads f s ((s.mapBerth f (fun b => { edit b with state := st })).reportBerth f (s.berth f).state c) :=
    leads_of_eq (by simp)
  simp only [State.moveBerth]
  split
  · exact (moved.trans (revokePossession_leads _)).then_eq (recomputeClp_doorSide ..)
  · exact moved.then_eq (recomputeClp_doorSide ..)

theorem enterEmpty_leads (c : BerthCause) : Leads f s (s.enterEmpty f c) :=
  (moveBerth_leads _ _ _).then_eq
    ((disarmAll_doorSide ..).trans ((clearAlign_doorSide ..).trans (discardPosted_doorSide ..)))

theorem enterSettling_leads (c : BerthCause) : Leads f s (s.enterSettling f c) := moveBerth_leads _ _ _

theorem reBerth_leads (i : Fin 25) : Leads f s (s.reBerth f i) := 
  (enterSettling_leads _).then_eq ((discardPosted_doorSide ..).trans (clearAlign_doorSide ..))

theorem resultWritten_leads (b : Bool) : Leads f s (s.resultWritten f b) := by
  have taken : Leads f s ((s.quietOfMap f).takeByGrade f) := leads_of_eq (by simp)
  simp only [State.resultWritten]
  refine Leads.then_eq (Leads.trans ?_ issueIfDue_leads) (reportAlignment_doorSide ..)
  split
  · exact taken.trans (recheck_leads _)
  · exact taken

theorem enterStopped_leads (c : BerthCause) : Leads f s (s.enterStopped f c) :=
  ((leads_of_eq (by simp)).trans (resultWritten_leads true)).then_eq (recomputeClp_doorSide ..)

theorem emptyIfClear_leads : Leads f s (s.emptyIfClear f) := by
  simp only [State.emptyIfClear]
  split
  · exact enterEmpty_leads _
  · exact .refl

theorem depart_leads : Leads f s (s.depart f) :=
  
  ((moveBerth_leads _ _ _).then_eq ((discardPosted_doorSide ..).trans (clearAlign_doorSide ..))).trans emptyIfClear_leads

theorem arrive_leads : Leads f s (s.arrive f) := by
  simp only [State.arrive]
  split
  · split
    · exact (moveBerth_leads _ _ _).then_eq (report_doorSide ..)
    · exact moveBerth_leads _ _ _
  · exact (moveBerth_leads _ _ _).then_eq (reportSlow_doorSide ..)

theorem approachOver_leads : Leads f s (s.approachOver f) := by
  simp only [State.approachOver]
  split
  · exact (moveBerth_leads _ _ _).then_eq (reportSlow_doorSide ..)
  · exact (enterEmpty_leads _).then_eq (reportSlow_doorSide ..)

theorem ab1Changed_leads (v : Bool) : Leads f s (s.ab1Changed f v) := by
  simp only [State.ab1Changed, State.startApproach]
  split
  · exact (leads_of_eq (by simp)).trans (moveBerth_leads _ _ _)
  · exact (leads_of_eq (by simp)).trans emptyIfClear_leads

theorem ab2Changed_leads (v : Bool) : Leads f s (s.ab2Changed f v) := by
  simp only [State.ab2Changed]
  split
  · exact (leads_of_eq (by simp)).trans arrive_leads
  · exact (leads_of_eq (by simp)).trans emptyIfClear_leads

theorem swChanged_leads (i : Fin 25) (v : Bool) : Leads f s (s.swChanged f i v) := by
  have beam : Leads f s (s.mapBeams f (fun b => { b with sw := put b.sw i v })) := leads_of_eq (by simp)
  simp only [State.swChanged]
  split
  case h_1 | h_2 | h_3 | h_4 =>
    split
    · exact beam.trans (enterSettling_leads _)
    · exact beam
  case h_5 => exact beam.then_eq (mapBerth_doorSide ..)
  case h_6 =>
    split
    · exact beam.trans (reBerth_leads _)
    · exact beam.then_eq (enterMoved_doorSide ..)
  case h_7 => exact beam.trans emptyIfClear_leads
  case h_8 => exact beam

theorem recompute_leads : Leads f s (s.recompute f) := by
  simp only [State.recompute]
  split
  · exact .refl
  · exact (leads_of_eq (by simp)).trans (resultWritten_leads _)

theorem arrivalTaken_leads (c : Consist) : Leads f s (s.arrivalTaken f c) := by
  have stored : Leads f s (s.storeConsist f c) := leads_of_eq (by simp)
  simp only [State.arrivalTaken]
  split
  case h_1 => exact moveBerth_leads _ _ _
  case h_2 => exact stored.trans recompute_leads
  case h_3 | h_4 | h_5 | h_6 => exact stored
  case h_7 | h_8 => exact .refl

theorem ackBerth_leads : Leads f s (s.ackBerth f) := by
  simp only [State.ackBerth]
  split
  · exact enterSettling_leads _
  · exact enterEmpty_leads _

end
end Sys2Proof.Machine
end

section
namespace Sys2Proof.Machine
open DoorSide

section
variable {s t u : State} {f : Face} {j k : DoorIx}

/-! ### Grants add no entry -/

theorem takeHead_queue (p q : GroupIx) (rest : List Entry) :
    ((s.takeHead f p rest).group f q).queue = if q = p then rest else (s.group f q).queue := by
  have h := congrArg (fun a => a.queue q) (takeHead_doorSide (s := s) (f := f) p rest)
  simpa [State.doorSide, Function.update_apply] using! h

theorem grantOnce_sublist (p q : GroupIx) : (((s.grantOnce f p).group f q).queue).Sublist (s.group f q).queue := by
  rcases grantOnce_cases (s := s) (f := f) p with h | ⟨e, rest, hq, -, h⟩
  · rw [h]
  · have head : ((s.takeHead f p rest).group f q).queue.Sublist (s.group f q).queue := by
      rw [takeHead_queue]
      split
      · next hp => rw [hp, hq]; exact List.sublist_cons_self ..
      · exact List.Sublist.refl _
    rw [h]
    split <;> simpa using head

theorem evalGrants_sublist (p q : GroupIx) : (((s.evalGrants f p).group f q).queue).Sublist (s.group f q).queue :=
  (((grantOnce_sublist p q).trans (grantOnce_sublist p q)).trans (grantOnce_sublist p q)).trans (grantOnce_sublist p q)

theorem evalIfHead_sublist (p q : GroupIx) : (((s.evalIfHead f p j).group f q).queue).Sublist (s.group f q).queue := by
  unfold State.evalIfHead
  split
  · exact evalGrants_sublist p q
  · exact List.Sublist.refl _

/-- The entry of a door unit that is placed is no entry of another. -/
theorem placeEntry_noEntry (m : Motion) (c : ReqClass) (hk : k ≠ j) {q : GroupIx} (h : s.noEntry f q k) :
    (s.placeEntry f j m c).noEntry f q k := by
  intro e he
  have he := (evalIfHead_sublist (s := s.mapGroup f (s.groupOf f j) _) _ q).subset he
  by_cases hq : q = s.groupOf f j
  · subst hq
    rw [mapGroup_group, mem_joinQueue] at he
    rcases he with rfl | he
    · exact hk.symm
    · exact h e he
  · rw [mapGroup_group_other _ _ _ _ hq] at he
    exact h e he

/-! ### FACE RESET (R91) -/

/-- An UNLATCHED or CLOSE_WAIT door unit that holds no entry is handed over again (R27, R60). -/
theorem afterFaceReset_leads (hj : (s.doorSide f).Free j) : Leads f s (s.afterFaceReset f j) := by
  unfold State.afterFaceReset
  split
  · next hu =>
    have timed : Leads f s (s.mapDoor f j (fun d => { d with timer := some (s.startTimer (s.par f).unlatchSettle) })) :=
      leads_of_move <| by
        rw [mapDoor_doorSide]
        exact .settles j _ hu hj
    dsimp only
    split
    · refine timed.trans (openEntry_leads (by simpa using hu) ?_)
      rw [mapDoor_doorSide]
      exact hj
    · exact timed
  · next hc => exact decideDeferral_leads hc hj
  · exact .refl

theorem afterFaceReset_noEntry (hk : k ≠ j) {q : GroupIx} (h : s.noEntry f q k) : (s.afterFaceReset f j).noEntry f q k := by
  have opened : ∀ {t : State}, t.noEntry f q k → (t.openEntry f j).noEntry f q k := fun {t} h => by
    refine placeEntry_noEntry _ _ hk ?_
    simpa [State.noEntry, State.group] using h
  have waited : ∀ {t : State}, t.noEntry f q k → (t.decideDeferral f j).noEntry f q k := fun {t} h => by
    unfold State.decideDeferral
    dsimp only
    split
    · refine placeEntry_noEntry _ _ hk ?_
      simpa [State.noEntry, State.group] using h
    · simpa [State.noEntry, State.group] using h
  unfold State.afterFaceReset
  split
  · have timed : (s.mapDoor f j (fun d => { d with timer := some (s.startTimer (s.par f).unlatchSettle) })).noEntry f q k := by
      simpa [State.noEntry, State.group] using h
    dsimp only
    split
    · exact opened timed
    · exact timed
  · exact waited h
  · exact h

/-- Door units that hold no entry are handed over one by one, each before it holds one. -/
theorem forEach_afterFaceReset_leads (js : List DoorIx) (hn : js.Nodup) (h : ∀ k ∈ js, ∀ q, s.noEntry f q k) :
    Leads f s (forEach js (State.afterFaceReset f) s) := by
  induction js generalizing s with
  | nil => exact .refl
  | cons j js ih =>
    obtain ⟨hj, hn⟩ := List.nodup_cons.1 hn
    refine (afterFaceReset_leads (h j List.mem_cons_self _)).trans (ih hn fun k hk q => ?_)
    exact afterFaceReset_noEntry (by rintro rfl; exact hj hk) (h k (List.mem_cons_of_mem _ hk) q)

theorem fitted_nodup (s : State) (f : Face) : (s.fitted f).Nodup := (List.nodup_finRange 32).filter _

theorem emptyQueues_queue (p : GroupIx) : ((s.emptyQueues f).group f p).queue = [] := by
  simp [State.emptyQueues, State.group]

theorem emptyQueues_leads : Leads f s (s.emptyQueues f) := leads_of_move <| by
  have h : (s.emptyQueues f).doorSide f = { s.doorSide f with queue := fun _ => [] } :=
    doorSide_eq (by simp [State.emptyQueues]) (by simp [State.emptyQueues]) (by simp [State.emptyQueues])
      (fun k => by simp [State.emptyQueues, State.door, State.doorSide])
      (fun k => by simp [State.emptyQueues, State.sense, State.doorSide]) (fun p => emptyQueues_queue p)
  rw [h]
  exact .empties

theorem resetFace_leads : Leads f s (s.resetFace f) := by
  have emptied : ∀ t : State, Leads f t (forEach ((t.emptyQueues f).fitted f) (State.afterFaceReset f) (t.emptyQueues f)) :=
    fun t => emptyQueues_leads.trans (forEach_afterFaceReset_leads _ (fitted_nodup ..) fun k _ q e he => by
      rw [emptyQueues_queue] at he; cases he)
  simp only [State.resetFace]
  split
  · refine Leads.trans (Leads.trans (leads_of_eq ?_) (emptied _)) (revokePossession_leads _)
    simp only [disarmAll_doorSide, clearAlign_doorSide, recomputeClp_doorSide, apply_ite (State.doorSide f),
      reportBerth_doorSide, mapBerth_doorSide, discardPosted_doorSide, mapEngine_doorSide, ite_self]
  · refine Leads.trans (leads_of_eq ?_) (emptied _)
    simp only [disarmAll_doorSide, clearAlign_doorSide, recomputeClp_doorSide, apply_ite (State.doorSide f),
      reportBerth_doorSide, mapBerth_doorSide, discardPosted_doorSide, mapEngine_doorSide, ite_self]

end
end Sys2Proof.Machine
end

section
namespace Sys2Proof.Machine
namespace DoorSide
variable {a b : DoorSide} {j k : DoorIx}

/-! ### What a move can do to one record -/

/-- What one move makes of the record of a door unit: nothing, the record of a state it may enter, that of a request it is
asked, or a timer. -/
inductive Turns (a : DoorSide) (k : DoorIx) (d : DoorRec) : DoorRec → Prop where
  | stays : Turns a k d d
  | enters (st : DoorState) (e : DoorRec) (now : Ms) (h : a.Enters k d e st) : Turns a k d (e.enter st now a.par)
  | asked (e : DoorRec) (h : Asks a.latch d e) : Turns a k d e
  | timed (o : Option Timer) : Turns a k d { d with timer := o }

/-- A write of one record turns each record as the write turns that one. -/
theorem turns_update {e : DoorRec} (h : a.Turns j (a.record j) e) (k : DoorIx) :
    a.Turns k (a.record k) (Function.update a.record j e k) := by
  rcases eq_or_ne k j with rfl | hk
  · rwa [Function.update_self]
  · rw [Function.update_of_ne hk]; exact .stays

/-- One move turns each record alone. -/
theorem Move.turns (m : a.Move b) (k : DoorIx) : a.Turns k (a.record k) (b.record k) := by
  cases m with
  | enters j st e now hf hs h => exact turns_update (.enters st e now h) k
  | asks j e h => exact turns_update (.asked e h) k
  | placesOpen j c now h hj => exact turns_update (.timed none) k
  | settles j t h hj => exact turns_update (.timed (some t)) k
  | placesClose | raises | defers | empties => exact .stays

/-- What no move changes of a door side. -/
theorem Move.static (m : a.Move b) : b.fitted = a.fitted ∧ b.isolated = a.isolated ∧ b.groupOf = a.groupOf ∧ b.par = a.par
    ∧ b.scanDone = a.scanDone ∧ b.latch = a.latch := by
  cases m <;> exact ⟨rfl, rfl, rfl, rfl, rfl, rfl⟩

theorem Path.latch (m : a.Path b) : b.latch = a.latch := by
  induction m with
  | refl => rfl
  | tail _ m ih => exact m.static.2.2.2.2.2.trans ih

theorem Path.par (m : a.Path b) : b.par = a.par := by
  induction m with
  | refl => rfl
  | tail _ m ih => exact m.static.2.2.2.1.trans ih

/-! ### The law of the emergency latch (R133) -/

end DoorSide

/-- A record that may stand under the emergency latch (R133). -/
structure DoorRec.Safe (d : DoorRec) : Prop where
  closeWait : d.state ≠ some .closeWait
  closing : d.state ≠ some .closing
  recloseHold : d.state ≠ some .recloseHold
  locking : d.state ≠ some .locking
  pending : d.state = some .unlatching ∨ d.state = some .unlatched ∨ d.state = some .opening ∨ d.state = some .reversing →
    d.pendingClose = false
  byRequest : d.state = some .reversing → d.reqClass.isSome = true

theorem emergencyLaw_iff {s : State} {f : Face} :
    s.emergencyLaw f ↔ ((s.doorSide f).latch = true → ∀ k, ((s.doorSide f).record k).Safe) := by
  constructor
  · intro h hl k
    obtain ⟨⟨h1, h2, h3, h4⟩, h5, h6⟩ := h hl k
    exact ⟨h1, h2, h3, h4, h5, h6⟩
  · intro h hl k
    obtain ⟨h1, h2, h3, h4, h5, h6⟩ := h hl k
    exact ⟨⟨h1, h2, h3, h4⟩, h5, h6⟩

namespace DoorSide
variable {a b : DoorSide} {j k : DoorIx}

/-- Under the latch a safe record turns into safe ones alone. -/
theorem Turns.safe {d e : DoorRec} (m : a.Turns k d e) (hl : a.latch = true) (h : d.Safe) : e.Safe := by
  obtain ⟨h1, h2, h3, h4, h5, h6⟩ := h
  cases m with
  | stays => exact ⟨h1, h2, h3, h4, h5, h6⟩
  | timed o => exact ⟨h1, h2, h3, h4, h5, h6⟩
  | asked e m =>
    cases m with
    | onTheWay c hs =>
      have hr : d.state ≠ some .reversing := by rcases hs with hs | hs | hs <;> simp [hs]
      exact ⟨h1, h2, h3, h4, fun _ => rfl, fun h => absurd h hr⟩
    | standing hs => constructor <;> simp_all
    | reversing c hs =>
      refine ⟨h1, h2, h3, h4, fun _ => rfl, fun h => ?_⟩
      have := h6 h
      simp only [DoorRec.askReverse]
      split <;> first | rfl | exact this
    | toClose hn hs => rw [hl] at hn; cases hn
  | enters st e now m =>
    cases m with
    | locked | released | fault | stands => constructor <;> simp [DoorRec.enter]
    | unlocks c hi hs => constructor <;> simp [DoorRec.enter, DoorState.clearsPending, DoorRec.startOpen]
    | relocks hs | unlatches hs | opens hs =>
      constructor <;> simp [DoorRec.enter, DoorState.clearsPending, h5 (by simp [hs])]
    | waitsOpened hp hs =>
      have := h5 (by rcases hs with hs | ⟨hs, -⟩ <;> simp [hs])
      rw [hp] at this; cases this
    | waitsAgain hs => exact absurd hs h3
    | waitsAsked hn | waitsObstructed hn | locksAsked hn | locksFound _ hn => rw [hl] at hn; cases hn
    | closes hs => exact absurd hs h1
    | reverses c hs | obstructs hs | locks hs => exact absurd hs h2
    | holds hs hc | givesUp hs hc => simp [hc] at h6; exact absurd hs h6

/-! ### The law of reclose attempts (R21) -/

end DoorSide

/-- Reclose attempts as R7 and R21 bound them. -/
structure DoorRec.Counted (limit : Nat) (d : DoorRec) : Prop where
  bound : d.attempts ≤ limit
  obstructed : d.state = some .obstructed → d.attempts = limit
  zero : d.state = none ∨ d.state = some .locked ∨ d.state = some .standOpen ∨ d.state = some .released
    ∨ d.state = some .fault → d.attempts = 0
  below : d.state = some .unlatching ∨ d.state = some .unlatched ∨ d.state = some .opening ∨ d.state = some .closeWait
    ∨ d.state = some .closing ∨ d.state = some .recloseHold ∨ d.state = some .locking
    ∨ d.state = some .reversing ∧ d.reqClass.isSome = true → d.attempts < limit

namespace DoorSide
variable {a b : DoorSide} {j k : DoorIx}

/-- A counted record turns into counted ones alone, where reclose_max is at least 1. -/
theorem Turns.counted {d e : DoorRec} (m : a.Turns k d e) (hn : 1 ≤ a.par.recloseMax) (h : d.Counted a.par.recloseMax) :
    e.Counted a.par.recloseMax := by
  obtain ⟨h1, h2, h3, h4⟩ := h
  cases m with
  | stays => exact ⟨h1, h2, h3, h4⟩
  | timed o => exact ⟨h1, h2, h3, h4⟩
  | asked e m =>
    cases m with
    | onTheWay c hs =>
      rcases hs with hs | hs | hs <;> exact ⟨h1, by simp [DoorRec.askOpen, hs], by simp [DoorRec.askOpen, hs],
          fun _ => h4 (by simp [hs])⟩
    | standing hs => exact ⟨h1, h2, h3, h4⟩
    | reversing c hs =>
      constructor <;> simp only [DoorRec.askReverse, hs] <;> cases hc : d.reqClass <;> simp_all
      · omega
    | toClose hl hs => exact ⟨h1, h2, h3, h4⟩
  | enters st e now m =>
    cases m with
    | locked | released | fault | stands => constructor <;> simp [DoorRec.enter, DoorState.clearsAttempts]
    | unlocks c hi hs =>
      have : d.attempts < a.par.recloseMax := by
        rcases hs with hs | hs
        · have := h3 (by simp [hs]); omega
        · exact h4 (by simp [hs])
      constructor <;> simp [DoorRec.enter, DoorState.clearsAttempts, DoorRec.startOpen, this, this.le]
    | relocks hs | unlatches hs | opens hs | waitsAgain hs | closes hs | locks hs =>
      have := h4 (by simp [hs])
      constructor <;> simp [DoorRec.enter, DoorState.clearsAttempts, this, this.le]
    | waitsOpened hp hs =>
      have := h4 (by rcases hs with hs | hs <;> simp [hs])
      constructor <;> simp [DoorRec.enter, DoorState.clearsAttempts, this, this.le]
    | waitsAsked hl hs =>
      have := h3 (by simp [hs])
      constructor <;> simp [DoorRec.enter, DoorState.clearsAttempts, this]
      all_goals omega
    | waitsObstructed hl hs =>
      constructor <;> simp [DoorRec.enter, DoorState.clearsAttempts]
      all_goals omega
    | reverses c hs =>
      have := h4 (by simp [hs])
      constructor <;> simp [DoorRec.enter, DoorState.clearsAttempts, DoorRec.startOpen, this, this.le]
    | obstructs hs =>
      have := h4 (by simp [hs])
      constructor <;> simp [DoorRec.enter, DoorState.clearsAttempts, DoorState.clearsClass]
      all_goals omega
    | holds hs hc hn => constructor <;> simp [DoorRec.enter, DoorState.clearsAttempts, hn, hn.le]
    | givesUp hs hc hn =>
      constructor <;> simp [DoorRec.enter, DoorState.clearsAttempts]
      all_goals omega
    | locksAsked hl hs =>
      have := h4 (by rcases hs with hs | hs <;> simp [hs])
      constructor <;> simp [DoorRec.enter, DoorState.clearsAttempts, this, this.le]
    | locksFound x hl hi hs =>
      have := h3 (by rcases hs with hs | hs | hs <;> simp [hs])
      constructor <;> simp [DoorRec.enter, DoorState.clearsAttempts, this]
      all_goals omega

end DoorSide
end Sys2Proof.Machine
end

section
namespace Sys2Proof.Machine

/-! ### What an operation on a door unit leaves of the others -/

section
variable {s t : State} {f : Face} {j k : DoorIx}

theorem evalIfHead_unit {p : GroupIx} (h : s.noEntry f p k) :
    (s.evalIfHead f p j).unit f k = s.unit f k ∧ (s.evalIfHead f p j).noEntry f p k := by
  unfold State.evalIfHead
  split
  · exact evalGrants_unit s f p h
  · exact ⟨rfl, h⟩

/-- A state with the units and the groups of another has its entries. -/
theorem noEntry_congr {p : GroupIx} (h : (t.group f p).queue = (s.group f p).queue) : t.noEntry f p k ↔ s.noEntry f p k := by
  simp only [State.noEntry, h]

theorem placeEntry_unit (m : Motion) (c : ReqClass) (hk : k ≠ j) (h : s.noEntry f (s.groupOf f j) k) :
    (s.placeEntry f j m c).unit f k = s.unit f k := by
  have joined : (s.mapGroup f (s.groupOf f j) (fun x => { x with queue := joinQueue ⟨j, m, c, s.msClock⟩ x.queue })).noEntry f
      (s.groupOf f j) k := by
    intro e he
    rw [mapGroup_group, DoorSide.mem_joinQueue] at he
    rcases he with rfl | he
    · exact hk.symm
    · exact h e he
  exact (evalIfHead_unit joined).1.trans (mapGroup_unit ..)

theorem openEntry_unit (hk : k ≠ j) (h : s.noEntry f (s.groupOf f j) k) : (s.openEntry f j).unit f k = s.unit f k := by
  have hg : (s.mapDoor f j (fun d => { d with timer := none })).groupOf f j = s.groupOf f j := groupOf_of (by simp) f j
  refine (placeEntry_unit _ _ hk ?_).trans (mapDoor_unit s f _ hk)
  rw [hg]
  exact (noEntry_congr (by simp [State.group])).2 h

theorem closeEntry_unit (hk : k ≠ j) (h : s.noEntry f (s.groupOf f j) k) : (s.closeEntry f j).unit f k = s.unit f k := by
  have hg : (s.mapSense f j (fun d => { d with deferral := none })).groupOf f j = s.groupOf f j := groupOf_of (by simp) f j
  refine (placeEntry_unit _ _ hk ?_).trans (mapSense_unit s f _ hk)
  rw [hg]
  exact (noEntry_congr (by simp [State.group])).2 h

theorem enterUnlatched_unit (hk : k ≠ j) (h : s.noEntry f (s.groupOf f j) k) :
    (s.enterUnlatched f j).unit f k = s.unit f k := by
  have told := enterTold_unit s f .unlatched id hk
  unfold State.enterUnlatched
  dsimp only
  split
  · refine (openEntry_unit hk ?_).trans told
    rw [groupOf_of (s := s) (by simp)]
    exact (noEntry_congr (by simp)).2 h
  · exact told

theorem decideDeferral_unit (hk : k ≠ j) (h : s.noEntry f (s.groupOf f j) k) :
    (s.decideDeferral f j).unit f k = s.unit f k := by
  unfold State.decideDeferral
  dsimp only
  split
  · exact closeEntry_unit hk h
  · exact mapSense_unit s f _ hk

theorem removeEntry_noEntry_other (h : s.noEntry f (s.groupOf f j) k) : (s.removeEntry f j).noEntry f (s.groupOf f j) k := by
  have filtered : (s.mapGroup f (s.groupOf f j) (fun x => { x with
      queue := x.queue.filter (fun e => e.door ≠ j) })).noEntry f (s.groupOf f j) k := fun e he => by
    rw [mapGroup_group] at he
    exact h e (List.mem_of_mem_filter he)
  unfold State.removeEntry
  dsimp only
  split
  · exact (evalGrants_unit _ f _ filtered).2
  · exact filtered

/-- Entering a state, with all that follows at once, leaves every other door unit with no entry in the group as it is. -/
theorem enter_unit (st : DoorState) (edit : DoorRec → DoorRec) (hk : k ≠ j) (h : s.noEntry f (s.groupOf f j) k) :
    (s.enter f j st edit).unit f k = s.unit f k := by
  have hg : (s.enterTold f j st edit).groupOf f j = s.groupOf f j := groupOf_of (by simp) f j
  have hr : ((s.enterTold f j st edit).removeEntry f j).groupOf f j = s.groupOf f j := groupOf_of (by simp) f j
  have told : (s.enterTold f j st edit).noEntry f ((s.enterTold f j st edit).groupOf f j) k := by
    rw [hg]; exact (noEntry_congr (by simp)).2 h
  have free : ((s.enterTold f j st edit).removeEntry f j).noEntry f (((s.enterTold f j st edit).removeEntry f j).groupOf f j) k := by
    rw [hr, ← hg]; exact removeEntry_noEntry_other told
  have first : ((s.enterTold f j st edit).removeEntry f j).unit f k = s.unit f k :=
    (removeEntry_unit _ f j (.inr told)).trans (enterTold_unit s f st edit hk)
  cases st
  case unlatching =>
    rw [State.enter]
    split
    · exact first
    · exact (enterUnlatched_unit hk free).trans first
  case closeWait => exact (decideDeferral_unit hk free).trans first
  all_goals exact first

theorem raiseEntry_unit (hk : k ≠ j) (h : s.noEntry f (s.groupOf f j) k) : (s.raiseEntry f j).unit f k = s.unit f k := by
  unfold State.raiseEntry
  dsimp only
  split
  · rfl
  · next e he =>
    have hd : e.door = j := by
      have := List.find?_some he
      simp only [Bool.and_eq_true, decide_eq_true_eq] at this
      exact this.1.1
    refine (evalIfHead_unit fun x hx => ?_).1.trans (mapGroup_unit ..)
    rw [mapGroup_group, DoorSide.mem_joinQueue] at hx
    rcases hx with rfl | hx
    · rw [hd]; exact hk.symm
    · exact h x (List.mem_of_mem_filter hx)

theorem takeOpen_unit (c : ReqClass) (hk : k ≠ j) (h : s.noEntry f (s.groupOf f j) k) :
    (s.takeOpen f j c).1.unit f k = s.unit f k := by
  unfold State.takeOpen
  have asked : (s.mapDoor f j (DoorRec.askOpen c)).noEntry f ((s.mapDoor f j (DoorRec.askOpen c)).groupOf f j) k := by
    rw [groupOf_of (s := s) (by simp)]
    exact (noEntry_congr (by simp [State.group])).2 h
  split
  case h_1 | h_2 | h_3 => rfl
  case h_4 | h_5 =>
    split
    · exact enter_unit _ _ hk h
    · rfl
  case h_6 | h_7 | h_9 | h_14 => exact mapDoor_unit s f _ hk
  case h_8 =>
    dsimp only
    split
    · exact (raiseEntry_unit hk asked).trans (mapDoor_unit s f _ hk)
    · exact mapDoor_unit s f _ hk
  case h_10 | h_11 | h_12 => exact enter_unit _ _ hk h
  case h_13 => exact (recordStart_unit ..).trans (enter_unit _ _ hk h)

theorem takeClose_unit (hk : k ≠ j) (h : s.noEntry f (s.groupOf f j) k) : (s.takeClose f j).1.unit f k = s.unit f k := by
  unfold State.takeClose
  split
  case h_4 | h_5 | h_7 | h_8 => exact enter_unit _ _ hk h
  case h_6 => exact mapDoor_unit s f _ hk
  case h_9 =>
    dsimp only
    split
    · exact mapDoor_unit s f _ hk
    · rfl
  all_goals rfl

/-- A request of one door unit leaves every other with no entry in the group as it is. -/
theorem request_unit (r : DoorRequest) (hk : k ≠ j) (h : s.noEntry f (s.groupOf f j) k) :
    (s.request f j r).1.unit f k = s.unit f k := by
  unfold State.request
  split
  · rfl
  · split
    · rfl
    · cases r with
      | close =>
        dsimp only
        split
        · rfl
        · exact takeClose_unit hk h
      | open_ => exact takeOpen_unit _ hk h
      | emergencyOpen => exact takeOpen_unit _ hk h

theorem emergencyIfLocked_unit (hk : k ≠ j) (h : s.noEntry f (s.groupOf f j) k) :
    (s.emergencyIfLocked f j).unit f k = s.unit f k := by
  unfold State.emergencyIfLocked
  split
  · exact request_unit _ hk h
  · rfl

/-- Entering a state gives no other door unit an entry. -/
theorem enter_noEntry (st : DoorState) (edit : DoorRec → DoorRec) (hk : k ≠ j) (h : s.noEntry f (s.groupOf f j) k) :
    (s.enter f j st edit).noEntry f (s.groupOf f j) k := by
  have hg : (s.enterTold f j st edit).groupOf f j = s.groupOf f j := groupOf_of (by simp) f j
  have first : ((s.enterTold f j st edit).removeEntry f j).noEntry f (s.groupOf f j) k := by
    rw [← hg]
    refine removeEntry_noEntry_other ?_
    rw [hg]; exact (noEntry_congr (by simp)).2 h
  have opened : ∀ {t : State}, t.noEntry f (s.groupOf f j) k → (t.openEntry f j).noEntry f (s.groupOf f j) k := fun h =>
    placeEntry_noEntry _ _ hk ((noEntry_congr (by simp [State.group])).2 h)
  have waited : ∀ {t : State}, t.noEntry f (s.groupOf f j) k → (t.decideDeferral f j).noEntry f (s.groupOf f j) k :=
    fun {t} h => by
      unfold State.decideDeferral
      dsimp only
      split
      · exact placeEntry_noEntry _ _ hk ((noEntry_congr (by simp [State.group])).2 h)
      · exact (noEntry_congr (by simp [State.group])).2 h
  cases st
  case unlatching =>
    rw [State.enter]
    split
    · exact first
    · unfold State.enterUnlatched
      dsimp only
      split
      · exact opened ((noEntry_congr (by simp)).2 first)
      · exact (noEntry_congr (by simp)).2 first
  case closeWait => exact waited first
  all_goals exact first

/-- Resolution of a door unit leaves every other with no entry in the group as it is. -/
theorem resolve_unit (hk : k ≠ j) (h : s.noEntry f (s.groupOf f j) k) : (s.resolve f j).unit f k = s.unit f k := by
  unfold State.resolve
  dsimp only
  split
  · rfl
  · refine (emergencyIfLocked_unit hk ?_).trans (enter_unit _ _ hk h)
    rw [groupOf_of (s := s) (by simp)]
    exact enter_noEntry _ _ hk h

end
end Sys2Proof.Machine
end

section
namespace Sys2Proof.Machine
open DoorSide

/-! ### Laws of a door side that every command keeps -/

/-- A door side whose positions are fitted, grouped and isolated anew: one that stops or starts being fitted loses its record and
its deferral (R5, R66). -/
def DoorSide.refit (a : DoorSide) (fitted : DoorIx → Bool) (groupOf : DoorIx → GroupIx) : DoorSide := { a with
  fitted := fitted
  groupOf := groupOf
  isolated := fun k => fitted k && a.isolated k
  record := fun k => if a.fitted k = fitted k then a.record k else DoorRec.blank
  deferral := fun k => if a.fitted k = fitted k then a.deferral k else none }

/-- A law `L` of the door side of a face that the moves keep, and that the few commands keep which change what no move changes:
a start, the first scan, the setting and the clearing of the latch, ISOLATE and RESTORE, and writes of parameters and geometry.
`G` is what the law asks of the Face Parameter Sets. -/
structure FaceLaw (G : Params → Prop) (L : DoorSide → Prop) : Prop where
  settings : ∀ {a}, L a → G a.par
  written : ∀ {pl xs p}, readParams pl = some xs → G p → G (xs.foldl (fun q x => q.put x.1 x.2.1) p)
  queue : ∀ {a}, L a → a.QueueLaw
  move : ∀ {a b}, L a → a.Move b → L b
  start : ∀ {a : DoorSide}, G a.par → a.scanDone = false → (∀ k, a.record k = DoorRec.blank) → (∀ k, a.deferral k = none) →
    (∀ p, a.queue p = []) → L a
  scan : ∀ {a}, L a → L { a with scanDone := true }
  alarm : ∀ (s : State) (f : Face) (c : Byte), L (s.doorSide f) → L ((s.setLatch f c).doorSide f)
  calm : ∀ {a}, L a → L { a with latch := false }
  isolate : ∀ {a j}, L a → (a.record j).state = some .locked → L { a with isolated := Function.update a.isolated j true }
  restore : ∀ {a j}, L a → L { a with isolated := Function.update a.isolated j false }
  params : ∀ {a p}, L a → G p → (∀ k, a.fitted k = true → (a.record k).state = some .locked) → L { a with par := p }
  refit : ∀ {a} (fitted groupOf), L a → (∀ k, a.fitted k = true → (a.record k).state = some .locked) →
    L (a.refit fitted groupOf)

/-- A law of the door sides of both faces. -/
def Holds (L : DoorSide → Prop) (s : State) : Prop := ∀ g, L (s.doorSide g)

section
variable {L : DoorSide → Prop} {s t : State} {f : Face}

theorem Holds.congr (h : Holds L s) (e : ∀ g, t.doorSide g = s.doorSide g) : Holds L t := fun g => e g ▸ h g

/-- What an operation on a face makes of both faces. -/
theorem Holds.on_face (h : Holds L s) (ho : t.outside f = s.outside f) (hf : L (t.doorSide f)) : Holds L t := fun g => by
  by_cases hg : g = f
  · exact hg ▸ hf
  · rw [doorSide_of_outside hg ho]; exact h g

theorem Holds.mapLink (h : Holds L s) (l : Link) (k : LinkState → LinkState) : Holds L (s.mapLink l k) :=
  h.congr fun g => mapLink_doorSide s g l k

end

/-! ### The first complete scan -/

theorem setInputs_face (v : Vector DoorInputs 64) (s : State) (g : Face) :
    (s.setInputs v).face g = { s.face g with inputs := Vector.ofFn (fun j : Fin 32 => v[fieldPosition g j]) } := by
  cases g <;> rfl

theorem setInputs_doorSide (v : Vector DoorInputs 64) (s : State) (g : Face) :
    (s.setInputs v).doorSide g = s.doorSide g := by
  have hd : ((s.setInputs v).face g).doors = (s.face g).doors := by rw [setInputs_face]
  have hs : ((s.setInputs v).face g).sense = (s.face g).sense := by rw [setInputs_face]
  have hq : ((s.setInputs v).face g).groups = (s.face g).groups := by rw [setInputs_face]
  have hm : ((s.setInputs v).face g).mode = (s.face g).mode := by rw [setInputs_face]
  have hc : (s.setInputs v).config = s.config := by simp only [State.setInputs]
  have hn : (s.setInputs v).scanDone = s.scanDone := by simp only [State.setInputs]
  exact doorSide_of hc hn (by rw [hm]) (fun k => by simp only [State.door, hd]) (fun k => by simp only [State.sense, hs])
    (fun p => by simp only [State.group, hq])

/-- The scan is marked complete (R4). -/
def State.markScanned (s : State) : State := { s with scanDone := true }

theorem markScanned_face (s : State) (g : Face) : s.markScanned.face g = s.face g := by cases g <;> rfl

theorem markScanned_doorSide (s : State) (g : Face) : s.markScanned.doorSide g = { s.doorSide g with scanDone := true } := by
  have hc : s.markScanned.config = s.config := rfl
  exact DoorSide.ext (funext (isFitted_of hc g)) (funext (isolated_of hc g)) (funext (groupOf_of hc g)) (par_of hc g)
    rfl (by simp only [State.doorSide, markScanned_face])
    (funext fun k => by simp only [State.doorSide, State.door, markScanned_face])
    (funext fun k => by simp only [State.doorSide, State.sense, markScanned_face])
    (funext fun p => by simp only [State.doorSide, State.group, markScanned_face])

theorem firstScan_eq (v : Vector DoorInputs 64) (s : State) : s.firstScan v =
    ((s.setInputs v).markScanned.resolveNew .f0 ((s.setInputs v).markScanned.fitted .f0)).resolveNew .f1
      ((s.setInputs v).markScanned.fitted .f1) := rfl

namespace FaceLaw
variable {G : Params → Prop} {L : DoorSide → Prop} (hL : FaceLaw G L) {s t : State} {f : Face}
include hL

theorem path {a b : DoorSide} (h : L a) (m : a.Path b) : L b := by
  induction m with
  | refl => exact h
  | tail _ m ih => exact hL.move ih m

theorem leads (m : Leads f s t) (h : L (s.doorSide f)) : L (t.doorSide f) := hL.path h (m (hL.queue h))

/-- An operation on a face that moves its door units keeps the law of both faces. -/
theorem on_face (h : Holds L s) (m : Leads f s t) (ho : t.outside f = s.outside f) : Holds L t :=
  h.on_face ho (hL.leads m (h f))

theorem drain (h : Holds L s) : Holds L s.drain := fun g => hL.leads drain_leads (h g)

/-! ### The latch -/

omit hL in
theorem mapLatch_doorSide (s : State) (f : Face) (v : Bool) :
    (s.mapMode f (fun m => { m with latch := v })).doorSide f = { s.doorSide f with latch := v } := by
  have hc : (s.mapMode f (fun m => { m with latch := v })).config = s.config := by simp
  exact DoorSide.ext (funext (isFitted_of hc f)) (funext (isolated_of hc f)) (funext (groupOf_of hc f)) (par_of hc f)
    (by simp [State.doorSide]) (by simp [State.doorSide]) (funext fun k => by simp [State.doorSide, State.door])
    (funext fun k => by simp [State.doorSide, State.sense]) (funext fun p => by simp [State.doorSide, State.group])

/-- RELEASED door units are resolved one by one, each still in RELEASED when its turn comes. -/
theorem resolve_released (js : List DoorIx) (hn : js.Nodup) (hr : ∀ k ∈ js, (s.door f k).state = some .released)
    (h : L (s.doorSide f)) : L ((forEach js (State.resolve f) s).doorSide f) := by
  induction js generalizing s with
  | nil => exact h
  | cons j js ih =>
    obtain ⟨hj, hn⟩ := List.nodup_cons.1 hn
    refine ih (s := s.resolve f j) hn (fun k hk => ?_) (hL.leads (resolve_leads (.inl (hr j List.mem_cons_self))) h)
    have rk := hr k (List.mem_cons_of_mem _ hk)
    have free := (hL.queue h).free_of_state (j := k) (show (s.door f k).state ≠ _ by simp [rk])
      (show (s.door f k).state ≠ _ by simp [rk])
    have := congrArg Prod.fst (resolve_unit (j := j) (by rintro rfl; exact hj hk) ((hL.queue h).free_any free _))
    rw [← rk]
    exact congrArg DoorRec.state this

theorem clearLatch (h : Holds L s) : Holds L (s.clearLatch f) := by
  refine h.on_face (clearLatch_outside ..) ?_
  have cleared : L (((s.mapMode f (fun m => { m with latch := false })).recomputeClp f none).doorSide f) := by
    rw [recomputeClp_doorSide, mapLatch_doorSide]
    exact hL.calm (h f)
  rw [State.clearLatch, reportEmergency_doorSide]
  refine hL.resolve_released _ ((fitted_nodup ..).filter _) (fun k hk => ?_) cleared
  simp only [State.waitingReleased, List.mem_filter, Bool.and_eq_true, decide_eq_true_eq] at hk
  exact hk.2.1

theorem setLatch (c : Byte) (h : Holds L s) : Holds L (s.setLatch f c) :=
  h.on_face (setLatch_outside ..) (hL.alarm s f c (h f))

theorem eoiAccepted (v : Bool) (h : Holds L s) : Holds L (s.eoiAccepted f v) := by
  have noted : Holds L (s.mapMode f (fun m => { m with eoi := v })) :=
    h.congr fun g => mapMode_doorSide s g f _ (by intro; rfl)
  simp only [State.eoiAccepted]
  (repeat' split)
  · exact h
  · exact noted.congr fun g => reportEmergency_doorSide ..
  · exact hL.setLatch 0 noted
  · exact noted

/-! ### Start and first scan -/

theorem firstKey (o : Option KeyPos) (h : Holds L s) : Holds L (s.firstKey f o) := by
  cases o with
  | none => exact h
  | some pos => exact hL.on_face h (keyAccepted_leads _) (keyAccepted_outside ..)

/-- A start gives both faces blank door units (R27, R39, R59). -/
theorem started (cause : ResetCause) (r : StartReadings)
    (hG : G s.nvAfterCut.load.config.par0 ∧ G s.nvAfterCut.load.config.par1) : Holds L (s.start cause r) := by
  refine hL.firstKey _ (hL.firstKey _ fun g => hL.start (by cases g; exacts [hG.1, hG.2]) rfl (fun k => ?_) (fun k => ?_)
    (fun p => ?_))
  · cases g <;> simp [State.doorSide, State.door, State.face, State.startValues, faceAtStart, FaceState.start]
  · cases g <;> simp [State.doorSide, State.sense, State.face, State.startValues, faceAtStart, FaceState.start, DoorSense.blank]
  · cases g <;> simp [State.doorSide, State.group, State.face, State.startValues, faceAtStart, FaceState.start, Group.blank]

/-- Every fitted door unit of both faces is resolved (R27). -/
theorem resolved (hs : s.scanDone = true) (hn : ∀ g k, (s.door g k).state = none) (h : Holds L s) :
    Holds L ((s.resolveNew .f0 (s.fitted .f0)).resolveNew .f1 (s.fitted .f1)) := by
  have outside := resolveNew_outside s .f0 (s.fitted .f0)
  have first : Holds L (s.resolveNew .f0 (s.fitted .f0)) := hL.on_face h
    (resolveNew_leads _ (fitted_nodup ..) hs (fun k hk => (List.mem_filter.1 hk).2) fun k _ => hn .f0 k) outside
  refine hL.on_face first (resolveNew_leads _ (fitted_nodup ..) (by simpa using hs) (fun k hk => ?_) fun k _ => ?_)
    (resolveNew_outside ..)
  · rw [isFitted_of (s := s) (by simp)]
    exact (List.mem_filter.1 hk).2
  · have same : (s.resolveNew .f0 (s.fitted .f0)).door .f1 k = s.door .f1 k :=
      congrArg (fun a => a.record k) (doorSide_of_outside (g := .f1) (by decide) outside)
    rw [same]
    exact hn .f1 k

theorem firstScan (v : Vector DoorInputs 64) (hs : s.scanDone = false) (h : Holds L s) : Holds L (s.firstScan v) := by
  have side : ∀ g, (s.setInputs v).markScanned.doorSide g = { s.doorSide g with scanDone := true } := fun g => by
    rw [markScanned_doorSide, setInputs_doorSide]
  rw [firstScan_eq]
  refine hL.resolved rfl (fun g k => ?_) fun g => side g ▸ hL.scan (h g)
  have same : (s.setInputs v).markScanned.door g k = s.door g k := congrArg (fun a => a.record k) (side g)
  rw [same]
  exact (hL.queue (h g)).unscanned hs k

end FaceLaw
end Sys2Proof.Machine
end

section
namespace Sys2Proof.Machine
open DoorSide

/-! SUPPORT. A law of the door sides of both faces is kept by every step: the decisions of the requests, the events, and the
taking of a frame. -/

namespace FaceLaw
variable {G : Params → Prop} {L : DoorSide → Prop} (hL : FaceLaw G L) {s t : State} {f : Face}

/-! ### Events and frames -/

theorem of_event {op : State → State} (hL : FaceLaw G L) (h : Holds L s) (ho : Holds L (op s)) (he : s.event op = .next t) :
    Holds L t := by
  unfold State.event at he
  cases hp : s.powered
  · simp only [hp, Bool.false_eq_true, if_false, Host.Outcome.next.injEq] at he; exact he ▸ h
  · simp only [hp, if_true, Host.Outcome.next.injEq] at he; exact he ▸ hL.drain ho

/-- A timer's expiry acts on the state that the clock reaches, whose door sides are the same. -/
theorem of_expiry {op : State → State} {o : Option Timer} (h : Holds L s)
    (ho : ∀ u m, o = some m → (∀ g, u.doorSide g = s.doorSide g) → Holds L u → Holds L (op u)) : Holds L (s.expiry o op) := by
  cases o with
  | none => exact h
  | some m => exact ho _ m rfl (fun g => reach_doorSide ..) (h.congr fun g => reach_doorSide ..)

theorem of_beamChange {op : State → State} (held v : Bool) (a : Us) (h : Holds L s) (ho : ∀ u, Holds L u → Holds L (op u)) :
    Holds L (s.beamChange held v a op) := by
  unfold State.beamChange
  split
  · exact h
  · exact ho _ (h.congr fun g => reachMicros_doorSide ..)

theorem silence_doorSide (x : State) (g : Face) (a : Option Timer) (b : Bool) :
    ({ x with silence := a, ilLost := b } : State).doorSide g = x.doorSide g := doorSide_of_face rfl rfl (by cases g <;> rfl)

theorem frameArrives_doorSide (l : Link) (x : Frame) (s : State) (g : Face) : (s.frameArrives l x).doorSide g = s.doorSide g :=
  frameArrives_keeps (State.doorSide g) (fun _ _ _ => mapLink_doorSide ..) (fun x a b => silence_doorSide x g a b) l x s

theorem present_doorSide (l : Link) (x : Frame) (s : State) (g : Face) : (s.present l x).doorSide g = s.doorSide g := by
  unfold State.present
  split
  · rfl
  · exact frameArrives_doorSide ..

theorem popFrame_doorSide (l : Link) (s : State) (g : Face) : (s.popFrame l).doorSide g = s.doorSide g := mapLink_doorSide ..

/-- A reply and the clearing of the overruns change links alone. -/
theorem reply_doorSide (l : Link) (x y : Frame) (c : ResultCode) (s : State) (g : Face) :
    ((s.clearOverruns l x c).sendReply l y).doorSide g = s.doorSide g := by
  rw [sendReply_keeps (State.doorSide g) (fun _ _ _ => mapLink_doorSide ..)]
  unfold State.clearOverruns
  split
  · exact mapLink_doorSide ..
  · rfl

theorem serve {l : Link} {x : Frame} {d : State → State × Reply} (hL : FaceLaw G L) (hd : ∀ u, Holds L u → Holds L (d u).1)
    (h : Holds L s) : Holds L (s.serve l x d) := by
  have here : Holds L (s.present l x) := h.congr (present_doorSide l x s)
  unfold State.serve
  dsimp only
  (repeat' split)
  · exact (hL.drain (hd _ (here.congr (popFrame_doorSide l _)))).congr fun g => reply_doorSide ..
  · exact hL.drain here
  · exact h

theorem dropFrame {l : Link} {x : Frame} (hL : FaceLaw G L) (h : Holds L s) : Holds L (s.dropFrame l x) := by
  have here : Holds L (s.present l x) := h.congr (present_doorSide l x s)
  unfold State.dropFrame
  dsimp only
  (repeat' split)
  · exact hL.drain (here.congr (popFrame_doorSide l _))
  · exact hL.drain here
  · exact h

/-! ### The shapes of decisions -/

theorem of_withFace {p : List Byte} {k : Face → State → State × Reply} (h : Holds L s) (hk : ∀ f, Holds L (k f s).1) :
    Holds L (withFace p k s).1 := by
  unfold withFace
  split
  · exact h
  · exact hk _

theorem of_withDoor {p : List Byte} {k : Face → DoorIx → State → State × Reply} (h : Holds L s)
    (hk : ∀ f j, s.isFitted f j = true → Holds L (k f j s).1) : Holds L (withDoor p k s).1 := by
  unfold withDoor
  (repeat' split)
  · next hj => exact hk _ _ hj
  · exact h
  · exact h

theorem of_unlessCommit {k : State → State × Reply} (h : Holds L s) (hk : Holds L (k s).1) : Holds L (unlessCommit k s).1 := by
  unfold unlessCommit
  split
  · exact h
  · exact hk

theorem of_checked {o : Owner} {l : Link} {b : Bool} {d : State → State × Reply} (h : Holds L s) (hd : Holds L (d s).1) :
    Holds L (checked o l b d s).1 := by
  unfold checked
  (repeat' split)
  · exact h
  · exact h
  · exact hd

/-! ### Decisions on a face -/

section Decisions
variable (p : List Byte)
include hL

theorem tryNotice (us : List (Fin 16 × Orientation)) (h : Holds L s) : Holds L (s.tryNotice f us).1 := by
  have take : ∀ c : Consist, Holds L (s.arrivalTaken f c) := fun c => hL.on_face h (arrivalTaken_leads _) (arrivalTaken_outside ..)
  unfold State.tryNotice
  (repeat' split) <;> first | exact h | exact take _

theorem arrival (h : Holds L s) : Holds L (decideArrival p s).1 := of_withFace h fun f => by
  split
  · exact h
  · exact hL.tryNotice _ h

theorem release (h : Holds L s) : Holds L (decideRelease p s).1 := of_withFace h fun f => by
  dsimp only [accepted]
  (repeat' split) <;> first | exact h | exact hL.on_face h giveRelease_leads (giveRelease_outside ..)

theorem withdraw (h : Holds L s) : Holds L (decideWithdraw p s).1 :=
  of_withFace h fun _ => hL.on_face h withdraw_leads (withdraw_outside ..)

theorem atRest (h : Holds L s) : Holds L (decideAtRest p s).1 := of_withFace h fun f => by
  split
  · exact hL.on_face h (enterStopped_leads _) (enterStopped_outside ..)
  · exact h

theorem departed (h : Holds L s) : Holds L (decideDeparted p s).1 := of_withFace h fun f => by
  split
  · exact hL.on_face h depart_leads (depart_outside ..)
  · exact h

omit hL in
theorem grant (h : Holds L s) : Holds L (decideGrant p s).1 := of_withFace h fun f => by
  (repeat' split)
  · exact h
  · exact h
  · exact h.congr fun g => grantPossession_doorSide ..

theorem revoke (h : Holds L s) : Holds L (decideRevoke p s).1 :=
  of_withFace h fun _ => hL.on_face h (revokePossession_leads _) (revokePossession_outside ..)

theorem commandOpen (x : Selection) (h : Holds L s) : Holds L (s.commandOpen f x).1 := by
  have posts := hL.on_face h (openSelection_leads (f := f) x.sections x.doorMask .supervisory) (openSelection_outside ..)
  unfold State.commandOpen
  dsimp only
  (repeat' split)
  · exact hL.on_face h (requestAll_leads _ _) (requestAll_outside ..)
  all_goals exact posts

theorem doorCommand (h : Holds L s) : Holds L (decideDoorCommand p s).1 := of_withFace h fun f => by
  (repeat' split)
  · exact h
  · exact h
  · exact h
  · exact hL.commandOpen _ h
  · exact hL.on_face h (requestAll_leads _ _) (requestAll_outside ..)

theorem doorReset (h : Holds L s) : Holds L (decideDoorReset p s).1 := of_withDoor h fun f j _ => by
  split
  · next hd => exact hL.on_face h (resolve_leads (.inr hd)) (resolve_outside ..)
  · exact h

omit hL in
theorem ackGap (h : Holds L s) : Holds L (decideAckGap p s).1 := of_withDoor h fun f j _ => by
  split
  · exact h.congr fun g => leaveZone_doorSide ..
  · exact h

theorem faceReset (h : Holds L s) : Holds L (decideFaceReset p s).1 :=
  of_withFace h fun _ => hL.on_face h resetFace_leads (resetFace_outside ..)

theorem berthAck (h : Holds L s) : Holds L (decideBerthAck p s).1 := of_withFace h fun f => by
  (repeat' split)
  · exact h
  · exact h
  · exact hL.on_face h ackBerth_leads (ackBerth_outside ..)

theorem evacuate (h : Holds L s) : Holds L (decideEvacuate p s).1 := of_withFace h fun f => by
  show Holds L (if (s.face f).mode.latch then s else s.setLatch f 1)
  split
  · exact h
  · exact hL.setLatch 1 h

theorem emergencyClear (h : Holds L s) : Holds L (decideEmergencyClear p s).1 := of_withFace h fun f => by
  split
  · exact h
  · show Holds L (if (s.face f).mode.latch then s.clearLatch f else s)
    split
    · exact hL.clearLatch h
    · exact h

theorem startProgram (h : Holds L s) : Holds L (decideStart p s).1 := of_withFace h fun f => by
  (repeat' split) <;> first | exact h | exact hL.on_face h (startAt_leads _ _) (startAt_outside ..)

omit hL in
theorem haltProgram (h : Holds L s) : Holds L (decideHalt p s).1 := of_withFace h fun _ => h.congr fun _ => haltProgram_doorSide ..

theorem resumeProgram (h : Holds L s) : Holds L (decideResume p s).1 := of_withFace h fun f => by
  (repeat' split) <;> first | exact h | exact hL.on_face h resumeProgram_leads (resumeProgram_outside ..)

theorem stepProgram (h : Holds L s) : Holds L (decideStep p s).1 := of_withFace h fun f => by
  split
  · exact hL.on_face h issueAction_leads (issueAction_outside ..)
  · exact h

omit hL in
theorem clearErrors (h : Holds L s) : Holds L (decideClearErrors p s).1 :=
  of_withFace h fun _ => h.congr fun _ => mapEngine_doorSide ..

omit hL in
theorem arm (h : Holds L s) : Holds L (decideArm p s).1 := of_withFace h fun f => by
  (repeat' split) <;> first | exact h | exact h.congr fun g => mapEngine_doorSide ..

omit hL in
theorem disarm (h : Holds L s) : Holds L (decideDisarm p s).1 :=
  of_withFace h fun _ => h.congr fun _ => mapEngine_doorSide ..

omit hL in
theorem modeBody (o : Option Face) (h : Holds L s) : Holds L (s.modeBody o).1 := by
  cases o with
  | none => exact h.congr fun g => doorSide_of_face rfl rfl (by cases g <;> rfl)
  | some f => exact h

omit hL in
theorem trySetMode (e n : Mode) (g : Byte) (h : Holds L s) : Holds L (s.trySetMode f e g n).1 := by
  unfold State.trySetMode
  dsimp only
  (repeat' split) <;> first | exact h | exact h.congr fun g => changeMode_doorSide ..

theorem setMode (l : Link) (h : Holds L s) : Holds L (decideSetMode l p s).1 := by
  unfold decideSetMode
  refine modeBody _ (hL.drain ?_)
  (repeat' split) <;> first | exact h | exact trySetMode _ _ _ h

end Decisions
end FaceLaw
end Sys2Proof.Machine
end

section
namespace Sys2Proof.Machine
open DoorSide

/-! SUPPORT. What the configuration writes make of a door side, and that a law of the door sides is kept by them. -/

variable {s : State} {f g : Face} {h : WorkingCopy → WorkingCopy}

theorem mapConfig_doorSide (s : State) (g : Face) (h : WorkingCopy → WorkingCopy) :
    (s.mapConfig h).doorSide g = { s.doorSide g with
      fitted := (s.mapConfig h).isFitted g
      isolated := (s.mapConfig h).isolated g
      groupOf := (s.mapConfig h).groupOf g
      par := (s.mapConfig h).par g } := by
  have hd : (s.mapConfig h).door g = s.door g := funext fun k => by simp [State.door]
  have hs : (s.mapConfig h).sense g = s.sense g := funext fun k => by simp [State.sense]
  have hq : (s.mapConfig h).group g = s.group g := funext fun p => by simp [State.group]
  have hm : ((s.mapConfig h).face g).mode = (s.face g).mode := by simp
  have hn : (s.mapConfig h).scanDone = s.scanDone := rfl
  simp only [State.doorSide, hd, hs, hq, hm, hn]

/-- A write that leaves the geometry, the isolation map and the parameters of a face alone. -/
theorem mapConfig_doorSide_same (hg : (s.mapConfig h).geo g = s.geo g) (hi : (s.mapConfig h).iso g = s.iso g)
    (hp : (s.mapConfig h).par g = s.par g) : (s.mapConfig h).doorSide g = s.doorSide g := by
  have fit : (s.mapConfig h).isFitted g = s.isFitted g := funext fun k => by simp [State.isFitted, hg]
  have iso : (s.mapConfig h).isolated g = s.isolated g := funext fun k => by simp [State.isolated, hi]
  have grp : (s.mapConfig h).groupOf g = s.groupOf g := funext fun k => by simp [State.groupOf, hg]
  rw [mapConfig_doorSide, fit, iso, grp, hp]
  rfl

theorem setPar_doorSide (s : State) (f : Face) (p : Params) :
    (s.mapConfig (fun c => c.setPar f p)).doorSide f = { s.doorSide f with par := p } := by
  rw [mapConfig_doorSide]
  cases f <;> rfl

theorem setPar_doorSide_other (hg : g ≠ f) (p : Params) : (s.mapConfig (fun c => c.setPar f p)).doorSide g = s.doorSide g := by
  apply mapConfig_doorSide_same <;> cases f <;> cases g <;> first | exact absurd rfl hg | rfl

theorem setIsolated_doorSide (s : State) (f : Face) (j : DoorIx) (v : Bool) :
    (s.setIsolated f j v).doorSide f = { s.doorSide f with isolated := Function.update (s.isolated f) j v } := by
  have iso : (s.setIsolated f j v).isolated f = Function.update (s.isolated f) j v := funext fun k => by
    have hi : (s.setIsolated f j v).iso f = put (s.iso f) j v := by cases f <;> rfl
    rw [State.isolated, hi]
    by_cases hk : k = j
    · subst hk; simp
    · rw [Function.update_of_ne hk]; exact put_get_other _ _ hk
  have geo : (s.setIsolated f j v).geo f = s.geo f := by cases f <;> rfl
  have par : (s.setIsolated f j v).par f = s.par f := by cases f <;> rfl
  have fit : (s.setIsolated f j v).isFitted f = s.isFitted f := funext fun k => by rw [State.isFitted, geo, State.isFitted]
  have grp : (s.setIsolated f j v).groupOf f = s.groupOf f := funext fun k => by rw [State.groupOf, geo, State.groupOf]
  rw [State.setIsolated, mapConfig_doorSide, ← State.setIsolated, iso, fit, grp, par]
  rfl

theorem setIsolated_doorSide_other (hg : g ≠ f) (j : DoorIx) (v : Bool) :
    (s.setIsolated f j v).doorSide g = s.doorSide g := by
  apply mapConfig_doorSide_same <;> cases f <;> cases g <;> first | exact absurd rfl hg | rfl

/-! ### The geometry -/

/-- The positions that a geometry write unfits or fits anew (R5). -/
def State.refitted (s : State) (f : Face) (x : Geometry) : List DoorIx :=
  (s.fitted f).filter (fun j => !(j.val < x.n)) ++
    ((List.finRange 32).filter (fun j => j.val < x.n)).filter (fun j => !(s.fitted f).contains j)

/-- The working copy with the geometry replaced, and isolated flags of positions that are not fitted cleared (R66). -/
def State.regeo (f : Face) (x : Geometry) (s : State) : State :=
  s.mapConfig (fun c => (c.setGeo f x).setIso f (Vector.ofFn (fun j : Fin 32 => j.val < x.n && (s.iso f)[j])))

theorem regeo_geo (s : State) (f : Face) (x : Geometry) : (s.regeo f x).geo f = x := by cases f <;> rfl

theorem regeo_isFitted (s : State) (f : Face) (x : Geometry) (k : DoorIx) : (s.regeo f x).isFitted f k = (k.val < x.n : Bool) := by
  rw [State.isFitted, regeo_geo]

theorem regeo_doorSide (s : State) (f : Face) (x : Geometry) : (s.regeo f x).doorSide f = { s.doorSide f with
    fitted := (s.regeo f x).isFitted f
    isolated := fun k => (s.regeo f x).isFitted f k && s.isolated f k
    groupOf := (s.regeo f x).groupOf f } := by
  have iso : (s.regeo f x).isolated f = fun k => (s.regeo f x).isFitted f k && s.isolated f k := funext fun k => by
    have hi : (s.regeo f x).iso f = Vector.ofFn (fun j : Fin 32 => j.val < x.n && (s.iso f)[j]) := by cases f <;> rfl
    simp [State.isolated, hi, regeo_isFitted]
  have par : (s.regeo f x).par f = s.par f := by cases f <;> rfl
  have parts : (s.regeo f x).doorSide f = { s.doorSide f with
      fitted := (s.regeo f x).isFitted f
      isolated := (s.regeo f x).isolated f
      groupOf := (s.regeo f x).groupOf f
      par := (s.regeo f x).par f } := mapConfig_doorSide s f _
  rw [parts, iso, par]
  rfl

theorem regeo_doorSide_other (hg : g ≠ f) (x : Geometry) : (s.regeo f x).doorSide g = s.doorSide g := by
  apply mapConfig_doorSide_same <;> cases f <;> cases g <;> first | exact absurd rfl hg | rfl

theorem mem_refitted {x : Geometry} {k : DoorIx} : k ∈ s.refitted f x ↔ s.isFitted f k ≠ (s.regeo f x).isFitted f k := by
  rw [regeo_isFitted]
  cases hk : s.isFitted f k <;> by_cases hx : k.val < x.n <;> simp [State.refitted, State.fitted, hk, hx]

theorem unfit_doorSide (s : State) (f : Face) (j : DoorIx) : (s.unfit f j).doorSide f = { s.doorSide f with
    record := Function.update (s.door f) j DoorRec.blank
    deferral := Function.update (s.doorSide f).deferral j none } := by
  rw [State.unfit, mapSense_doorSide_deferral, mapDoor_doorSide]
  rfl

@[simp] theorem unfit_outside (s : State) (f : Face) (j : DoorIx) : (s.unfit f j).outside f = s.outside f := by
  simp [State.unfit]

@[simp] theorem forEach_unfit_outside (js : List DoorIx) (s : State) :
    (forEach js (State.unfit f) s).outside f = s.outside f := forEach_keeps (State.outside f) _ (fun _ _ => by simp) _ _

theorem forEach_unfit_doorSide (js : List DoorIx) (s : State) : (forEach js (State.unfit f) s).doorSide f = { s.doorSide f with
    record := fun k => if k ∈ js then DoorRec.blank else s.door f k
    deferral := fun k => if k ∈ js then none else (s.sense f k).deferral } := by
  induction js generalizing s with
  | nil => simp [forEach, State.doorSide]
  | cons j js ih =>
    have step : forEach (j :: js) (State.unfit f) s = forEach js (State.unfit f) (s.unfit f j) := rfl
    have hr := congrArg DoorSide.record (unfit_doorSide s f j)
    have hd := congrArg DoorSide.deferral (unfit_doorSide s f j)
    rw [step, ih, unfit_doorSide]
    simp only [State.doorSide] at hr hd
    rw [hr]
    simp only [DoorSide.mk.injEq, true_and, and_true]
    refine ⟨funext fun k => ?_, funext fun k => ?_⟩
    · by_cases hk : k = j <;> simp [hk]
    · rw [congrFun hd k]
      by_cases hk : k = j <;> simp [hk]

/-- The working copy with the new geometry, and the positions refitted blank. -/
def State.refit (f : Face) (x : Geometry) (s : State) : State := forEach (s.refitted f x) (State.unfit f) (s.regeo f x)

theorem refit_doorSide (s : State) (f : Face) (x : Geometry) : (s.refit f x).doorSide f =
    (s.doorSide f).refit ((s.regeo f x).isFitted f) ((s.regeo f x).groupOf f) := by
  have hd : (s.regeo f x).door f = s.door f := congrArg DoorSide.record (regeo_doorSide s f x)
  have hs : (fun k => ((s.regeo f x).sense f k).deferral) = (s.doorSide f).deferral :=
    congrArg DoorSide.deferral (regeo_doorSide s f x)
  rw [State.refit, forEach_unfit_doorSide, regeo_doorSide, hd]
  simp only [DoorSide.refit, DoorSide.mk.injEq, true_and, and_true]
  refine ⟨rfl, funext fun k => ?_, funext fun k => ?_⟩
  · by_cases hk : k ∈ s.refitted f x
    · rw [if_pos hk, if_neg (show ¬(s.doorSide f).fitted k = _ from mem_refitted.1 hk)]
    · rw [if_neg hk, if_pos (show (s.doorSide f).fitted k = _ from not_not.1 fun h => hk (mem_refitted.2 h))]; rfl
  · rw [congrFun hs k]
    by_cases hk : k ∈ s.refitted f x
    · rw [if_pos hk, if_neg (show ¬(s.doorSide f).fitted k = _ from mem_refitted.1 hk)]
    · rw [if_neg hk, if_pos (show (s.doorSide f).fitted k = _ from not_not.1 fun h => hk (mem_refitted.2 h))]

/-- The positions that are fitted anew. -/
def State.newly (s : State) (f : Face) (x : Geometry) : List DoorIx :=
  ((s.regeo f x).fitted f).filter (fun j => !(s.fitted f).contains j)

theorem setGeometry_eq (f : Face) (x : Geometry) (s : State) : s.setGeometry f x =
    if s.scanDone then (s.refit f x).resolveNew f (s.newly f x) else s.refit f x := by
  have fit : (s.regeo f x).isFitted f = fun j : DoorIx => (j.val < x.n : Bool) := funext (regeo_isFitted s f x)
  have gone : (s.fitted f).filter (fun j => !(s.regeo f x).isFitted f j) ++ s.newly f x = s.refitted f x := by
    simp only [State.refitted, State.newly, fit, State.fitted]
  rw [State.refit, ← gone]
  rfl

theorem locked_of_writable (h : s.writable f = true) (k : DoorIx) (hk : (s.doorSide f).fitted k = true) :
    ((s.doorSide f).record k).state = some .locked := by
  simp only [State.writable, Bool.and_eq_true, State.allLocked, List.all_eq_true, decide_eq_true_eq] at h
  exact h.2 k (List.mem_filter.2 ⟨List.mem_finRange k, hk⟩)

namespace FaceLaw
variable {G : Params → Prop} {L : DoorSide → Prop} (hL : FaceLaw G L)
include hL

theorem setGeometry (x : Geometry) (hw : s.writable f = true) (h : Holds L s) : Holds L (s.setGeometry f x) := by
  have fitted : L ((s.refit f x).doorSide f) := by
    rw [refit_doorSide]
    exact hL.refit _ _ (h f) (locked_of_writable hw)
  have refit : Holds L (s.refit f x) := fun g => by
    by_cases hg : g = f
    · exact hg ▸ fitted
    · have blank : (s.refit f x).doorSide g = (s.regeo f x).doorSide g := doorSide_of_outside hg (forEach_unfit_outside ..)
      rw [blank, regeo_doorSide_other hg]
      exact h g
  have scan : (s.refit f x).scanDone = (s.regeo f x).scanDone :=
    outside_eq_of State.scanDone (fun _ => rfl) (forEach_unfit_outside (f := f) _ (s.regeo f x))
  have fits : ∀ k ∈ s.newly f x, s.isFitted f k = false ∧ (s.regeo f x).isFitted f k = true := fun k hk => by
    simp only [State.newly, State.fitted, List.mem_filter, Bool.not_eq_true', List.contains_eq_mem, decide_eq_false_iff_not,
      List.mem_finRange, true_and, Bool.not_eq_true] at hk
    exact hk.symm
  have config : (s.refit f x).config = (s.regeo f x).config :=
    outside_eq_of State.config (fun _ => rfl) (forEach_unfit_outside (f := f) _ (s.regeo f x))
  rw [setGeometry_eq]
  split
  · next hs =>
    refine hL.on_face refit (resolveNew_leads _ ((fitted_nodup ..).filter _) (scan.trans hs) (fun k hk => ?_) fun k hk => ?_)
      (resolveNew_outside ..)
    · rw [isFitted_of config]; exact (fits k hk).2
    · have blank := congrFun (congrArg DoorSide.record (refit_doorSide s f x)) k
      obtain ⟨old, new⟩ := fits k hk
      have : (s.refit f x).door f k = DoorRec.blank := by
        refine blank.trans (if_neg ?_)
        rw [show (s.doorSide f).fitted k = false from old, new]
        simp
      rw [this]
      rfl
  · exact refit

variable (p : List Byte)

theorem writeGeometry (h : Holds L s) : Holds L (decideWriteGeometry p s).1 := of_withFace h fun f => by
  split
  · exact h
  · refine of_unlessCommit h ?_
    simp only [State.tryGeometry]
    split
    · exact h
    · split
      · exact h
      · next hw =>
        split
        · exact h
        · exact hL.setGeometry _ (by simpa using hw) h

theorem writeTolerance (h : Holds L s) : Holds L (decideWriteTolerance p s).1 := of_withFace h fun f => by
  split
  · exact h
  · refine of_unlessCommit h ?_
    split
    · exact h
    · split
      · exact h
      · next hw =>
        split
        · exact h
        · exact hL.setGeometry _ (by simpa using hw) h

omit hL in
theorem of_writeAnswer (a : Bool) (v : List Byte) (h : Holds L s) : Holds L (writeAnswer a v s).1 := by
  unfold writeAnswer
  split <;> exact h

theorem writeParameters (h : Holds L s) : Holds L (decideWriteParameters p s).1 := of_withFace h fun f => by
  split
  · exact h
  · next xs hx =>
    refine of_unlessCommit h ?_
    split
    · exact h
    · next hw =>
      refine of_writeAnswer _ _ fun g => ?_
      by_cases hg : g = f
      · subst hg
        rw [setPar_doorSide]
        exact hL.params (h g) (hL.written hx (hL.settings (h g))) (locked_of_writable (by simpa using hw))
      · rw [setPar_doorSide_other hg]; exact h g

omit hL in
theorem of_mapConfig {k : WorkingCopy → WorkingCopy} (h : Holds L s)
    (hk : ∀ c, (k c).geo0 = c.geo0 ∧ (k c).geo1 = c.geo1 ∧ (k c).iso0 = c.iso0 ∧ (k c).iso1 = c.iso1 ∧ (k c).par0 = c.par0
      ∧ (k c).par1 = c.par1) : Holds L (s.mapConfig k) := by
  obtain ⟨g0, g1, i0, i1, p0, p1⟩ := hk s.config
  exact h.congr fun g => by cases g; exacts [mapConfig_doorSide_same g0 i0 p0, mapConfig_doorSide_same g1 i1 p1]

omit hL in
theorem writeDevice (h : Holds L s) : Holds L (decideWriteDevice p s).1 := by
  unfold decideWriteDevice
  dsimp only
  (repeat' split) <;> first
    | exact h
    | exact of_unlessCommit h (of_writeAnswer _ _ (of_mapConfig h fun _ => ⟨rfl, rfl, rfl, rfl, rfl, rfl⟩))

omit hL in
theorem setReporting (h : Holds L s) : Holds L (decideSetReporting p s).1 := by
  have due : ∀ (l : Link) (x : Reporting), Holds L ((s.mapConfig (fun c => c.setReporting l x)).considerReport l) :=
    fun l x => Holds.congr (s := s.mapConfig (fun c => c.setReporting l x))
      (of_mapConfig h fun _ => by cases l <;> exact ⟨rfl, rfl, rfl, rfl, rfl, rfl⟩)
      fun g => considerReport_keeps (State.doorSide g) (fun _ _ _ => mapLink_doorSide ..) l _
  unfold decideSetReporting
  (repeat' split) <;> first | exact h | exact of_unlessCommit h (due _ _)

omit hL in
theorem writeCar (h : Holds L s) : Holds L (decideWriteCar p s).1 := by
  have put : ∀ i o, Holds L (s.mapConfig (fun c => c.putCar i o)) :=
    fun i o => of_mapConfig h fun _ => ⟨rfl, rfl, rfl, rfl, rfl, rfl⟩
  unfold decideWriteCar
  (repeat' split) <;> first | exact h | refine of_unlessCommit h ?_
  · split
    · exact h
    · exact put _ _
  · exact put _ _

omit hL in
theorem writeUnit (h : Holds L s) : Holds L (decideWriteUnit p s).1 := by
  have put : ∀ i o, Holds L (s.mapConfig (fun c => c.putUnit i o)) :=
    fun i o => of_mapConfig h fun _ => ⟨rfl, rfl, rfl, rfl, rfl, rfl⟩
  unfold decideWriteUnit
  (repeat' split) <;> first | exact h | refine of_unlessCommit h ?_
  · exact put _ _
  · split
    · exact put _ _
    · exact h

omit hL in
theorem writeDescriptor (h : Holds L s) : Holds L (decideWriteDescriptor p s).1 := by
  have put : ∀ i o a, Holds L (s.tryDescriptor i o a).1 := fun i o a => by
    unfold State.tryDescriptor
    split
    · exact h
    · exact of_writeAnswer _ _ (of_mapConfig h fun _ => ⟨rfl, rfl, rfl, rfl, rfl, rfl⟩)
  unfold decideWriteDescriptor
  (repeat' split) <;> first | exact h | exact of_unlessCommit h (put _ _ _)

omit hL in
theorem lock (h : Holds L s) : Holds L (decideLock s).1 :=
  of_unlessCommit h (of_mapConfig h fun _ => ⟨rfl, rfl, rfl, rfl, rfl, rfl⟩)

omit hL in
theorem unlock (h : Holds L s) : Holds L (decideUnlock s).1 := of_unlessCommit h <| by
  split
  · exact of_mapConfig h fun _ => ⟨rfl, rfl, rfl, rfl, rfl, rfl⟩
  · exact h

omit hL in
theorem commit (h : Holds L s) : Holds L (decideCommit s).1 := by
  unfold decideCommit
  split
  · exact h
  · exact h.congr fun g => doorSide_of_face rfl rfl (by cases g <;> rfl)

omit hL in
/-- The law of both faces where the door side of one is changed. -/
theorem of_isolated {j : DoorIx} {v : Bool} (h : Holds L s)
    (hf : L { s.doorSide f with isolated := Function.update (s.isolated f) j v }) : Holds L (s.setIsolated f j v) := fun g => by
  by_cases hg : g = f
  · subst hg; rw [setIsolated_doorSide]; exact hf
  · rw [setIsolated_doorSide_other hg]; exact h g

theorem isolates (h : Holds L s) : Holds L (decideIsolate p s).1 := of_withDoor h fun f j _ => of_unlessCommit h <| by
  split
  · exact h
  · next hd =>
    (repeat' split)
    · exact h
    · exact h
    · exact (of_isolated h (hL.isolate (h f) (not_not.1 hd))).congr fun g => reportDoor_doorSide ..

theorem restores (h : Holds L s) : Holds L (decideRestore p s).1 := of_withDoor h fun f j _ => of_unlessCommit h <| by
  split
  · have on : Holds L ((s.setIsolated f j false).reportDoor f j) :=
      (of_isolated h (hL.restore (h f))).congr fun g => reportDoor_doorSide ..
    exact hL.on_face on emergencyIfLocked_leads (emergencyIfLocked_outside ..)
  · exact h

end FaceLaw
end Sys2Proof.Machine
end

section
namespace Sys2Proof.Machine
open DoorSide

/-! SUPPORT. A law of the door sides of both faces is kept by every command and by every step. -/

/-- DOOR_TIMEOUT_EXPIRY at a door unit (R8). -/
def State.timedOut (f : Face) (j : DoorIx) (s : State) : State :=
  match (s.door f j).state.bind DoorState.timeoutCause with
  | none => s
  | some c => s.expiry (s.door f j).timer (State.enterFault f j c)

theorem exec_doorTimeoutExpiry (f : Face) (j : DoorIx) (s : State) :
    exec (.doorTimeoutExpiry f j) s = s.event (State.timedOut f j) := rfl

namespace FaceLaw
variable {G : Params → Prop} {L : DoorSide → Prop} (hL : FaceLaw G L) {s t : State} {f : Face}
include hL

/-! ### Requests -/

theorem decides {i : Instr} {r : RequestRule} (hr : requestRule i = some r) (h : Holds L s) : Holds L (r.decide s).1 := by
  cases i <;> cases hr
  case arrivalNotice => exact hL.arrival _ h
  case doorRelease => exact hL.release _ h
  case releaseWithdraw => exact hL.withdraw _ h
  case trainAtRest => exact hL.atRest _ h
  case departed => exact hL.departed _ h
  case possessionGrant => exact grant _ h
  case possessionRevoke => exact hL.revoke _ h
  case writeGeometry => exact hL.writeGeometry _ h
  case writeTolerance => exact hL.writeTolerance _ h
  case writeParameters => exact hL.writeParameters _ h
  case writeDeviceParameters => exact writeDevice _ h
  case setReporting => exact setReporting _ h
  case writeCarProfile => exact writeCar _ h
  case writeUnitProfile => exact writeUnit _ h
  case writeDescriptor => exact writeDescriptor _ h
  case lockGeometry => exact lock h
  case unlockGeometry => exact unlock h
  case commit => exact commit h
  case doorCommandOpen | doorCommandClose => exact hL.doorCommand _ h
  case isolate => exact hL.isolates _ h
  case restore => exact hL.restores _ h
  case doorReset => exact hL.doorReset _ h
  case ackGap => exact ackGap _ h
  case faceReset => exact hL.faceReset _ h
  case berthAck => exact hL.berthAck _ h
  case evacuate => exact hL.evacuate _ h
  case emergencyClear => exact hL.emergencyClear _ h
  case startProgram => exact hL.startProgram _ h
  case haltProgram => exact haltProgram _ h
  case resumeProgram => exact hL.resumeProgram _ h
  case stepProgram => exact hL.stepProgram _ h
  case clearProgramErrors => exact clearErrors _ h
  case armProgram => exact arm _ h
  case disarmProgram => exact disarm _ h
  case identify => exact h.congr fun g => decideIdentify_keeps (State.doorSide g) ..
  case getStatusFace | getStatusDoorUnit | getStatusBerth => exact h.congr fun g => decideGetStatus_keeps (State.doorSide g) ..
  case readGeometry => exact h.congr fun g => decideReadGeometry_keeps (State.doorSide g) ..
  case readParameters => exact h.congr fun g => decideReadParameters_keeps (State.doorSide g) ..
  case readDeviceParameters => exact h
  case readCarProfile => exact h.congr fun g => decideReadCar_keeps (State.doorSide g) ..
  case readUnitProfile => exact h.congr fun g => decideReadUnit_keeps (State.doorSide g) ..
  case readIsolation => exact h.congr fun g => decideReadIsolation_keeps (State.doorSide g) ..
  case readDescriptor => exact h.congr fun g => decideReadDescriptor_keeps (State.doorSide g) ..
  case readCounts => exact h.congr fun g => decideReadCounts_keeps (State.doorSide g) ..
  case readHistory => exact h.congr fun g => decideReadHistory_keeps (State.doorSide g) ..

theorem of_request {l : Link} {x : Frame} {d : State → State × Reply} (hd : ∀ u, Holds L u → Holds L (d u).1) (h : Holds L s)
    (he : (.next (s.serve l x d) : Answer) = .next t) : Holds L t := by
  cases he
  exact hL.serve hd h

theorem of_rule {i : Instr} {r : RequestRule} {l : Link} {x : Frame} (hr : requestRule i = some r)
    (hx : i.frame? = some (l, x)) (h : Holds L s) (he : exec i s = .next t) : Holds L t := by
  rw [exec_of_rule hr hx] at he
  exact hL.of_request (fun u hu => of_checked hu (hL.decides hr hu)) h he

theorem unknownKind (l : Link) (k n : Byte) (p : List Byte) (h : Holds L s) (he : exec (.unknownKind l k n p) s = .next t) :
    Holds L t := by
  have he : execUnknownKind l k n p s = .next t := he
  unfold execUnknownKind at he
  split at he
  · exact hL.of_request (fun _ hu => hu) h he
  · cases he; exact h

/-! ### Events -/

theorem interlockLost (h : Holds L s) : Holds L s.interlockLost := by
  have lost : Holds L ({ s with ilLost := true, silence := none } : State) := h.congr fun g => silence_doorSide s g _ _
  have one := hL.on_face (f := .f0) lost withdraw_leads (withdraw_outside ..)
  have both := hL.on_face (f := .f1) one withdraw_leads (withdraw_outside ..)
  exact both.congr fun g => offerRecord_keeps (State.doorSide g) (fun _ _ _ => mapLink_doorSide ..) ..

omit hL in
theorem endCommit (h : Holds L s) : Holds L s.endCommit := by
  unfold State.endCommit
  cases s.commit with
  | none => exact h
  | some c =>
    refine Holds.congr h fun g => ?_
    dsimp only
    rw [report_doorSide]
    split
    · rw [recomputeClp_doorSide, recomputeClp_doorSide]
      exact doorSide_of_face rfl rfl (by cases g <;> rfl)
    · exact doorSide_of_face rfl rfl (by cases g <;> rfl)

omit hL in
theorem quietOver (h : Holds L s) : Holds L
    (let t := s.mapFace f (fun x => { x with quietTimer := none }); if (t.map f).isEmpty then t else t.setQuiet f true) := by
  have stopped : Holds L (s.mapFace f (fun x => { x with quietTimer := none })) := h.congr fun g =>
    mapFace_doorSide s g f _ (by intro; rfl) (by intros; rfl) (by intros; rfl) (by intro; rfl)
  dsimp only
  split
  · exact stopped
  · exact stopped.congr fun g => setQuiet_doorSide ..

omit hL in
theorem of_links {k : State → State} (hk : ∀ {α : Type} (p : State → α), (∀ (x : State) l h, p (x.mapLink l h) = p x) →
    ∀ x, p (k x) = p x) (h : Holds L s) : Holds L (k s) :=
  h.congr fun g => hk (State.doorSide g) (fun _ _ _ => mapLink_doorSide ..) s

/-- UNLATCH_SETTLE_EXPIRY comes to a door unit that holds no entry. -/
theorem unlatchSettle (j : DoorIx) (h : Holds L s) : Holds L
    (if (s.door f j).state = some .unlatched then s.expiry (s.door f j).timer (State.openEntry f j) else s) := by
  split
  · next hu =>
    refine of_expiry h fun u m hm same hh => hL.on_face hh (openEntry_leads ?_ ?_) (openEntry_outside ..)
    · exact congrArg (fun a => (a.record j).state) (same f) |>.trans hu
    · rw [same f]
      exact (hL.queue (h f)).free_of_settling hu (by show (s.door f j).timer.isSome = true; simp [hm])
  · exact h

theorem recloseDelay (j : DoorIx) (h : Holds L s) : Holds L
    (if (s.door f j).state = some .recloseHold then s.expiry (s.door f j).timer (State.enter f j .closeWait id) else s) := by
  split
  · next hr =>
    refine of_expiry h fun u m _ same hh => ?_
    have hd : (u.door f j).state = some .recloseHold := (congrArg (fun a => (a.record j).state) (same f)).trans hr
    have law := hL.queue (hh f)
    exact hL.on_face hh (enter_leads (isFitted_of_state law hd) (scanDone_of_state law hd) (.waitsAgain hd)) (enter_outside ..)
  · exact h

theorem doorTimeout (j : DoorIx) (h : Holds L s) : Holds L (s.timedOut f j) := by
  unfold State.timedOut
  split
  · exact h
  · next c hc =>
    obtain ⟨st, hs, -⟩ := Option.bind_eq_some_iff.1 hc
    refine of_expiry h fun u m _ same hh => ?_
    have hd : (u.door f j).state = some st := (congrArg (fun a => (a.record j).state) (same f)).trans hs
    have law := hL.queue (hh f)
    exact hL.on_face hh (enterFault_leads c (isFitted_of_state law hd) (scanDone_of_state law hd)) (enterFault_outside ..)

theorem grants {p : GroupIx} {k : Group → Group} (hk : ∀ x, (k x).queue = x.queue) (h : Holds L s) :
    Holds L ((s.mapGroup f p k).evalGrants f p) :=
  hL.on_face (h.congr (t := s.mapGroup f p k) fun g => mapGroup_doorSide s g f p k hk) (evalGrants_leads p) (evalGrants_outside ..)

theorem deferralTimer (j : DoorIx) (h : Holds L s) : Holds L (s.expiry (s.sense f j).deferral (State.deferralExpired f j)) := by
  refine of_expiry h fun u m hm same hh => hL.on_face hh (closeEntry_deferred_leads ?_) (by simp [State.deferralExpired])
  exact congrArg (fun a => (a.deferral j).isSome) (same f) |>.trans (by show (s.sense f j).deferral.isSome = true; simp [hm])

/-! ### The reports and the receiver -/

omit hL in
theorem considerReport (l : Link) (h : Holds L s) : Holds L (s.considerReport l) :=
  h.congr fun g => considerReport_keeps (State.doorSide g) (fun _ _ _ => mapLink_doorSide ..) l s

omit hL in
theorem transmitted (l : Link) (h : Holds L s) : Holds L (s.transmitterFree l) := by
  unfold State.transmitterFree
  dsimp only
  split
  · exact ((h.mapLink l _).mapLink l _).mapLink l _
  · exact considerReport l (h.mapLink l _)

omit hL in
theorem frameArrived (l : Link) (x : Frame) (h : Holds L s) : Holds L (s.frameArrives l x) :=
  h.congr fun _ => frameArrives_doorSide ..

omit hL in
theorem hunted (l : Link) (b : Byte) (h : Holds L s) : Holds L (s.huntByte l b) := h.mapLink l _

omit hL in
theorem collected (l : Link) (bs : List Byte) (h : Holds L s) : Holds L (s.collectByte l bs) := by
  unfold State.collectByte
  dsimp only
  (repeat' split)
  · exact h.mapLink l _
  · exact h.mapLink l _
  · exact frameArrived l _ h
  · exact h.mapLink l _

omit hL in
theorem byteTaken (l : Link) (b : Byte) (h : Holds L s) : Holds L (s.takeByte l b) := by
  unfold State.takeByte
  (repeat' split)
  · exact hunted l b h
  · exact hunted l b h
  · exact collected l _ h

omit hL in
theorem frameAbandoned (l : Link) (c : AbandonCause) (h : Holds L s) : Holds L (s.abandonFrame l c) := by
  unfold State.abandonFrame
  (repeat' split)
  · exact h
  · exact hunted l _ h
  all_goals exact h.mapLink l _

/-! ### Commands -/

theorem exec {c : Instr} (hG : G s.nvAfterCut.load.config.par0 ∧ G s.nvAfterCut.load.config.par1) (h : Holds L s)
    (he : exec c s = .next t) : Holds L t := by
  cases c
  case powerOn r => cases he; exact hL.drain (hL.started .power r hG)
  case resetPin r => exact hL.of_event h (hL.started .pin r hG) he
  case firstCompleteScan v =>
    refine hL.of_event (op := fun s => if s.scanDone then s else s.firstScan v) h ?_ he
    split
    · exact h
    · next hs => exact hL.firstScan v (by simpa using hs) h
  case lossOfPower => exact hL.of_event h (h.congr fun g => doorSide_of_face rfl rfl (by cases g <;> rfl)) he
  case doorInputChange f j v =>
    refine hL.of_event h ?_ he
    split
    · next hs => exact hL.on_face h (doorChange_leads v hs) (doorChange_outside ..)
    · exact h
  case sensingInputChange f j v =>
    refine hL.of_event h ?_ he
    split
    · exact hL.on_face h (senseChange_leads v) (senseChange_outside ..)
    · exact h
  case unlatchSettleExpiry f j => exact hL.of_event h (hL.unlatchSettle j h) he
  case recloseDelayExpiry f j => exact hL.of_event h (hL.recloseDelay j h) he
  case doorTimeoutExpiry f j => exact hL.of_event (op := State.timedOut f j) h (hL.doorTimeout j h) he
  case spacingHoldExpiry f p =>
    exact hL.of_event h (of_expiry h fun u _ _ _ hu => hL.grants (by intro; rfl) hu) he
  case historySlotEmptied f p i =>
    exact hL.of_event h (of_expiry h fun u _ _ _ hu => hL.grants (by intro; rfl) hu) he
  case quietTimerExpiry f => exact hL.of_event h (of_expiry h fun u _ _ _ hu => quietOver hu) he
  case deferralTimerExpiry f j => exact hL.of_event h (hL.deferralTimer j h) he
  case clearingTimerExpiry f j =>
    exact hL.of_event h (of_expiry h fun u _ _ _ hu => hu.congr fun _ => clearingExpired_doorSide ..) he
  case ab1Change f v a =>
    exact hL.of_event h (of_beamChange _ _ _ h fun u hu => hL.on_face hu (ab1Changed_leads v) (ab1Changed_outside ..)) he
  case ab2Change f v a =>
    exact hL.of_event h (of_beamChange _ _ _ h fun u hu => hL.on_face hu (ab2Changed_leads v) (ab2Changed_outside ..)) he
  case swBeamChange f i v a =>
    exact hL.of_event h (of_beamChange _ _ _ h fun u hu => hL.on_face hu (swChanged_leads i v) (swChanged_outside ..)) he
  case approachTimerExpiry f =>
    refine hL.of_event h ?_ he
    split
    · exact of_expiry h fun u _ _ _ hu => hL.on_face hu approachOver_leads (approachOver_outside ..)
    · exact h
  case settleTimerExpiry f =>
    refine hL.of_event h ?_ he
    split
    · exact of_expiry h fun u _ _ _ hu => hL.on_face hu (enterStopped_leads _) (enterStopped_outside ..)
    · exact h
  case postingTimerExpiry f =>
    exact hL.of_event h (of_expiry h fun u _ _ _ hu => hL.on_face hu issuePosted_leads (issuePosted_outside ..)) he
  case keyswitchChange f pos => exact hL.of_event h (hL.on_face h (keyAccepted_leads pos) (keyAccepted_outside ..)) he
  case eoiChange f v => exact hL.of_event h (hL.eoiAccepted v h) he
  case maintChange v =>
    exact hL.of_event (op := fun s => { s with maint := v }) h
      (h.congr fun g => doorSide_of_face rfl rfl (by cases g <;> rfl)) he
  case commitEnd => exact hL.of_event h (endCommit h) he
  case ilSilenceTimerExpiry => exact hL.of_event h (of_expiry h fun u _ _ _ hu => hL.interlockLost hu) he
  case validFrameReceived l x =>
    refine hL.of_event h ?_ he
    split
    · exact frameArrived l x h
    · exact h
  case frameAbandoned l c => exact hL.of_event h (frameAbandoned l c h) he
  case transmitComplete l =>
    refine hL.of_event h ?_ he
    split
    · exact transmitted l h
    · exact h
  case flushTimerExpiry l => exact hL.of_event h (of_expiry h fun u _ _ _ hu => considerReport l (hu.mapLink l _)) he
  case byteReceived l b => exact hL.of_event h (byteTaken l b h) he
  case limitTimerExpiry f => exact hL.of_event h (of_expiry h fun u _ _ _ hu => hu.congr fun _ => limitOver_doorSide ..) he
  case holdTimerExpiry f =>
    exact hL.of_event h (of_expiry h fun u _ _ _ hu => hL.on_face hu holdOver_leads (holdOver_outside ..)) he
  case unknownKind l k n p => exact hL.unknownKind l k n p h he
  case nonRequestFrame l k n p => cases he; exact hL.dropFrame h
  case setMode l n p => exact hL.of_request (fun u hu => hL.setMode _ _ hu) h he
  all_goals exact hL.of_rule rfl rfl h he

/-- Every step keeps the law, where the stored Face Parameter Sets are what it asks. -/
theorem steps (hG : G s.nvAfterCut.load.config.par0 ∧ G s.nvAfterCut.load.config.par1) (h : Holds L s)
    (he : step s = .next t) : Holds L t := by
  unfold step at he
  split at he
  · unfold State.idle at he
    split at he
    · exact hL.exec hG h he
    · cases he
      split
      · exact h.congr fun g => advance_doorSide ..
      · exact h
  · next c rest _ =>
    have taken : Holds L ({ s with pending := rest } : State) := h.congr fun g => doorSide_of_face rfl rfl (by cases g <;> rfl)
    exact hL.exec (s := { s with pending := rest }) hG taken he

end FaceLaw
end Sys2Proof.Machine
end

section
namespace Sys2Proof.Machine
open DoorSide

/-! SUPPORT. The laws of the Start Queues, of the emergency latch and of reclosing as laws of a door side that every step keeps. -/

variable {s t : State} {f : Face} {j k : DoorIx} {a : DoorSide}

/-! ### The law of the Start Queues (R30) -/

namespace DoorSide

/-- Where every fitted door unit is LOCKED no door unit holds an entry or is deferred. -/
theorem QueueLaw.at_rest (h : a.QueueLaw) (hl : ∀ k, a.fitted k = true → (a.record k).state = some .locked) :
    (∀ p, a.queue p = []) ∧ (∀ k, a.deferral k = none) ∧
      ∀ k, (a.record k).state = if a.fitted k then some .locked else none := by
  have state : ∀ k, (a.record k).state = if a.fitted k then some .locked else none := fun k => by
    cases hk : a.fitted k
    · exact not_not.1 fun h' => by simp [h.fitted_of_state k h'] at hk
    · exact hl k hk
  refine ⟨fun p => List.eq_nil_iff_forall_not_mem.2 fun e he => ?_, fun k => ?_, state⟩
  · obtain ⟨hf, -, -, hs⟩ := h.entry p e he
    simp [hl _ hf] at hs
  · have := mt (h.deferred k)
    rw [state k] at this
    cases hk : a.deferral k
    · rfl
    · have := this (by split <;> simp)
      simp [hk] at this

theorem QueueLaw.refit (h : a.QueueLaw) (hl : ∀ k, a.fitted k = true → (a.record k).state = some .locked)
    (fitted : DoorIx → Bool) (groupOf : DoorIx → GroupIx) : (a.refit fitted groupOf).QueueLaw := by
  obtain ⟨queue, deferral, state⟩ := QueueLaw.at_rest h hl
  have record : ∀ k, ((a.refit fitted groupOf).record k).state = if a.fitted k && fitted k then some .locked else none := fun k => by
    simp only [DoorSide.refit]
    split
    · next hk => rw [state, ← hk, Bool.and_self]
    · next hk => cases hf : a.fitted k <;> cases hf' : fitted k <;> simp [hf, hf', DoorRec.blank] at hk ⊢
  constructor
  · intro p; simp [DoorSide.refit, queue]
  · intro p; simp [DoorSide.refit, queue]
  · intro p e he; simp [DoorSide.refit, queue] at he
  · intro k hk; simp [DoorSide.refit, deferral] at hk
  · intro k hk
    rw [record] at hk
    show fitted k = true
    cases hf : fitted k
    · simp [hf] at hk
    · rfl
  · intro k _
    rw [record]
    split <;> simp
  · intro hs k
    rw [record]
    have := h.unscanned hs k
    rw [state] at this
    cases hf : a.fitted k
    · simp
    · simp [hf] at this

theorem QueueLaw.blank (hr : ∀ k, a.record k = DoorRec.blank) (hd : ∀ k, a.deferral k = none)
    (hq : ∀ p, a.queue p = []) : a.QueueLaw := by
  constructor
  · intro p; simp [hq]
  · intro p; simp [hq]
  · intro p e he; simp [hq] at he
  · intro k hk; simp [hd] at hk
  · intro k hk; exact absurd (by rw [hr]; rfl) hk
  · intro k _; exact .inl (by rw [hr]; rfl)
  · intro _ k; rw [hr]; rfl

/-- The law does not read the latch or the parameters. -/
theorem QueueLaw.congr {b : DoorSide} (h : a.QueueLaw) (hf : b.fitted = a.fitted) (hi : b.isolated = a.isolated)
    (hg : b.groupOf = a.groupOf) (hs : b.scanDone = a.scanDone) (hr : b.record = a.record) (hd : b.deferral = a.deferral)
    (hq : b.queue = a.queue) : b.QueueLaw := by
  obtain ⟨nodup, sorted, entry, deferred, fitted, isolated, unscanned⟩ := h
  constructor <;> simpa only [hf, hi, hg, hs, hr, hd, hq]

end DoorSide

/-! ### The setting of the latch (R132) -/

/-- The latch set and the engine halted, before any door unit is asked. -/
def State.alarmed (f : Face) (s : State) : State :=
  ((s.mapMode f (fun m => { m with latch := true })).recomputeClp f none).haltCause f .emergency

theorem setLatch_eq (c : Byte) (s : State) : s.setLatch f c =
    (s.alarmed f |>.requestEach f ((s.alarmed f).emergencyReach f) .emergencyOpen).reportEmergency f c
      (some ((s.alarmed f).emergencyReach f).length) := rfl

theorem alarmed_doorSide (s : State) (f : Face) : (s.alarmed f).doorSide f = { s.doorSide f with latch := true } := by
  rw [State.alarmed, haltCause_doorSide, recomputeClp_doorSide, FaceLaw.mapLatch_doorSide]

theorem alarmed_law (h : (s.doorSide f).QueueLaw) : ((s.alarmed f).doorSide f).QueueLaw := by
  rw [alarmed_doorSide]
  exact h.congr rfl rfl rfl rfl rfl rfl rfl

theorem setLatch_leads (c : Byte) : Leads f (s.alarmed f) (s.setLatch f c) := by
  rw [setLatch_eq]
  exact (requestEach_leads _ _).then_eq (reportEmergency_doorSide ..)

/-! ### An EMERGENCY OPEN leaves a door unit safe (R18, R133) -/

theorem path_safe {b : DoorSide} (m : a.Path b) (hl : a.latch = true) (h : (a.record k).Safe) : (b.record k).Safe := by
  induction m with
  | refl => exact h
  | tail p m ih => exact (m.turns k).safe (Path.latch p |>.trans hl) ih

theorem Leads.safe (m : Leads f s t) (h : (s.doorSide f).QueueLaw) (hl : (s.face f).mode.latch = true)
    (hk : (s.door f k).Safe) : (t.door f k).Safe := path_safe (m h) hl hk

theorem enter_safe {st : DoorState} {edit : DoorRec → DoorRec} (hf : s.isFitted f j = true) (hs : s.scanDone = true)
    (he : (s.doorSide f).Enters j (s.door f j) (edit (s.door f j)) st) (h : (s.doorSide f).QueueLaw)
    (hl : (s.face f).mode.latch = true) (hn : ((edit (s.door f j)).enter st s.msClock (s.par f)).Safe) :
    ((s.enter f j st edit).door f j).Safe := by
  have first := enterTold_removeEntry_leads hf hs he
  refine (enter_follows st edit).safe (h.path (first h)) ?_ ?_
  · exact (Path.latch (first h)).trans hl
  · rw [enterTold_removeEntry_door]; exact hn

theorem DoorRec.Safe.of_rest {d : DoorRec} (h : d.state = none ∨ d.state = some .locked ∨ d.state = some .standOpen
    ∨ d.state = some .obstructed ∨ d.state = some .released ∨ d.state = some .fault) : d.Safe := by
  rcases h with h | h | h | h | h | h <;> constructor <;> simp [h]

theorem emergencyTake_safe (h : (s.doorSide f).QueueLaw) (hl : (s.face f).mode.latch = true) (hi : s.isolated f j = false) :
    ((s.takeOpen f j .emergency).1.door f j).Safe := by
  have fit : ∀ {st : DoorState}, (s.door f j).state = some st → s.isFitted f j = true := isFitted_of_state h
  have scan : ∀ {st : DoorState}, (s.door f j).state = some st → s.scanDone = true := scanDone_of_state h
  have permitted : s.permits f j = true := by simp [State.permits, hl]
  have asked : ∀ {st : DoorState}, (s.door f j).state = some st → st = .unlatching ∨ st = .unlatched ∨ st = .opening →
      (DoorRec.askOpen .emergency (s.door f j)).Safe := fun hd hs => by
    rcases hs with rfl | rfl | rfl <;> constructor <;> simp [DoorRec.askOpen, hd]
  unfold State.takeOpen
  split
  case h_1 hd => exact .of_rest (by simp [hd])
  case h_2 hd | h_3 hd => exact .of_rest (by simp [hd])
  case h_4 hd | h_5 hd =>
    rw [if_pos permitted]
    exact enter_safe (fit hd) (scan hd) (.unlocks _ hi (by simp [hd])) h hl
      (by constructor <;> simp [DoorRec.enter, DoorState.clearsPending, DoorRec.startOpen])
  case h_6 hd | h_7 hd => simpa using asked hd (by simp)
  case h_8 hd =>
    have raised : Leads f (s.mapDoor f j (DoorRec.askOpen .emergency))
        ((s.mapDoor f j (DoorRec.askOpen .emergency)).raiseEntry f j) := raiseEntry_leads
    have law := h.path (mapDoor_leads (s := s) (f := f) (j := j) (.onTheWay .emergency (by simp [hd])) h)
    exact raised.safe law (by simpa using hl) (by simpa using asked hd (by simp))
  case h_9 hd => exact .of_rest (by simp [hd])
  case h_10 hd | h_11 hd | h_12 hd =>
    exact enter_safe (fit hd) (scan hd) (.stands _ hi) h hl (.of_rest (by simp [DoorRec.enter]))
  case h_13 hd =>
    have turned : ((s.enter f j .reversing (DoorRec.startOpen .emergency)).door f j).Safe :=
      enter_safe (fit hd) (scan hd) (.reverses _ hd) h hl
        (by constructor <;> simp [DoorRec.enter, DoorState.clearsPending, DoorState.clearsClass, DoorRec.startOpen])
    have same : ((s.enter f j .reversing (DoorRec.startOpen .emergency)).recordStart f (s.groupOf f j)).door f j =
        (s.enter f j .reversing (DoorRec.startOpen .emergency)).door f j :=
      congrArg (fun a => a.record j) (recordStart_doorSide ..)
    exact same ▸ turned
  case h_14 hd => constructor <;> simp [DoorRec.askReverse, hd]

theorem emergencyRequest_safe (h : (s.doorSide f).QueueLaw) (hl : (s.face f).mode.latch = true) (hi : s.isolated f j = false) :
    ((s.request f j .emergencyOpen).1.door f j).Safe := by
  unfold State.request
  split
  · next hn => exact .of_rest (.inl (by simpa using hn))
  · rw [if_neg (by simp [hi])]
    exact emergencyTake_safe h hl hi

/-- EMERGENCY OPEN for each of several door units makes every door unit safe where the others are. -/
theorem emergencyEach_safe (js : List DoorIx) (h : (s.doorSide f).QueueLaw) (hl : (s.face f).mode.latch = true)
    (hi : ∀ k ∈ js, s.isolated f k = false) (hk : ∀ k, k ∉ js → (s.door f k).Safe) (k : DoorIx) :
    ((s.requestEach f js .emergencyOpen).door f k).Safe := by
  induction js generalizing s with
  | nil => exact hk k (by simp)
  | cons j js ih =>
    have asked : Leads f s (s.request f j .emergencyOpen).1 := request_leads _
    have config : (s.request f j .emergencyOpen).1.config = s.config := by simp
    refine ih (s := (s.request f j .emergencyOpen).1) (h.path (asked h)) ((Path.latch (asked h)).trans hl) (fun i hm => ?_)
      (fun i hm => ?_)
    · rw [isolated_of config]; exact hi i (List.mem_cons_of_mem _ hm)
    · by_cases hij : i = j
      · subst hij; exact emergencyRequest_safe h hl (hi i List.mem_cons_self)
      · exact asked.safe h hl (hk i (by simp [hij, hm]))

theorem mem_emergencyReach {k : DoorIx} : k ∈ s.emergencyReach f ↔ s.isFitted f k = true ∧ s.isolated f k = false ∧
    (s.door f k).state ≠ some .released ∧ (s.door f k).state ≠ some .fault ∧
    (s.sectionActive f k = true ∨ (s.door f k).state ≠ none ∧ (s.door f k).state ≠ some .locked) := by
  have list : k ∈ s.fitted f ↔ s.isFitted f k = true := by simp [State.fitted]
  simp only [State.emergencyReach, List.mem_flatMap, List.mem_finRange, true_and, List.mem_filter, list, Bool.and_eq_true,
    decide_eq_true_eq, exists_and_left, exists_eq_left']
  refine and_congr_right fun _ => ?_
  cases hs : (s.door f k).state with
  | none => simp
  | some st => cases s.isolated f k <;> cases s.sectionActive f k <;> simp [and_assoc]

/-- A door unit that EMERGENCY OPEN does not reach is one that may stand under the latch. -/
theorem unreached_safe (h : (s.doorSide f).QueueLaw) (hk : k ∉ s.emergencyReach f) : (s.door f k).Safe := by
  refine .of_rest ?_
  by_contra hr
  simp only [not_or] at hr
  obtain ⟨hn, hl, -, -, hr, hf⟩ := hr
  refine hk (mem_emergencyReach.2 ⟨h.fitted_of_state k hn, ?_, hr, hf, .inr ⟨hn, hl⟩⟩)
  cases hi : s.isolated f k
  · rfl
  · rcases h.isolated_state k hi with h | h | h | h <;> contradiction

/-- The setting of the latch leaves every door unit safe (R133). -/
theorem setLatch_safe (c : Byte) (h : (s.doorSide f).QueueLaw) (k : DoorIx) : ((s.setLatch f c).door f k).Safe := by
  have law := alarmed_law h
  have latch : ((s.alarmed f).face f).mode.latch = true := congrArg DoorSide.latch (alarmed_doorSide s f)
  have each := emergencyEach_safe ((s.alarmed f).emergencyReach f) law latch (fun i hi => (mem_emergencyReach.1 hi).2.1)
    (fun i hi => unreached_safe law hi) k
  have same : (s.setLatch f c).door f k = ((s.alarmed f).requestEach f ((s.alarmed f).emergencyReach f) .emergencyOpen).door f k :=
    congrArg (fun a => a.record k) (reportEmergency_doorSide _ f f c _)
  rw [same]
  exact each

/-! ### The laws that every step keeps -/

/-- Every step keeps the law of the Start Queues. -/
theorem queueLaw_faceLaw : FaceLaw (fun _ => True) DoorSide.QueueLaw where
  settings _ := trivial
  written _ _ := trivial
  queue h := h
  move h m := h.move m
  start _ _ hr hd hq := .blank hr hd hq
  scan h := by
    obtain ⟨nodup, sorted, entry, deferred, fitted, isolated, -⟩ := h
    exact ⟨nodup, sorted, entry, deferred, fitted, isolated, fun hs => by simp at hs⟩
  alarm s f c h := (alarmed_law h).path (setLatch_leads c (alarmed_law h))
  calm h := h.congr rfl rfl rfl rfl rfl rfl rfl
  isolate {a j} h hj := by
    have unqueued : a.Free j := h.free_of_state (by simp [hj]) (by simp [hj])
    refine ⟨h.nodup, h.sorted, fun p e he => ?_, h.deferred, h.fitted_of_state, fun k hk => ?_, h.unscanned⟩
    · have hne : e.door ≠ j := h.free_any unqueued p e he
      simpa [Function.update_of_ne hne] using h.entry p e he
    · by_cases hkj : k = j
      · subst hkj; exact .inr (.inl hj)
      · exact h.isolated_state k (by simpa [Function.update_of_ne hkj] using hk)
  restore {a j} h := by
    refine ⟨h.nodup, h.sorted, fun p e he => ?_, h.deferred, h.fitted_of_state, fun k hk => ?_, h.unscanned⟩
    · obtain ⟨hf, hg, hi, hs⟩ := h.entry p e he
      refine ⟨hf, hg, ?_, hs⟩
      by_cases hne : e.door = j
      · simp [hne]
      · simpa [Function.update_of_ne hne] using hi
    · by_cases hkj : k = j
      · subst hkj; simp at hk
      · exact h.isolated_state k (by simpa [Function.update_of_ne hkj] using hk)
  params h _ _ := h.congr rfl rfl rfl rfl rfl rfl rfl
  refit fitted groupOf h hl := QueueLaw.refit h hl fitted groupOf

/-- The law of the latch on a door side: under it every record is safe. -/
def DoorSide.EmergencyLaw (a : DoorSide) : Prop := a.latch = true → ∀ k, (a.record k).Safe

/-- Every step keeps the law of the emergency latch with that of the Start Queues. -/
theorem emergencyLaw_faceLaw : FaceLaw (fun _ => True) (fun a => a.QueueLaw ∧ a.EmergencyLaw) where
  settings _ := trivial
  written _ _ := trivial
  queue h := h.1
  move h m := ⟨h.1.move m, fun hl k => (m.turns k).safe (m.static.2.2.2.2.2 ▸ hl) (h.2 (m.static.2.2.2.2.2 ▸ hl) k)⟩
  start hG hs hr hd hq := ⟨queueLaw_faceLaw.start hG hs hr hd hq, fun _ k => .of_rest (.inl (by rw [hr]; rfl))⟩
  scan h := ⟨queueLaw_faceLaw.scan h.1, h.2⟩
  alarm s f c h := ⟨queueLaw_faceLaw.alarm s f c h.1, fun _ => setLatch_safe c h.1⟩
  calm h := ⟨queueLaw_faceLaw.calm h.1, fun hl => by simp at hl⟩
  isolate h hj := ⟨queueLaw_faceLaw.isolate h.1 hj, h.2⟩
  restore h := ⟨queueLaw_faceLaw.restore h.1, h.2⟩
  params h hG hl := ⟨queueLaw_faceLaw.params h.1 hG hl, h.2⟩
  refit fitted groupOf h hl := ⟨queueLaw_faceLaw.refit fitted groupOf h.1 hl, fun hb k => by
    simp only [DoorSide.refit]
    split
    · exact h.2 hb k
    · exact .of_rest (.inl rfl)⟩

/-- The law of reclose attempts on a door side. -/
def DoorSide.RecloseLaw (a : DoorSide) : Prop := 1 ≤ a.par.recloseMax ∧ ∀ k, (a.record k).Counted a.par.recloseMax

theorem DoorRec.Counted.of_zero {d : DoorRec} {n : Nat} (hn : 1 ≤ n) (ha : d.attempts = 0) (ho : d.state ≠ some .obstructed) :
    d.Counted n := ⟨by omega, fun h => absurd h ho, fun _ => ha, fun _ => by omega⟩

/-- WRITE PARAMETERS brings reclose_max into its range, the lower end of which is 1 (R67, R68). -/
theorem readParam_recloseMax {p : List Byte} {at_ id v : Nat} {c : Bool} (h : readParam p at_ = some (id, v, c)) (hi : id = 7) :
    1 ≤ v := by
  unfold readParam at h
  dsimp only at h
  split at h
  · next lo hi' hr =>
    split at h
    · cases h
    · simp only [Option.some.injEq, Prod.mk.injEq] at h
      obtain ⟨h1, h2, -⟩ := h
      rw [h1, hi] at hr
      simp only [paramRange, Option.some.injEq, Prod.mk.injEq] at hr
      obtain ⟨rfl, rfl⟩ := hr
      subst h2
      simp only [clamp]
      omega
  · split at h
    · next hc =>
      simp only [Option.some.injEq, Prod.mk.injEq] at h
      simp only [Bool.and_eq_true, Bool.or_eq_true, decide_eq_true_eq] at hc
      omega
    · cases h

theorem put_recloseMax (q : Params) (id v : Nat) : (q.put id v).recloseMax = if id = 7 then v else q.recloseMax := by
  unfold Params.put
  split <;> simp_all

theorem mem_of_allSome {α : Type} {l : List (Option α)} {xs : List α} (h : allSome l = some xs) {x : α} (hx : x ∈ xs) :
    some x ∈ l := by
  induction l generalizing xs with
  | nil => cases h; cases hx
  | cons o l ih =>
    cases o with
    | none => cases h
    | some y =>
      obtain ⟨ys, hy, rfl⟩ := Option.map_eq_some_iff.1 (show (allSome l).map (y :: ·) = some xs from h)
      rcases List.mem_cons.1 hx with rfl | hx
      · exact List.mem_cons_self
      · exact List.mem_cons_of_mem _ (ih hy hx)

theorem readParams_recloseMax {pl : List Byte} {xs : List (Nat × Nat × Bool)} {q : Params} (h : readParams pl = some xs)
    (hq : 1 ≤ q.recloseMax) : 1 ≤ (xs.foldl (fun q x => q.put x.1 x.2.1) q).recloseMax := by
  have each : ∀ x ∈ xs, x.1 = 7 → 1 ≤ x.2.1 := by
    intro x hx hi
    unfold readParams at h
    dsimp only at h
    split at h
    · split at h
      · cases h
      · next ys hy =>
        split at h
        · cases h
          obtain ⟨n, -, hn⟩ := List.mem_map.1 (mem_of_allSome hy hx)
          exact readParam_recloseMax (id := x.1) (v := x.2.1) (c := x.2.2) hn hi
        · cases h
    · cases h
  clear h
  induction xs generalizing q with
  | nil => exact hq
  | cons x xs ih =>
    refine ih ?_ fun y hy => each y (List.mem_cons_of_mem _ hy)
    rw [put_recloseMax]
    split
    · next h => exact each x List.mem_cons_self h
    · exact hq

theorem RecloseLaw.move {a b : DoorSide} (h : a.RecloseLaw) (m : a.Move b) : b.RecloseLaw := by
  have par := m.static.2.2.2.1
  exact ⟨par ▸ h.1, fun k => par ▸ (m.turns k).counted h.1 (h.2 k)⟩

theorem RecloseLaw.path {a b : DoorSide} (h : a.RecloseLaw) (m : a.Path b) : b.RecloseLaw := by
  induction m with
  | refl => exact h
  | tail _ m ih => exact RecloseLaw.move ih m

/-- Every step keeps the law of reclose attempts with that of the Start Queues. -/
theorem recloseLaw_faceLaw : FaceLaw (fun p => 1 ≤ p.recloseMax) (fun a => a.QueueLaw ∧ a.RecloseLaw) where
  settings h := h.2.1
  written := readParams_recloseMax
  queue h := h.1
  move h m := ⟨h.1.move m, RecloseLaw.move h.2 m⟩
  start hG hs hr hd hq := ⟨queueLaw_faceLaw.start trivial hs hr hd hq, hG, fun k =>
    .of_zero hG (by rw [hr]; rfl) (by rw [hr]; simp [DoorRec.blank])⟩
  scan h := ⟨queueLaw_faceLaw.scan h.1, h.2⟩
  alarm s f c h := by
    have counted : ((s.alarmed f).doorSide f).RecloseLaw := by rw [alarmed_doorSide]; exact h.2
    exact ⟨queueLaw_faceLaw.alarm s f c h.1, RecloseLaw.path counted (setLatch_leads c (alarmed_law h.1))⟩
  calm h := ⟨queueLaw_faceLaw.calm h.1, h.2⟩
  isolate h hj := ⟨queueLaw_faceLaw.isolate h.1 hj, h.2⟩
  restore h := ⟨queueLaw_faceLaw.restore h.1, h.2⟩
  params {a p} h hG hl := ⟨queueLaw_faceLaw.params h.1 trivial hl, hG, fun k => by
    have state := (QueueLaw.at_rest h.1 hl).2.2 k
    exact .of_zero hG ((h.2.2 k).zero (by rw [state]; split <;> simp)) (by show (a.record k).state ≠ _; rw [state]; split <;> simp)⟩
  refit fitted groupOf h hl := ⟨queueLaw_faceLaw.refit fitted groupOf h.1 hl, h.2.1, fun k => by
    simp only [DoorSide.refit]
    split
    · exact h.2.2 k
    · exact .of_zero h.2.1 rfl (by simp [DoorRec.blank])⟩

end Sys2Proof.Machine
end

section
namespace Sys2Proof.Machine
open DoorSide

/-! SUPPORT. The copies of the configuration: what the stored copy and a commit in flight become in a command. -/

variable {s t : State} {f : Face}

/-- The stored copy and the commit in flight. -/
def State.copies (s : State) : NvStore × Option Commit := (s.nv, s.commit)

theorem copies_of_outside (h : t.outside f = s.outside f) : t.copies = s.copies := outside_eq_of State.copies (fun _ => rfl) h

theorem copies_outside (f : Face) (x : State) : (State.outside f x).copies = x.copies := rfl

theorem copies_mapLink (x : State) (l : Link) (h : LinkState → LinkState) : (x.mapLink l h).copies = x.copies := by cases l <;> rfl

theorem copies_notices (x : State) (ns : List Notice) : ({ x with notices := ns } : State).copies = x.copies := rfl

theorem copies_clock (x : State) (a : Ms) (b : Us) (c : Nat) (d : Vector Drives 64) (q : Fin 1000) :
    ({ x with msClock := a, usClock := b, usPhase := q, scanPhase := c, fieldOut := d } : State).copies = x.copies := rfl

theorem copies_silence (x : State) (a : Option Timer) (b : Bool) :
    ({ x with silence := a, ilLost := b } : State).copies = x.copies := rfl

theorem copies_mapConfig (x : State) (h : WorkingCopy → WorkingCopy) : (x.mapConfig h).copies = x.copies := rfl

theorem copies_drain (x : State) : x.drain.copies = x.copies := drain_keeps _ State.copies copies_outside copies_notices

theorem copies_serve {l : Link} {x : Frame} {d : State → State × Reply} (hd : ∀ u, (d u).1.copies = u.copies) :
    (s.serve l x d).copies = s.copies :=
  serve_keeps State.copies copies_outside copies_mapLink copies_notices copies_silence hd

/-- Every copy of the configuration has a reclose_max of at least 1 (R68). -/
def Recloses (c : NvStore × Option Commit) : Prop :=
  (∀ x, c.2 = some x → x.content.recloses) ∧ ∀ w g k, c.1 = .whole w g k → w.recloses

theorem default_recloses : WorkingCopy.default.recloses := ⟨by decide, by decide⟩

/-- What a start loads has a reclose_max of at least 1. -/
theorem load_recloses (h : Recloses s.copies) : s.nvAfterCut.load.config.recloses := by
  unfold State.nvAfterCut
  split
  · exact default_recloses
  · cases hn : s.nv with
    | neverWritten => exact default_recloses
    | torn => exact default_recloses
    | whole w g k =>
      unfold NvStore.load
      dsimp only
      split
      · exact h.2 w g k hn
      · exact default_recloses

theorem nvAfterCut_recloses (h : Recloses s.copies) (o : Option Commit) (ho : o = none) : Recloses (s.nvAfterCut, o) := by
  subst ho
  refine ⟨fun x hx => by simp at hx, fun w g k hw => ?_⟩
  unfold State.nvAfterCut at hw
  dsimp only at hw
  split at hw
  · cases hw
  · exact h.2 w g k hw

theorem start_recloses (cause : ResetCause) (r : StartReadings) (h : Recloses s.copies) : Recloses (s.start cause r).copies := by
  have key : ∀ f o (x : State), (x.firstKey f o).copies = x.copies := fun f o x => by
    cases o
    · rfl
    · exact copies_of_outside (keyAccepted_outside ..)
  rw [State.start, key, key]
  exact nvAfterCut_recloses h _ rfl

theorem firstScan_copies (v : Vector DoorInputs 64) : (s.firstScan v).copies = s.copies := by
  have inputs : (s.setInputs v).markScanned.copies = s.copies := by simp only [State.copies, State.markScanned, State.setInputs]
  rw [firstScan_eq, copies_of_outside (resolveNew_outside ..), copies_of_outside (resolveNew_outside ..), inputs]

theorem endCommit_recloses (h : Recloses s.copies) : Recloses s.endCommit.copies := by
  unfold State.endCommit
  cases hc : s.commit with
  | none => exact h
  | some c =>
    have stored : Recloses (.whole c.content c.gen c.crc, none) :=
      ⟨fun x hx => by simp at hx, fun w g k hw => by cases hw; exact h.1 c hc⟩
    dsimp only
    rw [report_keeps State.copies copies_mapLink]
    split
    · rw [copies_of_outside (recomputeClp_outside ..), copies_of_outside (recomputeClp_outside ..)]
      exact stored
    · exact stored

/-! ### Commands -/

theorem of_event_copies {op : State → State} {P : NvStore × Option Commit → Prop} (h : P s.copies) (ho : P (op s).copies)
    (he : s.event op = .next t) : P t.copies := by
  unfold State.event at he
  cases hp : s.powered
  · simp only [hp, Bool.false_eq_true, if_false, Host.Outcome.next.injEq] at he; exact he ▸ h
  · simp only [hp, if_true, Host.Outcome.next.injEq] at he
    rw [← he, copies_drain]
    exact ho

theorem event_copies {op : State → State} (ho : (op s).copies = s.copies) (he : s.event op = .next t) : t.copies = s.copies :=
  of_event_copies (P := fun c => c = s.copies) rfl ho he

theorem expiry_copies {op : State → State} (ho : ∀ x, (op x).copies = x.copies) (o : Option Timer) :
    (s.expiry o op).copies = s.copies := expiry_keeps State.copies copies_clock o ho s

theorem beamChange_copies {op : State → State} (ho : ∀ x, (op x).copies = x.copies) (held v : Bool) (a : Us) :
    (s.beamChange held v a op).copies = s.copies := beamChange_keeps State.copies copies_clock held v a ho s

theorem request_copies {l : Link} {x : Frame} {d : State → State × Reply} (hd : ∀ u, (d u).1.copies = u.copies)
    (he : (.next (s.serve l x d) : Answer) = .next t) : t.copies = s.copies := by
  cases he
  exact copies_serve hd

theorem decides_copies {i : Instr} {r : RequestRule} (hr : requestRule i = some r) (hc : touchesStore i = false) (u : State) :
    (r.decide u).1.copies = u.copies := by
  have o := copies_outside
  have c := copies_mapConfig
  cases i <;> cases hr
  case arrivalNotice => exact decideArrival_keeps State.copies o ..
  case doorRelease => exact decideRelease_keeps State.copies o ..
  case releaseWithdraw => exact decideWithdraw_keeps State.copies o ..
  case trainAtRest => exact decideAtRest_keeps State.copies o ..
  case departed => exact decideDeparted_keeps State.copies o ..
  case possessionGrant => exact decideGrant_keeps State.copies o ..
  case possessionRevoke => exact decideRevoke_keeps State.copies o ..
  case writeGeometry => exact decideWriteGeometry_keeps State.copies o c ..
  case writeTolerance => exact decideWriteTolerance_keeps State.copies o c ..
  case writeParameters => exact decideWriteParameters_keeps State.copies c ..
  case writeDeviceParameters => exact decideWriteDevice_keeps State.copies c ..
  case setReporting => exact decideSetReporting_keeps State.copies copies_mapLink c ..
  case writeCarProfile => exact decideWriteCar_keeps State.copies c ..
  case writeUnitProfile => exact decideWriteUnit_keeps State.copies c ..
  case writeDescriptor => exact decideWriteDescriptor_keeps State.copies c ..
  case lockGeometry => exact decideLock_keeps State.copies c ..
  case unlockGeometry => exact decideUnlock_keeps State.copies c ..
  case commit => cases hc
  case doorCommandOpen | doorCommandClose => exact decideDoorCommand_keeps State.copies o ..
  case isolate => exact decideIsolate_keeps State.copies o c ..
  case restore => exact decideRestore_keeps State.copies o c ..
  case doorReset => exact decideDoorReset_keeps State.copies o ..
  case ackGap => exact decideAckGap_keeps State.copies o ..
  case faceReset => exact decideFaceReset_keeps State.copies o ..
  case berthAck => exact decideBerthAck_keeps State.copies o ..
  case evacuate => exact decideEvacuate_keeps State.copies o ..
  case emergencyClear => exact decideEmergencyClear_keeps State.copies o ..
  case startProgram => exact decideStart_keeps State.copies o ..
  case haltProgram => exact decideHalt_keeps State.copies o ..
  case resumeProgram => exact decideResume_keeps State.copies o ..
  case stepProgram => exact decideStep_keeps State.copies o ..
  case clearProgramErrors => exact decideClearErrors_keeps State.copies o ..
  case armProgram => exact decideArm_keeps State.copies o ..
  case disarmProgram => exact decideDisarm_keeps State.copies o ..
  case identify => exact decideIdentify_keeps State.copies ..
  case getStatusFace | getStatusDoorUnit | getStatusBerth => exact decideGetStatus_keeps State.copies ..
  case readGeometry => exact decideReadGeometry_keeps State.copies ..
  case readParameters => exact decideReadParameters_keeps State.copies ..
  case readDeviceParameters => rfl
  case readCarProfile => exact decideReadCar_keeps State.copies ..
  case readUnitProfile => exact decideReadUnit_keeps State.copies ..
  case readIsolation => exact decideReadIsolation_keeps State.copies ..
  case readDescriptor => exact decideReadDescriptor_keeps State.copies ..
  case readCounts => exact decideReadCounts_keeps State.copies ..
  case readHistory => exact decideReadHistory_keeps State.copies ..

theorem of_rule_copies {i : Instr} {r : RequestRule} {l : Link} {x : Frame} (hr : requestRule i = some r)
    (hx : i.frame? = some (l, x)) (hc : touchesStore i = false) (he : exec i s = .next t) : t.copies = s.copies := by
  rw [exec_of_rule hr hx] at he
  exact request_copies (fun u => checked_keeps State.copies (decides_copies hr hc)) he

/-- Of the commands only the starts, the loss of power, COMMIT and the end of a commit touch the copies (R73, R74). -/
theorem exec_copies {c : Instr} (hc : touchesStore c = false) (he : exec c s = .next t) : t.copies = s.copies := by
  have same : ∀ {f : Face} {u v : State}, u.outside f = v.outside f → u.copies = v.copies := copies_of_outside
  cases c
  case powerOn | resetPin | lossOfPower | commitEnd => cases hc
  case firstCompleteScan v =>
    refine event_copies (op := fun s => if s.scanDone then s else s.firstScan v) ?_ he
    split
    · rfl
    · exact firstScan_copies v
  case doorInputChange f j v =>
    refine event_copies ?_ he
    split
    · exact same (doorChange_outside ..)
    · rfl
  case sensingInputChange f j v =>
    refine event_copies ?_ he
    split
    · exact same (senseChange_outside ..)
    · rfl
  case unlatchSettleExpiry f j =>
    refine event_copies ?_ he
    split
    · exact expiry_copies (fun x => same (openEntry_outside ..)) _
    · rfl
  case recloseDelayExpiry f j =>
    refine event_copies ?_ he
    split
    · exact expiry_copies (fun x => same (enter_outside ..)) _
    · rfl
  case doorTimeoutExpiry f j =>
    refine event_copies (op := State.timedOut f j) ?_ he
    unfold State.timedOut
    split
    · rfl
    · exact expiry_copies (fun x => same (enterFault_outside ..)) _
  case spacingHoldExpiry f p =>
    exact event_copies (expiry_copies (fun x => (same (evalGrants_outside ..)).trans (same (mapGroup_outside ..))) _) he
  case historySlotEmptied f p i =>
    exact event_copies (expiry_copies (fun x => (same (evalGrants_outside ..)).trans (same (mapGroup_outside ..))) _) he
  case quietTimerExpiry f =>
    refine event_copies (expiry_copies (fun x => ?_) _) he
    dsimp only
    split
    · exact same (mapFace_outside ..)
    · exact (same (setQuiet_outside ..)).trans (same (mapFace_outside ..))
  case deferralTimerExpiry f j => exact event_copies (expiry_copies (fun x => same (closeEntry_outside ..)) _) he
  case clearingTimerExpiry f j => exact event_copies (expiry_copies (fun x => same (clearingExpired_outside ..)) _) he
  case ab1Change f v a => exact event_copies (beamChange_copies (fun x => same (ab1Changed_outside ..)) ..) he
  case ab2Change f v a => exact event_copies (beamChange_copies (fun x => same (ab2Changed_outside ..)) ..) he
  case swBeamChange f i v a => exact event_copies (beamChange_copies (fun x => same (swChanged_outside ..)) ..) he
  case approachTimerExpiry f =>
    refine event_copies ?_ he
    split
    · exact expiry_copies (fun x => same (approachOver_outside ..)) _
    · rfl
  case settleTimerExpiry f =>
    refine event_copies ?_ he
    split
    · exact expiry_copies (fun x => same (enterStopped_outside ..)) _
    · rfl
  case postingTimerExpiry f => exact event_copies (expiry_copies (fun x => same (issuePosted_outside ..)) _) he
  case keyswitchChange f pos => exact event_copies (same (keyAccepted_outside ..)) he
  case eoiChange f v => exact event_copies (same (eoiAccepted_outside ..)) he
  case maintChange v => exact event_copies (op := fun s => { s with maint := v }) rfl he
  case ilSilenceTimerExpiry =>
    refine event_copies (expiry_copies (fun x => ?_) _) he
    simp only [State.interlockLost, State.reportLinkState]
    rw [offerRecord_keeps State.copies copies_mapLink, same (withdraw_outside ..), same (withdraw_outside ..)]
    rfl
  case validFrameReceived l x =>
    refine event_copies ?_ he
    split
    · exact frameArrives_keeps State.copies copies_mapLink copies_silence ..
    · rfl
  case frameAbandoned l c =>
    refine event_copies ?_ he
    unfold State.abandonFrame
    (repeat' split) <;> first | rfl | exact copies_mapLink ..
  case transmitComplete l =>
    refine event_copies ?_ he
    split
    · unfold State.transmitterFree
      dsimp only
      split
      · simp only [State.send, copies_mapLink]
      · rw [considerReport_keeps State.copies copies_mapLink, copies_mapLink]
    · rfl
  case flushTimerExpiry l =>
    exact event_copies (expiry_copies (fun x =>
      (considerReport_keeps State.copies copies_mapLink ..).trans (copies_mapLink ..)) _) he
  case byteReceived l b =>
    refine event_copies ?_ he
    unfold State.takeByte State.collectByte
    dsimp only
    (repeat' split) <;> first | exact copies_mapLink .. | exact frameArrives_keeps State.copies copies_mapLink copies_silence ..
  case limitTimerExpiry f => exact event_copies (expiry_copies (fun x => same (limitOver_outside ..)) _) he
  case holdTimerExpiry f => exact event_copies (expiry_copies (fun x => same (holdOver_outside ..)) _) he
  case unknownKind l k n p =>
    have he : execUnknownKind l k n p s = .next t := he
    unfold execUnknownKind at he
    split at he
    · exact request_copies (fun _ => rfl) he
    · cases he; rfl
  case nonRequestFrame l k n p =>
    cases he
    exact dropFrame_keeps State.copies copies_outside copies_mapLink copies_notices copies_silence
  case setMode l n p =>
    exact request_copies (fun u => decideSetMode_keeps State.copies copies_outside copies_notices (fun _ _ => rfl) ..) he
  all_goals exact of_rule_copies rfl rfl hc he

theorem commit_recloses {u : State} (hr : u.config.recloses) (h : Recloses u.copies) : Recloses (decideCommit u).1.copies := by
  unfold decideCommit
  split
  · exact h
  · exact ⟨fun x hx => by cases hx; exact hr, h.2⟩

end Sys2Proof.Machine
end

section
namespace Sys2Proof.Machine
open DoorSide

variable {s t : State} {f : Face}

/-- The copies through the taking of a COMMIT: the working copy that it takes is the one that the frame found. -/
theorem serve_commit_recloses {l : Link} {x : Frame} {o : Owner} {b : Bool} (hr : s.config.recloses) (h : Recloses s.copies) :
    Recloses (s.serve l x (checked o l b decideCommit)).copies := by
  have here : ∀ u : State, (u.present l x).copies = u.copies ∧ (u.present l x).config = u.config := fun u => by
    unfold State.present
    split
    · exact ⟨rfl, rfl⟩
    · exact ⟨frameArrives_keeps State.copies copies_mapLink copies_silence ..,
        frameArrives_keeps State.config (fun x l h => by cases l <;> rfl) (fun _ _ _ => rfl) ..⟩
  have decided : ∀ u : State, u.config.recloses → Recloses u.copies → Recloses (checked o l b decideCommit u).1.copies :=
    fun u hu hc => by
      unfold checked
      (repeat' split)
      · exact hc
      · exact hc
      · exact commit_recloses hu hc
  obtain ⟨copies, config⟩ := here s
  unfold State.serve
  dsimp only
  (repeat' split)
  · rw [State.answer, sendReply_keeps State.copies copies_mapLink]
    have cleared : ∀ (c : ResultCode) (u : State), (u.clearOverruns l x c).copies = u.copies := fun c u => by
      unfold State.clearOverruns
      split
      · exact copies_mapLink ..
      · rfl
    rw [cleared, copies_drain]
    refine decided _ ?_ ?_
    · rw [popFrame_config, config]; exact hr
    · rw [State.popFrame, copies_mapLink, copies]; exact h
  · rw [copies_drain, copies]; exact h
  · exact h

theorem exec_recloses {c : Instr} (hr : s.config.recloses) (h : Recloses s.copies) (he : exec c s = .next t) :
    Recloses t.copies := by
  cases hc : touchesStore c
  · rw [exec_copies hc he]; exact h
  · cases c
    case powerOn r =>
      cases he
      rw [copies_drain]
      exact start_recloses .power r h
    case resetPin r => exact of_event_copies h (start_recloses .pin r h) he
    case lossOfPower => exact of_event_copies (op := State.cutPower) h (nvAfterCut_recloses h none rfl) he
    case commitEnd => exact of_event_copies h (endCommit_recloses h) he
    case commit l g p => cases he; exact serve_commit_recloses hr h
    all_goals cases hc

theorem step_recloses (hr : s.config.recloses) (h : Recloses s.copies) (he : step s = .next t) : Recloses t.copies := by
  unfold step at he
  split at he
  · unfold State.idle at he
    split at he
    · exact exec_recloses hr h he
    · cases he
      split
      · rw [advance_keeps State.copies copies_clock]; exact h
      · exact h
  · next c rest _ => exact exec_recloses (s := { s with pending := rest }) hr h he

/-! ### The laws of the whole machine -/

theorem startQueueLaw_holds : (∀ f, s.startQueueLaw f) ↔ Holds DoorSide.QueueLaw s := forall_congr' fun _ => startQueueLaw_iff

/-- Every step of a machine whose door sides keep a law that asks nothing of the parameters. -/
theorem FaceLaw.steps_of_true {L : DoorSide → Prop} (hL : FaceLaw (fun _ => True) L) (h : Holds L s) (he : step s = .next t) :
    Holds L t := hL.steps ⟨trivial, trivial⟩ h he

theorem emergencyLaws_iff : (s.startQueueLaw f ∧ s.emergencyLaw f) ↔
    (s.doorSide f).QueueLaw ∧ (s.doorSide f).EmergencyLaw := and_congr startQueueLaw_iff emergencyLaw_iff

theorem recloseLaw_iff : (∀ f, s.recloseLaw f) ↔ (∀ f, (s.doorSide f).RecloseLaw) ∧ Recloses s.copies := by
  constructor
  · intro h
    obtain ⟨⟨c0, c1⟩, commit, nv, -⟩ := h .f0
    refine ⟨fun f => ⟨by cases f; exacts [c0, c1], fun k => ?_⟩, commit, nv⟩
    obtain ⟨-, -, -, each⟩ := h f
    obtain ⟨bound, obstructed, zero, below⟩ := each k
    exact ⟨bound, obstructed, zero, below⟩
  · rintro ⟨h, commit, nv⟩ f
    refine ⟨⟨(h .f0).1, (h .f1).1⟩, commit, nv, fun k => ?_⟩
    obtain ⟨bound, obstructed, zero, below⟩ := (h f).2 k
    exact ⟨bound, obstructed, zero, below⟩

end Sys2Proof.Machine
end

section
open Sys2Proof.Machine

/-- Settles O9: a step is made of moves of the door sides, each of which keeps the law, and of the few changes that no move
makes. -/
theorem stepsKeepTheStartQueueLaw : Obligations.StepsKeepTheStartQueueLaw := fun _ _ h he =>
  startQueueLaw_holds.2 (queueLaw_faceLaw.steps_of_true (startQueueLaw_holds.1 h) he)

/-- Settles O54: a safe record turns into safe ones alone under the latch, and the setting of the latch makes every record safe. -/
theorem stepsKeepTheEmergencyLaw : Obligations.StepsKeepTheEmergencyLaw := fun _ _ h he f =>
  (emergencyLaws_iff.2 (emergencyLaw_faceLaw.steps_of_true (fun g => emergencyLaws_iff.1 (h g)) he f)).2

/-- Settles O55: a counted record turns into counted ones alone, and reclose_max is at least 1 in every copy of the
configuration. -/
theorem stepsKeepTheRecloseLaw : Obligations.StepsKeepTheRecloseLaw := fun s t h he => by
  obtain ⟨sides, copies⟩ := recloseLaw_iff.1 fun f => (h f).2
  have loaded := load_recloses copies
  have held : Holds (fun a => a.QueueLaw ∧ a.RecloseLaw) s := fun g => ⟨startQueueLaw_iff.1 (h g).1, sides g⟩
  have kept := recloseLaw_faceLaw.steps loaded held he
  exact recloseLaw_iff.2 ⟨fun f => (kept f).2, step_recloses ⟨(sides .f0).1, (sides .f1).1⟩ copies he⟩

end

section
namespace Sys2Proof.Machine

/-! SUPPORT. The drives of a door unit, and the state after reset. -/

theorem drivesAt_fieldPosition (s : State) (f : Face) (j : DoorIx) : s.drivesAt (fieldPosition f j) =
    if s.isFitted f j then drivesOf (s.door f j).state else ⟨.off, .off⟩ := by
  have h := j.isLt
  have fits : (32 + j.val) % 32 = j.val := by omega
  cases f
  · simp [State.drivesAt, fieldPosition, h, Nat.mod_eq_of_lt]
  · simp [State.drivesAt, fieldPosition, fits]

/-- The table of R6. -/
theorem drivesOf_table (st : DoorState) :
    ((drivesOf (some st)).latch = .withdraw ↔ st = .unlatching ∨ st = .unlatched ∨ st = .opening) ∧
    ((drivesOf (some st)).latch = .engage ↔ st = .locking) ∧
    ((drivesOf (some st)).leaf = .open_ ↔ st = .opening ∨ st = .standOpen ∨ st = .closeWait ∨ st = .reversing
      ∨ st = .recloseHold ∨ st = .obstructed) ∧
    ((drivesOf (some st)).leaf = .close ↔ st = .closing ∨ st = .locking) := by
  cases st <;> decide

/-- The tick that ends a scan phase sends the drives out. -/
theorem advance_fieldOut {s : State} {n : Nat} (hs : s.scanDone = true) (hn : 4 ≤ s.scanPhase + n) (p : Fin 64) :
    (s.advance n).fieldOut[p] = s.drivesAt p := by
  simp only [State.advance, hs, if_true, if_pos hn, State.sendDrives, Fin.getElem_fin, Vector.getElem_ofFn]
  rfl

theorem reset_clpLaw (f : Face) : State.reset.clpLaw f := by
  cases f <;> rfl

theorem reset_mapLaw (f : Face) : State.reset.mapLaw f := by
  cases f <;> exact fun h => absurd rfl h

theorem reset_modeLaw (f : Face) : State.reset.modeLaw f := by
  unfold State.modeLaw ModeUnit.lawful
  cases f <;> decide

theorem reset_startQueueLaw (f : Face) : State.reset.startQueueLaw f := by
  unfold State.startQueueLaw
  cases f <;> decide

theorem reset_emergencyLaw (f : Face) : State.reset.emergencyLaw f := by
  intro h
  cases f <;> cases h

theorem reset_recloseLaw : ∀ f, State.reset.recloseLaw f := by
  refine recloseLaw_iff.2 ⟨fun f => ⟨by cases f <;> decide, fun k => ?_⟩,
    ⟨fun x h => (nomatch h), fun w g k h => (nomatch h)⟩⟩
  have blank : State.reset.door f k = DoorRec.blank := by cases f <;> simp [State.door, State.face, State.reset, FaceState.start]
  show (State.reset.door f k).Counted _
  rw [blank]
  exact .of_zero (by cases f <;> decide) rfl (by simp [DoorRec.blank])

end Sys2Proof.Machine
end

section
open Sys2Proof.Machine

/-- Settles O59: reset blanks both faces, and every law holds of blank units. -/
theorem resetMeetsTheLaws : Obligations.ResetMeetsTheLaws := by
  have links : State.reset.linkLaw := by unfold State.linkLaw LinkState.bounded; decide
  exact ⟨fun f => ⟨reset_modeLaw f, reset_mapLaw f, reset_clpLaw f, reset_startQueueLaw f,
    reset_emergencyLaw f, reset_recloseLaw f⟩, links, rfl, rfl⟩

/-- Settles O3: the table of R6, read at the field position of the door unit, is what the next completed scan sends out. -/
theorem drivesFollowTheDoorState : Obligations.DrivesFollowTheDoorState := by
  intro s f j
  have held := drivesAt_fieldPosition s f j
  refine ⟨fun hf => ?_, fun st hf hd => ?_, fun hp hd hw hs hn => ?_⟩
  · rw [held, hf]; rfl
  · rw [held, if_pos hf, hd]
    exact drivesOf_table st
  · exact ⟨s.advance 1, by rw [step_idle hp, idle_of_none hd, if_pos hw], advance_fieldOut hs (by omega) _⟩

end

section
namespace Sys2Proof.Machine

/-! SUPPORT. A state in which a posted open and the chain of a dwell program meet in one step. -/

namespace OpenedThenClosed

/-- Two door units, one LOCKED and one OBSTRUCTED, at a STOPPED berth with release in force in AUTOMATIC; a posted open is due. A
program follows the second door unit through an OPEN without hold, and chains to a CLOSE of the served door units. -/
def face : FaceState := { FaceState.start .automatic with
  doors := Vector.ofFn fun j : Fin 32 =>
    if j = 0 then { DoorRec.blank with state := some .locked }
    else if j = 1 then { DoorRec.blank with state := some .obstructed } else DoorRec.blank
  inputs := Vector.replicate 32 { DoorInputs.blank with lockEngaged := true }
  berth := { Berth.blank with
    state := .stopped
    release := true
    posted := some ⟨0xFF#8, 0, true, false, false, 0, some 0⟩
    postingTimer := some ⟨0, 0⟩ }
  align := { Alignment.blank with grade := some .full, map := [0, 1] }
  mode := { ModeUnit.start .automatic with mode := .automatic, saved := none, key := .auto, keyRead := true }
  engine := { Engine.start with state := .acting, phase := .act, current := some 0, followed := [(1, true)] } }

def opening : Descriptor := ⟨.open_, ⟨.served, 0⟩, .immediate, 0, 0, 0, true, 1⟩

def closing : Descriptor := ⟨.close, ⟨.served, 0⟩, .immediate, 0, 0, 0, false, 0⟩

def state : State := { State.reset with
  scanDone := true
  config := { WorkingCopy.default with
    geo0 := { Geometry.default with n := 2 }
    descriptors := Vector.ofFn fun i : Fin 96 => if i = 0 then some opening else if i = 1 then some closing else none }
  f0 := face
  pending := [.postingTimerExpiry .f0] }

/-- The state of the first door unit after the step. -/
def after : Option DoorState :=
  match step state with
  | .next t => (t.door .f0 0).state
  | _ => none

end OpenedThenClosed
end Sys2Proof.Machine
end

section
open Sys2Proof.Machine

/-- Refutes O53: a posted open takes a LOCKED door unit to UNLATCHING, and brings a followed one to OPEN, which completes the OPEN of
a dwell program with a hold of 0; the chain goes on within the step to a CLOSE of the served door units, and the first is LOCKING
after it. -/
theorem not_stepsLeaveLockedOnlyWithPermission : ¬ Obligations.StepsLeaveLockedOnlyWithPermission := by
  intro h
  have law : ∀ f, OpenedThenClosed.state.startQueueLaw f := by
    intro f
    unfold State.startQueueLaw
    cases f <;> decide
  have before : (OpenedThenClosed.state.door .f0 0).state = some .locked := by decide
  have after : OpenedThenClosed.after = some .locking := by decide
  unfold OpenedThenClosed.after at after
  split at after
  · next t ht =>
    obtain ⟨-, left⟩ := h _ t law ht .f0 0
    have left := left before
    rw [after] at left
    simp at left
  · cases after

end

section
namespace Sys2Proof.Machine

/-! SUPPORT. What the operations on a door unit make of the door unit itself and of its power group. -/

variable {s t : State} {f : Face} {j k : DoorIx} {p q : GroupIx}

/-! ### Groups -/

theorem mapGroup_self {h : Group → Group} (e : h (s.group f p) = s.group f p) : s.mapGroup f p h = s := by
  cases f <;> simp only [State.group, State.face, Fin.getElem_fin] at e <;>
    simp only [State.mapGroup, State.mapFace, Fin.getElem_fin, e, put_same]

theorem mapGroup_group_if (h : Group → Group) :
    (s.mapGroup f p h).group f q = if q = p then h (s.group f p) else s.group f q := by
  by_cases hq : q = p
  · subst hq; simp
  · rw [if_neg hq, mapGroup_group_other _ _ _ _ hq]

/-- A group with a start recorded now (R34). -/
def Group.started (x : Group) (now : Ms) (window : Nat) : Group :=
  { x with history := put x.history (x.startSlot now) (some ⟨now, window⟩) }

theorem recordStart_group : (s.recordStart f p).group f q =
    if q = p then (s.group f p).started s.msClock (s.par f).startWindow else s.group f q := mapGroup_group_if _

theorem takeHead_group (rest : List Entry) : (s.takeHead f p rest).group f q = if q = p then
    { (({ s.group f p with queue := rest } : Group).started s.msClock (s.par f).startWindow) with spacing := s.spacingStart f }
    else s.group f q := by
  have par : (s.mapGroup f p (fun x => { x with queue := rest })).par f = s.par f := par_of (by simp) f
  rw [State.takeHead, mapGroup_group_if]
  split
  · rw [recordStart_group, if_pos rfl, mapGroup_group, mapGroup_msClock, par]
  · next h => rw [recordStart_group, if_neg h, mapGroup_group_other _ _ _ _ h]

/-! ### Grants -/

theorem grantOnce_waits (h : (s.group f p).queue = [] ∨ (s.group f p).mayGrant = false) : s.grantOnce f p = s := by
  rcases grantOnce_cases (s := s) (f := f) p with he | ⟨e, rest, hq, hg, -⟩
  · exact he
  · rcases h with h | h
    · simp [h] at hq
    · simp [h] at hg

theorem evalGrants_waits (h : (s.group f p).queue = [] ∨ (s.group f p).mayGrant = false) : s.evalGrants f p = s := by
  simp only [State.evalGrants, grantOnce_waits h]

theorem evalIfHead_waits (h : (s.group f p).queue.head?.map Entry.door = some j → (s.group f p).mayGrant = false) :
    s.evalIfHead f p j = s := by
  unfold State.evalIfHead
  split
  · next hh => exact evalGrants_waits (.inr (h hh))
  · rfl

theorem grantOnce_head {e : Entry} {rest : List Entry} (hq : (s.group f p).queue = e :: rest)
    (hg : (s.group f p).mayGrant = true) : s.grantOnce f p = match e.motion with
      | .open_ => (s.takeHead f p rest).enterTold f e.door .opening id
      | .close => (s.takeHead f p rest).enterClosing f e.door := by
  unfold State.grantOnce
  rw [hq]
  dsimp only
  rw [if_pos hg]
  cases e.motion <;> rfl

theorem takeHead_unit (rest : List Entry) : (s.takeHead f p rest).unit f k = s.unit f k := by
  rw [State.takeHead, mapGroup_unit, recordStart_unit, mapGroup_unit]

theorem takeHead_door (rest : List Entry) : (s.takeHead f p rest).door f k = s.door f k := congrArg Prod.fst (takeHead_unit rest)

@[simp] theorem takeHead_outside (rest : List Entry) : (s.takeHead f p rest).outside f = s.outside f := by simp [State.takeHead]

theorem takeHead_clock (rest : List Entry) : (s.takeHead f p rest).msClock = s.msClock :=
  outside_eq_of State.msClock (fun _ => rfl) (takeHead_outside rest)

theorem takeHead_par (rest : List Entry) : (s.takeHead f p rest).par f = s.par f :=
  par_of (outside_eq_of State.config (fun _ => rfl) (takeHead_outside rest)) f

/-- A granted OPEN puts the door unit of the head into OPENING. -/
theorem grantOnce_open {e : Entry} {rest : List Entry} (hq : (s.group f p).queue = e :: rest)
    (hg : (s.group f p).mayGrant = true) (hm : e.motion = .open_) :
    (s.grantOnce f p).door f e.door = (s.door f e.door).enter .opening s.msClock (s.par f) := by
  rw [grantOnce_head hq hg, hm]
  dsimp only
  rw [enterTold_door, takeHead_door, takeHead_clock, takeHead_par, id]

theorem enterClosing_group_queue : ((s.enterClosing f j).group f q).queue = (s.group f q).queue := by
  unfold State.enterClosing
  dsimp only
  split <;> simp

theorem grantOnce_queue {e : Entry} {rest : List Entry} (hq : (s.group f p).queue = e :: rest)
    (hg : (s.group f p).mayGrant = true) : ((s.grantOnce f p).group f p).queue = rest := by
  rw [grantOnce_head hq hg]
  split
  · rw [enterTold_group, takeHead_queue, if_pos rfl]
  · rw [enterClosing_group_queue, takeHead_queue, if_pos rfl]

/-- A grant with nothing behind the head ends there. -/
theorem evalGrants_last {e : Entry} (hq : (s.group f p).queue = [e]) (hg : (s.group f p).mayGrant = true) :
    s.evalGrants f p = s.grantOnce f p := by
  simp only [State.evalGrants, grantOnce_waits (.inl (grantOnce_queue hq hg))]

/-- A granted head keeps what the grant gives it through the grants after it. -/
theorem evalGrants_head {e : Entry} {rest : List Entry} (hq : (s.group f p).queue = e :: rest)
    (hg : (s.group f p).mayGrant = true) (hr : ∀ x ∈ rest, x.door ≠ e.door) :
    (s.evalGrants f p).unit f e.door = (s.grantOnce f p).unit f e.door ∧ (s.evalGrants f p).noEntry f p e.door := by
  have first : (s.grantOnce f p).noEntry f p e.door := fun x hx => hr x (by rwa [grantOnce_queue hq hg] at hx)
  obtain ⟨u1, n1⟩ := grantOnce_unit _ f p first
  obtain ⟨u2, n2⟩ := grantOnce_unit _ f p n1
  obtain ⟨u3, n3⟩ := grantOnce_unit _ f p n2
  exact ⟨u3.trans (u2.trans u1), n3⟩

/-! ### The head of a queue that an entry has joined -/

theorem head_joinQueue {e x : Entry} {l : List Entry} (hn : ∀ y ∈ l, y.door ≠ e.door) (h : (joinQueue e l).head? = some x)
    (hd : x.door = e.door) : x = e := by
  rcases DoorSide.mem_joinQueue.1 (List.mem_of_mem_head? h) with rfl | hx
  · rfl
  · exact absurd hd (hn x hx)

theorem tail_joinQueue {e : Entry} {l rest : List Entry} (hn : ∀ y ∈ l, y.door ≠ e.door) (h : joinQueue e l = e :: rest) :
    ∀ y ∈ rest, y.door ≠ e.door := by
  have perm : (e :: rest).Perm (e :: l) := h ▸ DoorSide.joinQueue_perm e l
  exact fun y hy => hn y ((List.perm_cons e).1 perm |>.mem_iff.1 hy)

theorem joinQueue_normal {e : Entry} (h : e.cls = .normal) (l : List Entry) : joinQueue e l = l ++ [e] := by
  unfold joinQueue
  rw [h]

/-! ### The entry that a door unit places -/

/-- An entry that has joined the queue of its group waits there, unless it may be granted. -/
theorem evalIfHead_joined {e : Entry} {l : List Entry} (hq : (s.group f p).queue = joinQueue e l) (hn : ∀ y ∈ l, y.door ≠ e.door)
    (hw : ¬((joinQueue e l).head? = some e ∧ (s.group f p).mayGrant = true)) : s.evalIfHead f p e.door = s := by
  refine evalIfHead_waits fun hh => ?_
  rw [hq] at hh
  obtain ⟨x, hx, hd⟩ := Option.map_eq_some_iff.1 hh
  rw [head_joinQueue hn hx hd] at hx
  exact Bool.eq_false_iff.2 fun h => hw ⟨hx, h⟩

/-- An entry that has joined the queue as its head and may be granted is granted at once (R36). -/
theorem evalIfHead_granted {e : Entry} {l : List Entry} (hq : (s.group f p).queue = joinQueue e l) (hn : ∀ y ∈ l, y.door ≠ e.door)
    (hh : (joinQueue e l).head? = some e) (hg : (s.group f p).mayGrant = true) :
    (s.evalIfHead f p e.door).unit f e.door = (s.grantOnce f p).unit f e.door ∧ (s.evalIfHead f p e.door).noEntry f p e.door := by
  obtain ⟨rest, hr⟩ := List.head?_eq_some_iff.1 hh
  have eval : s.evalIfHead f p e.door = s.evalGrants f p := by
    simp only [State.evalIfHead, hq, hh, Option.map_some, if_true]
  rw [eval]
  exact evalGrants_head (hq.trans hr) hg (tail_joinQueue hn hr)

theorem placeEntry_waits {m : Motion} {c : ReqClass} (hn : s.noEntry f (s.groupOf f j) j)
    (hw : ¬((joinQueue ⟨j, m, c, s.msClock⟩ (s.group f (s.groupOf f j)).queue).head? = some ⟨j, m, c, s.msClock⟩ ∧
      (s.group f (s.groupOf f j)).mayGrant = true)) : s.placeEntry f j m c =
      s.mapGroup f (s.groupOf f j) (fun x => { x with queue := joinQueue ⟨j, m, c, s.msClock⟩ x.queue }) :=
  evalIfHead_joined (e := ⟨j, m, c, s.msClock⟩) (by rw [mapGroup_group]) hn (by rw [mapGroup_group]; exact hw)

theorem placeEntry_granted {m : Motion} {c : ReqClass} (hn : s.noEntry f (s.groupOf f j) j)
    (hh : (joinQueue ⟨j, m, c, s.msClock⟩ (s.group f (s.groupOf f j)).queue).head? = some ⟨j, m, c, s.msClock⟩)
    (hg : (s.group f (s.groupOf f j)).mayGrant = true) :
    let u := s.mapGroup f (s.groupOf f j) (fun x => { x with queue := joinQueue ⟨j, m, c, s.msClock⟩ x.queue })
    (s.placeEntry f j m c).unit f j = (u.grantOnce f (s.groupOf f j)).unit f j ∧
      (s.placeEntry f j m c).noEntry f (s.groupOf f j) j :=
  evalIfHead_granted (e := ⟨j, m, c, s.msClock⟩) (by rw [mapGroup_group]) hn hh (by rw [mapGroup_group]; exact hg)

/-- An OPEN entry that is granted at once. -/
theorem placeEntry_opens {c : ReqClass} (hn : s.noEntry f (s.groupOf f j) j)
    (hh : (joinQueue ⟨j, .open_, c, s.msClock⟩ (s.group f (s.groupOf f j)).queue).head? = some ⟨j, .open_, c, s.msClock⟩)
    (hg : (s.group f (s.groupOf f j)).mayGrant = true) :
    (s.placeEntry f j .open_ c).door f j = (s.door f j).enter .opening s.msClock (s.par f) ∧
      (s.placeEntry f j .open_ c).noEntry f (s.groupOf f j) j := by
  obtain ⟨unit, free⟩ := placeEntry_granted hn hh hg
  obtain ⟨rest, hq⟩ := List.head?_eq_some_iff.1 hh
  refine ⟨(congrArg Prod.fst unit).trans ?_, free⟩
  have opened := grantOnce_open (s := s.mapGroup f (s.groupOf f j) (fun x => { x with
    queue := joinQueue ⟨j, .open_, c, s.msClock⟩ x.queue })) (f := f) (p := s.groupOf f j) (e := ⟨j, .open_, c, s.msClock⟩)
    (rest := rest) (by rw [mapGroup_group]; exact hq) (by rw [mapGroup_group]; exact hg) rfl
  have door : ∀ h : Group → Group, (s.mapGroup f (s.groupOf f j) h).door f j = s.door f j := fun h => by simp [State.door]
  rw [door, mapGroup_msClock, par_of (s := s) (by simp)] at opened
  exact opened

/-- UNLATCHED with unlatch_settle passed: the OPEN entry waits in the queue (R10, R31). -/
theorem openEntry_waits (hn : s.noEntry f (s.groupOf f j) j) {e : Entry}
    (he : e = ⟨j, .open_, (s.door f j).reqClass.getD .normal, s.msClock⟩)
    (hw : ¬((joinQueue e (s.group f (s.groupOf f j)).queue).head? = some e ∧ (s.group f (s.groupOf f j)).mayGrant = true)) :
    s.openEntry f j = (s.mapDoor f j (fun d => { d with timer := none })).mapGroup f (s.groupOf f j)
      (fun x => { x with queue := joinQueue e x.queue }) := by
  subst he
  have grp : (s.mapDoor f j (fun d => { d with timer := none })).groupOf f j = s.groupOf f j := groupOf_of (by simp) f j
  have same : ∀ q, (s.mapDoor f j (fun d => { d with timer := none })).group f q = s.group f q := fun q => by simp [State.group]
  have clock : (s.mapDoor f j (fun d => { d with timer := none })).msClock = s.msClock := by simp
  rw [State.openEntry, placeEntry_waits, grp, clock]
  · rw [grp]
    exact (noEntry_congr (by rw [same])).2 hn
  · rw [grp, same, clock]
    exact hw

/-- The OPEN entry is granted at once, and the door unit is OPENING (R31, R36). -/
theorem openEntry_granted (hn : s.noEntry f (s.groupOf f j) j) {e : Entry}
    (he : e = ⟨j, .open_, (s.door f j).reqClass.getD .normal, s.msClock⟩)
    (hh : (joinQueue e (s.group f (s.groupOf f j)).queue).head? = some e) (hg : (s.group f (s.groupOf f j)).mayGrant = true) :
    (s.openEntry f j).door f j = (s.door f j).enter .opening s.msClock (s.par f) ∧
      (s.openEntry f j).noEntry f (s.groupOf f j) j := by
  subst he
  have grp : (s.mapDoor f j (fun d => { d with timer := none })).groupOf f j = s.groupOf f j := groupOf_of (by simp) f j
  have same : ∀ q, (s.mapDoor f j (fun d => { d with timer := none })).group f q = s.group f q := fun q => by simp [State.group]
  have clock : (s.mapDoor f j (fun d => { d with timer := none })).msClock = s.msClock := by simp
  have par : (s.mapDoor f j (fun d => { d with timer := none })).par f = s.par f := par_of (by simp) f
  have granted := placeEntry_opens (s := s.mapDoor f j (fun d => { d with timer := none })) (f := f) (j := j)
    (c := (s.door f j).reqClass.getD .normal) (by rw [grp]; exact (noEntry_congr (by rw [same])).2 hn)
    (by rw [grp, same, clock]; exact hh) (by rw [grp, same]; exact hg)
  rw [grp, mapDoor_door, clock, par] at granted
  exact granted

end Sys2Proof.Machine
end

section
namespace Sys2Proof.Machine

/-! SUPPORT. Entry to a state: the deferral, the gap zone, CLOSING with its obstruction, and the CLOSE entry. -/

variable {s t : State} {f : Face} {j k : DoorIx} {p q : GroupIx}

/-! ### What no door unit changes is read from the berth side -/

theorem input_of_side (h : t.side f = s.side f) : t.input f k = s.input f k :=
  (congrArg (fun x : FaceState => x.inputs[k]) h :)

theorem map_of_side (h : t.side f = s.side f) : t.map f = s.map f := (congrArg (fun x : FaceState => x.align.map) h :)

theorem served_of_side (h : t.side f = s.side f) : t.served f k = s.served f k := by
  simp only [State.served, map_of_side h]

theorem mode_of_side (h : t.side f = s.side f) : (t.face f).mode = (s.face f).mode := (congrArg FaceState.mode h :)

theorem berth_of_side (h : t.side f = s.side f) : t.berth f = s.berth f := (congrArg FaceState.berth h :)

theorem engine_of_side (h : t.side f = s.side f) : (t.face f).engine = (s.face f).engine := (congrArg FaceState.engine h :)

/-! ### Entry to a state -/

theorem deferral_of_unit (h : t.unit f k = s.unit f k) : (t.sense f k).deferral = (s.sense f k).deferral :=
  congrArg (fun u => u.2.deferral) h

theorem enterTold_deferral (st : DoorState) (edit : DoorRec → DoorRec) : ((s.enterTold f j st edit).sense f j).deferral = none := by
  have h := congrArg (fun a => a.deferral j) (enterTold_doorSide s f j st edit)
  simpa [State.doorSide] using! h

theorem mapSense_zone {h : DoorSense → DoorSense} (e : ∀ d, (h d).zone = d.zone) :
    ((s.mapSense f j h).sense f k).zone = (s.sense f k).zone := by
  by_cases hk : k = j
  · subst hk; rw [mapSense_sense, e]
  · rw [mapSense_sense_other _ _ _ _ hk]

theorem senseTracker_zone (old : Option DoorState) (st : DoorState) :
    ((s.senseTracker f j old st).sense f k).zone = (s.sense f k).zone := by
  unfold State.senseTracker
  (repeat' split)
  · rfl
  · exact mapSense_zone fun _ => rfl
  · exact mapSense_zone fun _ => rfl

theorem occupyZone_zone : ((s.occupyZone f j).sense f j).zone = .occupied := by
  unfold State.occupyZone
  dsimp only
  rw [zone_of_unit (recomputeClp_unit ..), State.reportGap, zone_of_unit (report_unit ..), State.putZone, mapSense_sense]

/-- What CLOSING makes of a gap zone (R51). -/
theorem armZone_zone : ((s.armZone f j).sense f j).zone =
    if s.served f j = true ∧ (s.sense f j).zone = .idle then if (s.input f j).gap then .occupied else .watch
    else (s.sense f j).zone := by
  unfold State.armZone
  by_cases h : s.served f j = true ∧ (s.sense f j).zone = .idle
  · rw [if_pos h, if_pos (by simpa using h)]
    split
    · exact occupyZone_zone
    · rw [zone_of_unit (recomputeClp_unit ..), State.putZone, mapSense_sense]
  · rw [if_neg h, if_neg (by simpa using h)]

/-- The state in which the gap zone of a door unit that enters a state is moved. -/
theorem enterTold_eq (st : DoorState) (edit : DoorRec → DoorRec) : ∃ u : State,
    s.enterTold f j st edit = ((u.senseZone f j st).recomputeClp f (some j)).tell (.door f j st) ∧ u.side f = s.side f ∧
      (u.sense f j).zone = (s.sense f j).zone := by
  refine ⟨_, rfl, ?_, ?_⟩
  · rw [senseDeferral_side, senseTracker_side]
    split <;> simp
  · rw [State.senseDeferral, mapSense_zone (by intro; rfl), senseTracker_zone]
    have reported : ∀ x : State, ((x.reportDoor f j).sense f j).zone = (x.sense f j).zone := fun x => by
      simp [State.reportDoor, State.sense]
    split
    · rw [reported]; simp [State.sense]
    · simp [State.sense]

theorem enterTold_zone (st : DoorState) (edit : DoorRec → DoorRec) {u : State} (hu : s.enterTold f j st edit = u) {z : Zone}
    (h : ∀ v : State, v.side f = s.side f → (v.sense f j).zone = (s.sense f j).zone → ((v.senseZone f j st).sense f j).zone = z) :
    (u.sense f j).zone = z := by
  obtain ⟨v, hv, side, zone⟩ := enterTold_eq (s := s) (f := f) (j := j) st edit
  rw [← hu, hv, zone_of_unit (tell_unit ..), zone_of_unit (recomputeClp_unit ..)]
  exact h v side zone

theorem reversing_zone (edit : DoorRec → DoorRec) : ((s.enterTold f j .reversing edit).sense f j).zone = .idle :=
  enterTold_zone .reversing edit rfl fun v _ _ => by
    show ((v.disarmZone f j).sense f j).zone = .idle
    rw [disarmZone_zone, if_pos rfl]

theorem closing_zone (edit : DoorRec → DoorRec) : ((s.enterTold f j .closing edit).sense f j).zone =
    if s.served f j = true ∧ (s.sense f j).zone = .idle then if (s.input f j).gap then .occupied else .watch
    else (s.sense f j).zone :=
  enterTold_zone .closing edit rfl fun v side zone => by
    show ((v.armZone f j).sense f j).zone = _
    rw [armZone_zone, served_of_side side, zone, input_of_side side]

/-! ### CLOSING and its obstruction (R20, R50, R51) -/

/-- The record of a door unit in CLOSING that an obstruction reverses. -/
def DoorRec.obstructed (d : DoorRec) : DoorRec := { d with attempts := d.attempts + 1, reqClass := none }

theorem obstruct_closing (h : (s.door f j).state = some .closing) : s.obstruct f j =
    (s.enterTold f j .reversing DoorRec.obstructed).recordStart f (s.groupOf f j) := by
  unfold State.obstruct
  rw [if_pos h]
  rfl

theorem obstruct_door (h : (s.door f j).state = some .closing) : (s.obstruct f j).door f j =
    (s.door f j).obstructed.enter .reversing s.msClock (s.par f) := by
  rw [obstruct_closing h]
  exact (congrArg Prod.fst (recordStart_unit ..)).trans (enterTold_door ..)

theorem obstruct_zone (h : (s.door f j).state = some .closing) : ((s.obstruct f j).sense f j).zone = .idle := by
  rw [obstruct_closing h, zone_of_unit (recordStart_unit ..), reversing_zone]

theorem obstruct_deferral (h : (s.door f j).state = some .closing) : ((s.obstruct f j).sense f j).deferral = none := by
  rw [obstruct_closing h, deferral_of_unit (recordStart_unit ..), enterTold_deferral]

theorem obstruct_group (h : (s.door f j).state = some .closing) : (s.obstruct f j).group f q =
    if q = s.groupOf f j then (s.group f q).started s.msClock (s.par f).startWindow else s.group f q := by
  rw [obstruct_closing h, recordStart_group, enterTold_msClock, par_of (s := s) (by simp), enterTold_group, enterTold_group]
  split
  · next hq => rw [hq]
  · rfl

/-- A door unit enters CLOSING with no EDGE active. -/
theorem enterClosing_free (h : (s.input f j).edge = false) : s.enterClosing f j = s.enterTold f j .closing id := by
  unfold State.enterClosing
  have : ((s.enterTold f j .closing id).input f j).edge = false := by rw [input_of_side (enterTold_side ..)]; exact h
  simp only [this, Bool.false_eq_true, if_false]

theorem enterClosing_edge (h : (s.input f j).edge = true) :
    s.enterClosing f j = (s.enterTold f j .closing id).obstruct f j := by
  unfold State.enterClosing
  have : ((s.enterTold f j .closing id).input f j).edge = true := by rw [input_of_side (enterTold_side ..)]; exact h
  simp only [this, if_true]

theorem closing_state : ((s.enterTold f j .closing id).door f j).state = some .closing := by rw [enterTold_door]; rfl

theorem enterClosing_edge_door (h : (s.input f j).edge = true) : (s.enterClosing f j).door f j =
    { s.door f j with
      state := some .reversing, cause := none, attempts := (s.door f j).attempts + 1, reqClass := none
      entryTime := s.msClock, timer := some ⟨s.msClock, (s.par f).openTimeout⟩ } := by
  rw [enterClosing_edge h, obstruct_door closing_state, enterTold_door, enterTold_msClock, par_of (s := s) (by simp)]
  rfl

theorem enterClosing_free_door (h : (s.input f j).edge = false) : (s.enterClosing f j).door f j =
    { s.door f j with
      state := some .closing, cause := none, entryTime := s.msClock, timer := some ⟨s.msClock, (s.par f).closeTimeout⟩ } := by
  rw [enterClosing_free h, enterTold_door]
  rfl

theorem enterClosing_deferral : ((s.enterClosing f j).sense f j).deferral = none := by
  cases h : (s.input f j).edge
  · rw [enterClosing_free h, enterTold_deferral]
  · rw [enterClosing_edge h, obstruct_deferral closing_state]

/-! ### The CLOSE entry (R12, R31, R36) -/

/-- What the placing of a CLOSE entry finds: the deferral ended, and nothing else changed. -/
def State.undeferred (f : Face) (j : DoorIx) (s : State) : State := s.mapSense f j (fun d => { d with deferral := none })

theorem closeEntry_eq (s : State) (f : Face) (j : DoorIx) : s.closeEntry f j = (s.undeferred f j).placeEntry f j .close .normal := rfl

theorem undeferred_outside : (s.undeferred f j).outside f = s.outside f := mapSense_outside ..

theorem undeferred_side : (s.undeferred f j).side f = s.side f := mapSense_side ..

theorem undeferred_config : (s.undeferred f j).config = s.config := outside_eq_of State.config (fun _ => rfl) undeferred_outside

theorem undeferred_groupOf : (s.undeferred f j).groupOf f k = s.groupOf f k := groupOf_of undeferred_config f k

theorem undeferred_group : (s.undeferred f j).group f q = s.group f q := by simp [State.undeferred, State.group]

theorem undeferred_door : (s.undeferred f j).door f k = s.door f k := by simp [State.undeferred, State.door]

theorem undeferred_clock : (s.undeferred f j).msClock = s.msClock := outside_eq_of State.msClock (fun _ => rfl) undeferred_outside

theorem undeferred_unit (hk : k ≠ j) : (s.undeferred f j).unit f k = s.unit f k := mapSense_unit s f _ hk

/-- The CLOSE entry waits in the queue. -/
theorem closeEntry_waits (hn : s.noEntry f (s.groupOf f j) j)
    (hw : ¬((s.group f (s.groupOf f j)).queue = [] ∧ (s.group f (s.groupOf f j)).mayGrant = true)) :
    s.closeEntry f j = (s.undeferred f j).mapGroup f (s.groupOf f j)
      (fun x => { x with queue := x.queue ++ [⟨j, .close, .normal, s.msClock⟩] }) := by
  rw [closeEntry_eq, placeEntry_waits, undeferred_groupOf, undeferred_clock]
  · rfl
  · rw [undeferred_groupOf]; exact (noEntry_congr (by rw [undeferred_group])).2 hn
  · rw [undeferred_groupOf, undeferred_group, undeferred_clock, joinQueue_normal rfl]
    rintro ⟨hh, hg⟩
    refine hw ⟨?_, hg⟩
    cases hq : (s.group f (s.groupOf f j)).queue with
    | nil => rfl
    | cons y ys =>
      rw [hq] at hh
      have : y = ⟨j, .close, .normal, s.msClock⟩ := by simpa using hh
      exact absurd (congrArg Entry.door this) (hn y (by rw [hq]; exact List.mem_cons_self))

/-- The CLOSE entry is granted at once: the door unit enters CLOSING in a state that has its record and its inputs. -/
theorem closeEntry_granted (hq : (s.group f (s.groupOf f j)).queue = []) (hg : (s.group f (s.groupOf f j)).mayGrant = true) :
    ∃ w : State, s.closeEntry f j = w.enterClosing f j ∧ w.side f = s.side f ∧ w.outside f = s.outside f ∧
      w.door f j = s.door f j ∧ (w.group f (s.groupOf f j)).queue = [] ∧ ∀ k, k ≠ j → w.unit f k = s.unit f k := by
  let e : Entry := ⟨j, .close, .normal, s.msClock⟩
  let v := (s.undeferred f j).mapGroup f (s.groupOf f j) (fun x => { x with queue := joinQueue e x.queue })
  have queue : (v.group f (s.groupOf f j)).queue = [e] := by
    simp only [v, mapGroup_group, undeferred_group, hq]
    exact joinQueue_normal rfl []
  have may : (v.group f (s.groupOf f j)).mayGrant = true := by
    simp only [v, mapGroup_group, undeferred_group]
    exact hg
  have eval : s.closeEntry f j = v.evalIfHead f (s.groupOf f j) j := by
    rw [closeEntry_eq, State.placeEntry, undeferred_groupOf, undeferred_clock]
  have granted : v.evalIfHead f (s.groupOf f j) j = v.grantOnce f (s.groupOf f j) := by
    unfold State.evalIfHead
    rw [queue]
    exact (if_pos rfl).trans (evalGrants_last queue may)
  have unit : ∀ k, v.unit f k = (s.undeferred f j).unit f k := fun k => mapGroup_unit ..
  refine ⟨v.takeHead f (s.groupOf f j) [], ?_, ?_, ?_, ?_, ?_, fun k hk => ?_⟩
  · rw [eval, granted, grantOnce_head queue may]
  · exact (by simp [State.takeHead] : _ = v.side f).trans ((mapGroup_side ..).trans undeferred_side)
  · exact (takeHead_outside _).trans ((mapGroup_outside ..).trans undeferred_outside)
  · exact (takeHead_door _).trans ((congrArg Prod.fst (unit j)).trans undeferred_door)
  · rw [takeHead_queue, if_pos rfl]
  · exact (takeHead_unit _).trans ((unit k).trans (undeferred_unit hk))

/-- The CLOSE entry is placed: it waits behind the entries there, or is granted at once where there are none. -/
theorem closeEntry_placed (hn : s.noEntry f (s.groupOf f j) j) :
    s.closePlaced f j (s.door f j) (s.closeEntry f j) ∧ ∀ k, k ≠ j → (s.closeEntry f j).unit f k = s.unit f k := by
  by_cases grants : (s.group f (s.groupOf f j)).queue = [] ∧ (s.group f (s.groupOf f j)).mayGrant = true
  · obtain ⟨w, hw, side, outside, door, queue, unit⟩ := closeEntry_granted grants.1 grants.2
    have clock : w.msClock = s.msClock := outside_eq_of State.msClock (fun _ => rfl) outside
    have par : w.par f = s.par f := par_of (outside_eq_of State.config (fun _ => rfl) outside) f
    have input : w.input f j = s.input f j := input_of_side side
    have free : (w.enterClosing f j).noEntry f (s.groupOf f j) j := fun e he => by
      rw [enterClosing_group_queue, queue] at he
      cases he
    rw [hw]
    refine ⟨⟨enterClosing_deferral, fun h => absurd grants h, fun _ he => ⟨free, ?_⟩, fun _ he => ⟨free, ?_⟩⟩,
      fun k hk => (enterClosing_unit w f hk).trans (unit k hk)⟩
    · rw [enterClosing_free_door (by rw [input]; exact he), door, clock, par]
    · rw [enterClosing_edge_door (by rw [input]; exact he), door, clock, par]
  · rw [closeEntry_waits hn grants]
    have unit : ∀ k, ((s.undeferred f j).mapGroup f (s.groupOf f j) (fun x => { x with
        queue := x.queue ++ [⟨j, .close, .normal, s.msClock⟩] })).unit f k = (s.undeferred f j).unit f k := fun k => mapGroup_unit ..
    refine ⟨⟨?_, fun _ => ⟨?_, ?_⟩, fun h => absurd h grants, fun h => absurd h grants⟩, fun k hk =>
      (unit k).trans (undeferred_unit hk)⟩
    · rw [deferral_of_unit (unit j), State.undeferred, mapSense_sense]
    · exact (congrArg Prod.fst (unit j)).trans undeferred_door
    · rw [mapGroup_group, undeferred_group]

end Sys2Proof.Machine
end

section
namespace Sys2Proof.Machine

/-! SUPPORT. Entry to a state with all that follows at once, and what an event on a door unit of a calm face ends in. -/

variable {s t : State} {f : Face} {j k : DoorIx} {p q : GroupIx}

/-! ### Entry without an entry in the queue -/

theorem removeEntry_free (h : s.noEntry f (s.groupOf f j) j) : s.removeEntry f j = s := by
  have filtered : s.mapGroup f (s.groupOf f j) (fun x => { x with queue := x.queue.filter (fun e => e.door ≠ j) }) = s := by
    refine mapGroup_self ?_
    have keep : (s.group f (s.groupOf f j)).queue.filter (fun e => e.door ≠ j) = (s.group f (s.groupOf f j)).queue :=
      List.filter_eq_self.2 fun e he => by simpa using h e he
    rw [keep]
  unfold State.removeEntry
  dsimp only
  rw [filtered]
  split
  · next hh =>
    obtain ⟨e, he, hd⟩ := Option.map_eq_some_iff.1 hh
    exact absurd hd (h e (List.mem_of_mem_head? he))
  · rfl

theorem enterTold_groupOf (st : DoorState) (edit : DoorRec → DoorRec) : (s.enterTold f j st edit).groupOf f k = s.groupOf f k :=
  groupOf_of (enterTold_config ..) f k

theorem enterTold_noEntry (st : DoorState) (edit : DoorRec → DoorRec) :
    (s.enterTold f j st edit).noEntry f p k ↔ s.noEntry f p k := noEntry_congr (by rw [enterTold_group])

theorem enterTold_par (st : DoorState) (edit : DoorRec → DoorRec) : (s.enterTold f j st edit).par f = s.par f :=
  par_of (enterTold_config ..) f

theorem enterTold_input (st : DoorState) (edit : DoorRec → DoorRec) : (s.enterTold f j st edit).input f k = s.input f k :=
  input_of_side (enterTold_side ..)

/-- Without an entry the entry to a state is the state told, before what follows it. -/
theorem told_free (st : DoorState) (edit : DoorRec → DoorRec) (h : s.noEntry f (s.groupOf f j) j) :
    (s.enterTold f j st edit).removeEntry f j = s.enterTold f j st edit :=
  removeEntry_free (by rw [enterTold_groupOf]; exact (enterTold_noEntry ..).2 h)

theorem told_noEntry (st : DoorState) (edit : DoorRec → DoorRec) :
    ((s.enterTold f j st edit).removeEntry f j).noEntry f (s.groupOf f j) j := by
  have := removeEntry_noEntry (s.enterTold f j st edit) f j
  rwa [enterTold_groupOf] at this

theorem told_deferral (st : DoorState) (edit : DoorRec → DoorRec) :
    (((s.enterTold f j st edit).removeEntry f j).sense f j).deferral = none := by
  rw [deferral_of_unit (removeEntry_unit _ f j (.inl rfl)), enterTold_deferral]

/-- Nothing follows the entry to a state but to UNLATCHING and CLOSE_WAIT. -/
theorem enter_direct {st : DoorState} (hu : st ≠ .unlatching) (hc : st ≠ .closeWait) (edit : DoorRec → DoorRec) :
    s.enter f j st edit = (s.enterTold f j st edit).removeEntry f j := by
  cases st <;> first | rfl | exact absurd rfl hu | exact absurd rfl hc

theorem enter_locked_in (h : (s.input f j).lockEngaged = true) (edit : DoorRec → DoorRec) :
    s.enter f j .unlatching edit = (s.enterTold f j .unlatching edit).removeEntry f j := by
  rw [State.enter, if_pos h]

theorem enter_withdrawn (h : (s.input f j).lockEngaged = false) (edit : DoorRec → DoorRec) :
    s.enter f j .unlatching edit = ((s.enterTold f j .unlatching edit).removeEntry f j).enterUnlatched f j := by
  rw [State.enter, if_neg (by simp [h])]

theorem enter_waits (edit : DoorRec → DoorRec) :
    s.enter f j .closeWait edit = ((s.enterTold f j .closeWait edit).removeEntry f j).decideDeferral f j := rfl

/-! ### UNLATCHED (R8, R10) -/

theorem enterUnlatched_settles (h : (s.par f).unlatchSettle ≠ 0) : s.enterUnlatched f j = s.enterTold f j .unlatched id := by
  unfold State.enterUnlatched
  rw [if_neg h]

theorem enterUnlatched_expires (h : (s.par f).unlatchSettle = 0) :
    s.enterUnlatched f j = (s.enterTold f j .unlatched id).openEntry f j := by
  unfold State.enterUnlatched
  rw [if_pos h]

/-- An unlatch_settle of 0 places the OPEN entry at once, and it waits. -/
theorem enterUnlatched_waits {e : Entry} (he : e = ⟨j, .open_, (s.door f j).reqClass.getD .normal, s.msClock⟩)
    (h : (s.par f).unlatchSettle = 0) (hn : s.noEntry f (s.groupOf f j) j)
    (hw : ¬((joinQueue e (s.group f (s.groupOf f j)).queue).head? = some e ∧ (s.group f (s.groupOf f j)).mayGrant = true)) :
    (s.enterUnlatched f j).door f j = { (s.door f j).enter .unlatched s.msClock (s.par f) with timer := none } ∧
    (s.enterUnlatched f j).group f (s.groupOf f j) =
      { s.group f (s.groupOf f j) with queue := joinQueue e (s.group f (s.groupOf f j)).queue } := by
  have placed := openEntry_waits (s := s.enterTold f j .unlatched id) (f := f) (j := j) (e := e)
    (by rw [enterTold_groupOf]; exact (enterTold_noEntry ..).2 hn) (by rw [enterTold_door, enterTold_msClock]; exact he)
    (by rw [enterTold_groupOf, enterTold_group]; exact hw)
  rw [enterUnlatched_expires h, placed, enterTold_groupOf]
  constructor
  · rw [show ∀ (x : State) (p : GroupIx) (h : Group → Group), (x.mapGroup f p h).door f j = x.door f j from
      fun x p h => congrArg Prod.fst (mapGroup_unit x f p h), mapDoor_door, enterTold_door, id]
  · rw [mapGroup_group]
    simp [State.group]

/-- An unlatch_settle of 0 places the OPEN entry at once, and it is granted. -/
theorem enterUnlatched_granted {e : Entry} (he : e = ⟨j, .open_, (s.door f j).reqClass.getD .normal, s.msClock⟩)
    (h : (s.par f).unlatchSettle = 0) (hn : s.noEntry f (s.groupOf f j) j)
    (hh : (joinQueue e (s.group f (s.groupOf f j)).queue).head? = some e) (hg : (s.group f (s.groupOf f j)).mayGrant = true) :
    (s.enterUnlatched f j).door f j = ((s.door f j).enter .unlatched s.msClock (s.par f)).enter .opening s.msClock (s.par f) ∧
    (s.enterUnlatched f j).noEntry f (s.groupOf f j) j := by
  have placed := openEntry_granted (s := s.enterTold f j .unlatched id) (f := f) (j := j) (e := e)
    (by rw [enterTold_groupOf]; exact (enterTold_noEntry ..).2 hn) (by rw [enterTold_door, enterTold_msClock]; exact he)
    (by rw [enterTold_groupOf, enterTold_group]; exact hh) (by rw [enterTold_groupOf, enterTold_group]; exact hg)
  rw [enterTold_door, enterTold_msClock, enterTold_par, enterTold_groupOf] at placed
  rw [enterUnlatched_expires h]
  exact placed

/-! ### The start toward open (R9, R17) -/

theorem enter_startsOpening (c : ReqClass) (hn : s.noEntry f (s.groupOf f j) j) :
    s.startsOpening f j c (s.enter f j .unlatching (DoorRec.startOpen c)) := by
  have told := told_free .unlatching (DoorRec.startOpen c) hn
  have free : (s.enterTold f j .unlatching (DoorRec.startOpen c)).noEntry f
      ((s.enterTold f j .unlatching (DoorRec.startOpen c)).groupOf f j) j := by
    rw [enterTold_groupOf]; exact (enterTold_noEntry ..).2 hn
  refine ⟨fun hl => ?_, fun hl => ⟨fun hs => ?_, fun hs hw => ?_, fun hs hh hg => ?_⟩⟩
  · rw [enter_locked_in hl, told, enterTold_group]
    exact ⟨enterTold_door .., rfl⟩
  · rw [enter_withdrawn hl, told, enterUnlatched_settles (by rw [enterTold_par]; exact hs), enterTold_group, enterTold_group]
    refine ⟨?_, rfl⟩
    rw [enterTold_door, enterTold_door, enterTold_msClock, enterTold_par]
    rfl
  · rw [enter_withdrawn hl, told]
    have placed := enterUnlatched_waits (s := s.enterTold f j .unlatching (DoorRec.startOpen c)) (f := f) (j := j)
      (e := ⟨j, .open_, c, s.msClock⟩) (by rw [enterTold_door, enterTold_msClock]; rfl) (by rw [enterTold_par]; exact hs) free
      (by rw [enterTold_groupOf, enterTold_group]; exact hw)
    rw [enterTold_door, enterTold_msClock, enterTold_par, enterTold_groupOf, enterTold_group] at placed
    exact placed
  · rw [enter_withdrawn hl, told]
    have placed := enterUnlatched_granted (s := s.enterTold f j .unlatching (DoorRec.startOpen c)) (f := f) (j := j)
      (e := ⟨j, .open_, c, s.msClock⟩) (by rw [enterTold_door, enterTold_msClock]; rfl) (by rw [enterTold_par]; exact hs) free
      (by rw [enterTold_groupOf, enterTold_group]; exact hh) (by rw [enterTold_groupOf, enterTold_group]; exact hg)
    rw [enterTold_door, enterTold_msClock, enterTold_par, enterTold_groupOf] at placed
    exact placed

/-! ### CLOSE_WAIT (R12, R48) -/

/-- A placing of the CLOSE entry from a state with the group, the edge and the settings of another is one from that. -/
theorem closePlaced_of {u : State} {w : DoorRec} (hc : u.config = s.config) (hi : (u.input f j).edge = (s.input f j).edge)
    (hk : u.msClock = s.msClock)
    (hg : ∀ q, u.group f q = s.group f q) (h : u.closePlaced f j w t) : s.closePlaced f j w t := by
  simpa only [State.closePlaced, groupOf_of hc, par_of hc, hi, hg, hk] using h

theorem enter_entersCloseWait (edit : DoorRec → DoorRec) (hn : s.noEntry f (s.groupOf f j) j) :
    s.entersCloseWait f j (edit (s.door f j)).attempts (s.enter f j .closeWait edit) := by
  have told := told_free .closeWait edit hn
  have door : (s.enterTold f j .closeWait edit).door f j =
      ⟨some .closeWait, none, (edit (s.door f j)).attempts, false, none, s.msClock, none⟩ := enterTold_door ..
  have free : (s.enterTold f j .closeWait edit).noEntry f ((s.enterTold f j .closeWait edit).groupOf f j) j := by
    rw [enterTold_groupOf]; exact (enterTold_noEntry ..).2 hn
  rw [enter_waits, told]
  unfold State.decideDeferral
  simp only [enterTold_input, enterTold_par]
  refine ⟨fun hd => ?_, fun hd => ?_⟩
  · have occupied : ((s.par f).doorwayDeferLimit = 0 || (!(s.input f j).dwa && !(s.input f j).dwb)) = false := by
      obtain ⟨hl, hb⟩ := hd
      rcases hb with hb | hb <;> simp [hl, hb]
    rw [occupied]
    refine ⟨?_, ?_, ?_⟩
    · simpa [State.door] using door
    · simp [State.startTimer]
    · simp [State.group]
  · have clear : ((s.par f).doorwayDeferLimit = 0 || (!(s.input f j).dwa && !(s.input f j).dwb)) = true := by
      by_contra hc
      refine hd ?_
      simpa [imp_iff_not_or, or_comm, and_comm] using hc
    rw [clear]
    have placed := (closeEntry_placed (s := s.enterTold f j .closeWait edit) (f := f) (j := j) free).1
    rw [door] at placed
    exact closePlaced_of (enterTold_config ..) (congrArg DoorInputs.edge (enterTold_input ..)) (enterTold_msClock ..)
      (fun q => enterTold_group ..) placed

/-! ### Events on a door unit of a calm face -/

theorem enter_onlyDoor (st : DoorState) (edit : DoorRec → DoorRec) : OnlyDoor f j s (s.enter f j st edit) :=
  ⟨enter_outside .., enter_side .., fun _ hk h => enter_unit _ _ hk h⟩

/-- What a face holds in two states, read by the statements. -/
theorem OnlyDoor.of_face {v u : State} (h : OnlyDoor f j v u) (hf : t.face f = u.face f) (ho : t.outside f = v.outside f) :
    OnlyDoor f j v t := by
  obtain ⟨-, side, unit⟩ := h
  exact ⟨ho, (side_of_face hf).trans side, fun k hk hn => (unit_of_face hf k).trans (unit k hk hn)⟩

/-- An event on a calm face that leaves all but one door unit alone ends with it: nothing else follows. -/
theorem event_onlyDoor {v : State} {op : State → State} (hs : s.calm f = true) (hv : v.notices = [])
    (he : (v.face f).engine = (s.face f).engine) (h : OnlyDoor f j v (op s)) :
    ∃ t, s.event op = .next t ∧ t.face f = (op s).face f ∧ OnlyDoor f j v t := by
  obtain ⟨powered, -, rests⟩ := calm_iff.1 hs
  have side : (op s).side f = v.side f := h.2.1
  obtain ⟨t, ht, hf, ho⟩ := event_calm (op := op) powered hv h.1 (by rw [engine_of_side side, he]; exact rests)
  exact ⟨t, ht, hf, h.of_face hf ho⟩

theorem door_of_face (h : t.face f = s.face f) : t.door f k = s.door f k := by simp only [State.door, h]

theorem sense_of_face (h : t.face f = s.face f) : t.sense f k = s.sense f k := by simp only [State.sense, h]

theorem noEntry_of_face (h : t.face f = s.face f) : t.noEntry f p k ↔ s.noEntry f p k := noEntry_congr (by rw [group_of_face h])

/-- An event that tells no engine anything ends as its operation does. -/
theorem event_quiet {op : State → State} (hw : s.powered = true) (hn : (op s).notices = []) : s.event op = .next (op s) := by
  simp [State.event, hw, drain_of_no_notices hn]

/-- A timer that is due acts now. -/
theorem expiry_due {m : Timer} {o : Option Timer} (op : State → State) (ho : o = some m) (hd : m.due s.msClock = true) :
    s.expiry o op = op s := by
  subst ho
  show op (s.reach m) = op s
  rw [State.reach, if_pos hd]

end Sys2Proof.Machine
end

section
namespace Sys2Proof.Machine

/-! SUPPORT. Expiries and input changes of one door unit, as events with one operation. -/

variable {s t u : State} {f : Face} {j k : DoorIx} {p q : GroupIx}

/-- An event is what its operation makes of the one state. -/
theorem event_congr {op op' : State → State} (h : op s = op' s) : s.event op = s.event op' := by
  simp only [State.event, h]

theorem exec_unlatchSettle {m : Timer} (hd : (s.door f j).state = some .unlatched) (hm : (s.door f j).timer = some m)
    (due : m.due s.msClock = true) : exec (.unlatchSettleExpiry f j) s = s.event (State.openEntry f j) :=
  event_congr (op' := State.openEntry f j) ((if_pos hd).trans (expiry_due _ hm due))

theorem exec_doorTimeout {m : Timer} {st : DoorState} {c : FaultCause} (hd : (s.door f j).state = some st)
    (hc : st.timeoutCause = some c) (hm : (s.door f j).timer = some m) (due : m.due s.msClock = true) :
    exec (.doorTimeoutExpiry f j) s = s.event (State.enterFault f j c) :=
  event_congr (op := State.timedOut f j) (by
    simp only [State.timedOut, hd, Option.bind_some, hc, expiry_due _ hm due])

theorem exec_recloseDelay {m : Timer} (hd : (s.door f j).state = some .recloseHold) (hm : (s.door f j).timer = some m)
    (due : m.due s.msClock = true) : exec (.recloseDelayExpiry f j) s = s.event (State.enter f j .closeWait id) :=
  event_congr (op' := State.enter f j .closeWait id) ((if_pos hd).trans (expiry_due _ hm due))

theorem exec_deferralTimer {m : Timer} (hm : (s.sense f j).deferral = some m) (due : m.due s.msClock = true) :
    exec (.deferralTimerExpiry f j) s = s.event (State.closeEntry f j) :=
  event_congr (op' := State.closeEntry f j) (expiry_due _ hm due)

/-- What a fitted door unit makes of a change of its sensing inputs. -/
def State.senseTaken (f : Face) (j : DoorIx) (v : SenseSignals) (s : State) : State :=
  (s.mapInput f j (withSense v)).takeSense f j (s.input f j) (withSense v (s.input f j))

/-- What a fitted door unit makes of a change of leaf, lock and handle. -/
def State.leafTaken (f : Face) (j : DoorIx) (v : LeafSignals) (s : State) : State :=
  (s.mapInput f j (withLeaf v)).takeInputs f j (s.input f j) (withLeaf v (s.input f j))

theorem exec_senseChange {v : SenseSignals} (scanned : s.scanDone = true) (fitted : s.isFitted f j = true) :
    exec (.sensingInputChange f j v) s = s.event (State.senseTaken f j v) :=
  event_congr (op' := State.senseTaken f j v) ((if_pos scanned).trans (if_pos fitted))

theorem exec_doorChange {v : LeafSignals} (scanned : s.scanDone = true) (fitted : s.isFitted f j = true) :
    exec (.doorInputChange f j v) s = s.event (State.leafTaken f j v) :=
  event_congr (op' := State.leafTaken f j v) ((if_pos scanned).trans (if_pos fitted))

theorem mapGroup_congr {h h' : Group → Group} (e : h (s.group f p) = h' (s.group f p)) :
    s.mapGroup f p h = s.mapGroup f p h' := by
  cases f <;> simp only [State.group, State.face, Fin.getElem_fin] at e <;>
    simp only [State.mapGroup, State.mapFace, Fin.getElem_fin, e]

/-! ### The outcomes of a start and of a closing are read from the face -/

theorem closePlaced_of_face {w : DoorRec} (hf : t.face f = u.face f) (h : s.closePlaced f j w u) : s.closePlaced f j w t := by
  simpa only [State.closePlaced, State.noEntry, door_of_face hf, sense_of_face hf, group_of_face hf] using h

theorem entersCloseWait_of_face {n : Nat} (hf : t.face f = u.face f) (h : s.entersCloseWait f j n u) :
    s.entersCloseWait f j n t := by
  simpa only [State.entersCloseWait, State.closePlaced, State.noEntry, door_of_face hf, sense_of_face hf, group_of_face hf]
    using h

theorem startsOpening_of_face {c : ReqClass} (hf : t.face f = u.face f) (h : s.startsOpening f j c u) :
    s.startsOpening f j c t := by
  simpa only [State.startsOpening, State.noEntry, door_of_face hf, group_of_face hf] using h

/-- An event that is the entry of a door unit to a state that nothing follows. -/
theorem event_enters {v : State} {op : State → State} {st : DoorState} {edit : DoorRec → DoorRec} (hs : s.calm f = true)
    (hv : v.notices = []) (he : (v.face f).engine = (s.face f).engine) (hop : op s = v.enter f j st edit)
    (hu : st ≠ .unlatching) (hc : st ≠ .closeWait) :
    ∃ t, s.event op = .next t ∧ t.door f j = (edit (v.door f j)).enter st v.msClock (v.par f)
      ∧ t.noEntry f (v.groupOf f j) j ∧ OnlyDoor f j v t := by
  obtain ⟨t, ht, hf, only⟩ := event_onlyDoor (op := op) hs hv he (by rw [hop]; exact enter_onlyDoor st edit)
  rw [hop, enter_direct hu hc] at hf
  exact ⟨t, ht, (door_of_face hf).trans (enterTold_removeEntry_door ..), (noEntry_of_face hf).2 (told_noEntry st edit), only⟩

end Sys2Proof.Machine
end

section
open Sys2Proof.Machine

/-- Settles O15: the OPEN entry joins the queue and is granted or waits, and a timeout enters FAULT. -/
theorem doorTimersExpire : Obligations.DoorTimersExpire := by
  constructor
  · intro f j s m hs hd hm due hn
    obtain ⟨powered, notices, -⟩ := calm_iff.1 hs
    rw [exec_unlatchSettle hd hm due]
    refine ⟨fun ⟨hh, hg⟩ => ?_, fun hw => ?_⟩
    · obtain ⟨door, free⟩ := openEntry_granted hn rfl hh hg
      obtain ⟨t, ht, hf, only⟩ := event_onlyDoor (op := State.openEntry f j) (v := s) hs notices rfl
        ⟨openEntry_outside .., openEntry_side .., fun _ hk h => openEntry_unit hk h⟩
      exact ⟨t, ht, (door_of_face hf).trans door, (noEntry_of_face hf).2 free, only⟩
    · have waits := openEntry_waits hn rfl hw
      rw [event_quiet powered (by rw [waits]; simpa using notices), waits]
      exact congrArg _ (mapGroup_congr (by simp [State.group]))
  · intro f j s m st c hs hd hm due hc
    obtain ⟨-, notices, -⟩ := calm_iff.1 hs
    have cause : st.timeoutCause = some c := by
      rcases hc with ⟨rfl, rfl⟩ | ⟨rfl | rfl, rfl⟩ | ⟨rfl, rfl⟩ | ⟨rfl, rfl⟩ <;> rfl
    rw [exec_doorTimeout hd cause hm due]
    exact event_enters hs notices rfl rfl (by decide) (by decide)

end

section
namespace Sys2Proof.Machine

/-! SUPPORT. What a change of the doorway beams leaves of the face. -/

variable {s t u : State} {f : Face} {j k : DoorIx} {p q : GroupIx}

theorem put_put {α : Type} {n : Nat} (v : Vector α n) (i : Fin n) (x y : α) : put (put v i x) i y = put v i y := by
  simp [put]

/-- A face less what the watch of the doorways changes of it: the sensing state of one door unit, the counts and the quiet
condition (R43 to R46). -/
def FaceState.unwatched (j : DoorIx) (x : FaceState) : FaceState :=
  { x with sense := put x.sense j DoorSense.blank, boarding := 0, alighting := 0, quiet := false, quietTimer := none }

theorem mapSense_unwatched (h : DoorSense → DoorSense) : ((s.mapSense f j h).face f).unwatched j = (s.face f).unwatched j := by
  simp [State.mapSense, FaceState.unwatched, put_put]

theorem countBoarding_unwatched : ((s.countBoarding f j).face f).unwatched j = (s.face f).unwatched j := by
  unfold State.countBoarding
  split
  · rw [mapFace_face]; exact mapSense_unwatched _
  · rfl

theorem countAlighting_unwatched : ((s.countAlighting f j).face f).unwatched j = (s.face f).unwatched j := by
  unfold State.countAlighting
  split
  · rw [mapFace_face]; exact mapSense_unwatched _
  · rfl

theorem moveTracker_unwatched : ((s.moveTracker f j).face f).unwatched j = (s.face f).unwatched j := by
  unfold State.moveTracker
  dsimp only
  split
  · split
    · exact mapSense_unwatched _
    · split
      · exact countBoarding_unwatched.trans (mapSense_unwatched _)
      · exact countAlighting_unwatched.trans (mapSense_unwatched _)
      · exact mapSense_unwatched _
  · rfl

theorem restartQuiet_unwatched : ((s.restartQuiet f).face f).unwatched j = (s.face f).unwatched j := by
  rw [State.restartQuiet, setQuiet_face, mapFace_face]
  rfl

theorem sensed_unwatched {old new : DoorInputs} (gap : old.gap = new.gap) :
    ((s.sensed f j old new).face f).unwatched j = (s.face f).unwatched j := by
  unfold State.sensed
  dsimp only
  rw [if_neg (fun h => h gap)]
  have moved : ((if (old.dwa ≠ new.dwa || old.dwb ≠ new.dwb) = true then s.moveTracker f j else s).face f).unwatched j =
      (s.face f).unwatched j := by
    split
    · exact moveTracker_unwatched
    · rfl
  have restarted : ∀ x : State, ((if (((old.dwa ≠ new.dwa : Bool) || (old.dwb ≠ new.dwb : Bool)) && x.served f j) = true then
      x.restartQuiet f else x).face f).unwatched j = (x.face f).unwatched j := fun x => by
    split
    · exact restartQuiet_unwatched
    · rfl
  exact (restarted _).trans moved

/-- What the watch of the doorways leaves: every other door unit, the records, the groups, and the parts of the face that
no sensing input moves. -/
theorem parts_of_unwatched {x y : FaceState} (h : y.unwatched j = x.unwatched j) :
    y.doors = x.doors ∧ y.groups = x.groups ∧ y.inputs = x.inputs ∧ y.berth = x.berth ∧ y.mode = x.mode ∧ y.align = x.align ∧
      y.engine = x.engine ∧ ∀ k, k ≠ j → y.sense[k] = x.sense[k] := by
  refine ⟨(congrArg FaceState.doors h :), (congrArg FaceState.groups h :), (congrArg FaceState.inputs h :),
    (congrArg FaceState.berth h :), (congrArg FaceState.mode h :), (congrArg FaceState.align h :),
    (congrArg FaceState.engine h :), fun k hk => ?_⟩
  have := congrArg (fun z : FaceState => z.sense[k]) h
  simpa [FaceState.unwatched, put_get_other _ _ hk] using this

@[simp] theorem sensed_outside (old new : DoorInputs) : (s.sensed f j old new).outside f = s.outside f := by
  simp only [State.sensed, apply_ite (State.outside f), gapChanged_outside, restartQuiet_outside, moveTracker_outside, ite_self]

/-- A change of the doorway beams alone, taken by the Passenger Sensing Unit. -/
theorem sensed_beams {v : SenseSignals} (hg : v.gap = (s.input f j).gap) :
    let w := (s.mapInput f j (withSense v)).sensed f j (s.input f j) (withSense v (s.input f j))
    w.outside f = s.outside f ∧ (w.face f).doors = (s.face f).doors ∧ (w.face f).groups = (s.face f).groups ∧
      w.input f j = withSense v (s.input f j) ∧ w.berth f = s.berth f ∧ (w.face f).mode = (s.face f).mode ∧
      (w.face f).align = (s.face f).align ∧ (w.face f).engine = (s.face f).engine ∧
      (w.sense f j).deferral = (s.sense f j).deferral ∧ ∀ k, k ≠ j → w.unit f k = s.unit f k := by
  obtain ⟨doors, groups, inputs, berth, mode, align, engine, sense⟩ := parts_of_unwatched
    (sensed_unwatched (s := s.mapInput f j (withSense v)) (f := f) (j := j) (old := s.input f j)
      (new := withSense v (s.input f j)) hg.symm)
  refine ⟨by simp, by simpa using doors, by simpa using groups, ?_, by simpa [State.berth] using berth, by simpa using mode,
    by simpa using align, by simpa using engine, ?_, fun k hk => ?_⟩
  · exact (congrArg (fun i : Vector DoorInputs 32 => i[j]) inputs).trans (mapInput_input ..)
  · have := congrArg (fun a => a.deferral j) (sensed_doorSide (s := s.mapInput f j (withSense v)) (f := f) (j := j)
      (s.input f j) (withSense v (s.input f j)))
    simpa [State.doorSide, State.sense] using! this
  · have hs := sense k hk
    simp only [mapInput_face_sense, mapInput_face_doors] at hs doors
    simp only [State.unit, State.door, State.sense, doors, hs]

end Sys2Proof.Machine
end

section
open Sys2Proof.Machine

/-- Settles O16: CLOSE_WAIT is entered with its deferral or its CLOSE entry, and the end of the deferral places the entry. -/
theorem closeWaitIsEnteredAndLeft : Obligations.CloseWaitIsEnteredAndLeft := by
  refine ⟨?_, ?_, ?_⟩
  · intro f j s m hs hd hm due hn
    obtain ⟨-, notices, -⟩ := calm_iff.1 hs
    obtain ⟨t, ht, hf, only⟩ := event_onlyDoor (op := State.enter f j .closeWait id) hs notices rfl (enter_onlyDoor ..)
    exact ⟨t, (exec_recloseDelay hd hm due).trans ht, entersCloseWait_of_face hf (enter_entersCloseWait id hn), only⟩
  · intro f j s m hs hd hm due hn
    obtain ⟨-, notices, -⟩ := calm_iff.1 hs
    obtain ⟨placed, others⟩ := closeEntry_placed hn
    obtain ⟨t, ht, hf, only⟩ := event_onlyDoor (op := State.closeEntry f j) hs notices rfl
      ⟨closeEntry_outside .., closeEntry_side .., fun k hk _ => others k hk⟩
    exact ⟨t, (exec_deferralTimer hm due).trans ht, closePlaced_of_face hf placed, only⟩
  · intro f j s m v hs scanned fitted hd hm hn hg he
    obtain ⟨powered, notices, rests⟩ := calm_iff.1 hs
    rw [exec_senseChange scanned fitted]
    obtain ⟨outside, doors, groups, input, berth, mode, align, engine, deferral, others⟩ := sensed_beams hg
    have quiet : (!(s.input f j).edge && (withSense v (s.input f j)).edge) = false := by
      simp [withSense, he]
    have runs : ((s.mapInput f j (withSense v)).sense f j).deferral = some m := by simpa [State.sense] using hm
    set w := (s.mapInput f j (withSense v)).sensed f j (s.input f j) (withSense v (s.input f j))
    have group : ∀ q, w.group f q = s.group f q := fun q => by simp only [State.group, groups]
    have door : w.door f j = s.door f j := by simp only [State.door, doors]
    have config : w.config = s.config := outside_eq_of State.config (fun _ => rfl) outside
    have clock : w.msClock = s.msClock := outside_eq_of State.msClock (fun _ => rfl) outside
    have grp : w.groupOf f j = s.groupOf f j := groupOf_of config f j
    refine ⟨fun ha hb => ?_, fun hab => ?_⟩
    · have ends : s.senseTaken f j v = w.closeEntry f j := by
        rw [State.senseTaken, takeSense_eq, quiet, State.deferralEnds, runs]
        simp [withSense, ha, hb, w]
      obtain ⟨placed, rest⟩ := closeEntry_placed (s := w) (f := f) (j := j)
        (by rw [grp]; exact (noEntry_congr (by rw [group])).2 hn)
      have side := closeEntry_side (s := w) (f := f) (j := j) f
      obtain ⟨t, ht, hf, ho⟩ := event_calm (s := s) (v := s) (f := f) (op := State.senseTaken f j v) powered notices
        (by simp only [ends, closeEntry_outside, outside])
        (by simp only [ends]; rw [engine_of_side side, engine]; exact rests)
      simp only [ends] at hf
      have sideT := (side_of_face hf).trans side
      refine ⟨t, ht, closePlaced_of_face hf (closePlaced_of config (by rw [input]; exact he) clock group (door ▸ placed)), ho,
        (berth_of_side sideT).trans berth, (mode_of_side sideT).trans mode,
        (congrArg FaceState.align sideT :).trans align, (engine_of_side sideT).trans engine,
        fun k hk => (unit_of_face hf k).trans ((rest k hk).trans (others k hk))⟩
    · have stays : s.senseTaken f j v = w := by
        rw [State.senseTaken, takeSense_eq, quiet, State.deferralEnds, runs]
        rcases hab with ha | hb
        · simp [withSense, ha, w]
        · simp [withSense, hb, w]
      obtain ⟨t, ht, hf, ho⟩ := event_calm (s := s) (v := s) (f := f) (op := State.senseTaken f j v) powered notices
        (by simp only [stays, outside])
        (by simp only [stays, engine]; exact rests)
      simp only [stays] at hf
      exact ⟨t, ht, by rw [sense_of_face hf, deferral, hm], by rw [hf, doors], by rw [hf, groups], ho⟩

/-- Settles O13: the door unit reverses, with its start in the history and its zone idle. -/
theorem obstructionReversesTheDoor : Obligations.ObstructionReversesTheDoor := by
  intro f j v s hs scanned fitted hd free low high hdwa hdwb hgap
  obtain ⟨powered, notices, -⟩ := calm_iff.1 hs
  dsimp only
  rw [exec_senseChange scanned fitted]
  have reverses : s.senseTaken f j v =
      (s.mapInput f j (withSense v)).obstruct f j := by
    have runs : ((s.mapInput f j (withSense v)).sense f j).deferral = none := by simpa [State.sense] using free
    have still : (s.mapInput f j (withSense v)).sensed f j (s.input f j) (withSense v (s.input f j)) =
        s.mapInput f j (withSense v) := by simp [State.sensed, withSense, hdwa, hdwb, hgap]
    rw [State.senseTaken, takeSense_eq, still, State.deferralEnds, runs]
    simp [withSense, low, high]
  have closing : ((s.mapInput f j (withSense v)).door f j).state = some .closing := by simpa [State.door] using hd
  have unit : ∀ k, k ≠ j → ((s.mapInput f j (withSense v)).obstruct f j).unit f k = s.unit f k := fun k hk =>
    (obstruct_unit _ _ hk).trans (by simp [State.unit, State.door, State.sense])
  obtain ⟨t, ht, hf, only⟩ := event_onlyDoor (s := s) (v := s.mapInput f j (withSense v)) (f := f) (j := j)
    (op := State.senseTaken f j v) hs
    (by simpa using notices) (by simp) (by simp only [reverses]; exact ⟨obstruct_outside .., obstruct_side .., fun k hk _ =>
      obstruct_unit _ _ hk⟩)
  obtain ⟨outside, side, -⟩ := only
  simp only [reverses] at hf
  refine ⟨t, ht, ?_, ?_, fun g => ?_, outside.trans (mapInput_outside ..), side, fun k hk => (unit_of_face hf k).trans (unit k hk)⟩
  · rw [door_of_face hf, obstruct_door closing]
    have door : (s.mapInput f j (withSense v)).door f j = s.door f j := by simp [State.door]
    rw [door, mapInput_msClock, par_of (s := s) (by simp)]
    rfl
  · rw [sense_of_face hf, obstruct_zone closing]
  · have group : ∀ q, (s.mapInput f j (withSense v)).group f q = s.group f q := fun q => by simp [State.group]
    rw [group_of_face hf, obstruct_group closing, group, groupOf_of (s := s) (by simp), mapInput_msClock,
      par_of (s := s) (by simp)]
    split
    · next h => rw [h]; rfl
    · rfl

end

section
namespace Sys2Proof.Machine

/-! SUPPORT. The one grant that an evaluation makes while the spacing hold is not 0 (R35, R36). -/

variable {s t u : State} {f : Face} {j k : DoorIx} {p q : GroupIx}

theorem enterClosing_free_group (h : (s.input f j).edge = false) : (s.enterClosing f j).group f q = s.group f q := by
  rw [enterClosing_free h, enterTold_group]

theorem enterClosing_edge_group (h : (s.input f j).edge = true) : (s.enterClosing f j).group f q =
    if q = s.groupOf f j then (s.group f q).started s.msClock (s.par f).startWindow else s.group f q := by
  rw [enterClosing_edge h, obstruct_group closing_state, enterTold_groupOf, enterTold_group, enterTold_msClock, enterTold_par]

theorem enterClosing_spacing : ((s.enterClosing f j).group f q).spacing = (s.group f q).spacing := by
  cases h : (s.input f j).edge
  · rw [enterClosing_free_group h]
  · rw [enterClosing_edge_group h]
    split <;> rfl

theorem takeHead_spacing (rest : List Entry) : ((s.takeHead f p rest).group f p).spacing = s.spacingStart f := by
  rw [takeHead_group, if_pos rfl]

/-- A grant starts the spacing hold. -/
theorem grantOnce_spacing {e : Entry} {rest : List Entry} (hq : (s.group f p).queue = e :: rest)
    (hg : (s.group f p).mayGrant = true) : ((s.grantOnce f p).group f p).spacing = s.spacingStart f := by
  rw [grantOnce_head hq hg]
  split
  · rw [enterTold_group, takeHead_spacing]
  · rw [enterClosing_spacing, takeHead_spacing]

/-- With a spacing hold that is not 0 an evaluation grants once. -/
theorem evalGrants_once {e : Entry} {rest : List Entry} (hq : (s.group f p).queue = e :: rest)
    (hg : (s.group f p).mayGrant = true) (hs : (s.par f).startSpacing ≠ 0) : s.evalGrants f p = s.grantOnce f p := by
  have holds : ((s.grantOnce f p).group f p).mayGrant = false := by
    rw [Group.mayGrant, grantOnce_spacing hq hg, State.spacingStart, if_neg hs]
    rfl
  simp only [State.evalGrants, grantOnce_waits (.inr holds)]

theorem takeHead_side (rest : List Entry) : (s.takeHead f p rest).side f = s.side f := by simp [State.takeHead]

theorem takeHead_input (rest : List Entry) : (s.takeHead f p rest).input f k = s.input f k := input_of_side (takeHead_side rest)

theorem takeHead_groupOf (rest : List Entry) : (s.takeHead f p rest).groupOf f k = s.groupOf f k :=
  groupOf_of (outside_eq_of State.config (fun _ => rfl) (takeHead_outside rest)) f k

theorem takeHead_zone (rest : List Entry) : ((s.takeHead f p rest).sense f k).zone = (s.sense f k).zone :=
  zone_of_unit (takeHead_unit rest)

/-- The zone of a door unit that enters CLOSING with no EDGE active (R51). -/
theorem enterClosing_free_zone (h : (s.input f j).edge = false) : ((s.enterClosing f j).sense f j).zone =
    if s.served f j = true ∧ (s.sense f j).zone = .idle then if (s.input f j).gap then .occupied else .watch
    else (s.sense f j).zone := by
  rw [enterClosing_free h, closing_zone]

theorem enterClosing_edge_zone (h : (s.input f j).edge = true) : ((s.enterClosing f j).sense f j).zone = .idle := by
  rw [enterClosing_edge h, obstruct_zone closing_state]

/-- The two commands that evaluate the grant of a group do it with a hold stopped or a slot emptied (R34, R35). -/
theorem exec_evaluates {c : Instr} {x : Group}
    (h : (∃ m, (s.group f p).spacing = some m ∧ m.due s.msClock = true ∧ c = .spacingHoldExpiry f p
        ∧ x = { s.group f p with spacing := none }) ∨
      (∃ m i, (s.group f p).history[i] = some m ∧ m.due s.msClock = true ∧ c = .historySlotEmptied f p i
        ∧ x = { s.group f p with history := put (s.group f p).history i none })) :
    exec c s = s.event (fun s => (s.mapGroup f p (fun _ => x)).evalGrants f p) := by
  rcases h with ⟨m, hm, due, rfl, rfl⟩ | ⟨m, i, hm, due, rfl, rfl⟩
  · refine event_congr (op' := fun _ => _) ((expiry_due _ hm due).trans (congrArg (State.evalGrants f p) (mapGroup_congr rfl)))
  · refine event_congr (op' := fun _ => _) ((expiry_due _ hm due).trans (congrArg (State.evalGrants f p) (mapGroup_congr rfl)))

end Sys2Proof.Machine
end

section
open Sys2Proof.Machine

/-- Settles O18: one grant of the head, since it starts the spacing hold. -/
theorem grantAfterSpacingOrWindow : Obligations.GrantAfterSpacingOrWindow := by
  intro f g s hs c x hc
  obtain ⟨powered, notices, rests⟩ := calm_iff.1 hs
  rw [exec_evaluates hc]
  set w := s.mapGroup f g (fun _ => x) with hw
  have group : ∀ h, w.group f h = if h = g then x else s.group f h := fun h => mapGroup_group_if _
  have here : w.group f g = x := by rw [group, if_pos rfl]
  have config : w.config = s.config := by simp [hw]
  have par : w.par f = s.par f := par_of config f
  have unit : ∀ k, w.unit f k = s.unit f k := fun k => mapGroup_unit ..
  have door : ∀ k, w.door f k = s.door f k := fun k => congrArg Prod.fst (unit k)
  have clock : w.msClock = s.msClock := by simp [hw]
  have outside : w.outside f = s.outside f := mapGroup_outside ..
  have side : w.side f = s.side f := mapGroup_side ..
  have may : x.spacing = none → x.starts < 4 → (w.group f g).mayGrant = true := fun h1 h2 => by
    rw [here, Group.mayGrant, h1]; simpa using h2
  refine ⟨fun hwait => ?_, fun e rest hq hsp hst hne hm => ?_, fun e rest hq hsp hst hne hm hj => ?_⟩
  · have waits : w.evalGrants f g = w := evalGrants_waits (by
      rw [here, Group.mayGrant]
      rcases hwait with h | h | h
      · exact .inl h
      · exact .inr (by cases hx : x.spacing <;> simp [hx] at h ⊢)
      · exact .inr (by simp; intro; exact h))
    rw [event_quiet powered (by simp only [← hw, waits]; simpa [hw] using notices)]
    exact congrArg _ waits
  all_goals
    have head : w.evalGrants f g = w.grantOnce f g :=
      evalGrants_once (here.symm ▸ hq) (may hsp hst) (by rw [par]; exact hne)
    have taken := grantOnce_head (s := w) (here.symm ▸ hq) (may hsp hst)
    rw [hm] at taken
    obtain ⟨t, ht, hf, ho⟩ := event_calm (s := s) (v := s) (f := f)
      (op := fun s => (s.mapGroup f g (fun _ => x)).evalGrants f g) powered notices
      (by simp only [← hw, evalGrants_outside, outside])
      (by simp only [← hw]; rw [engine_of_side (evalGrants_side ..), engine_of_side side]; exact rests)
    simp only [← hw, head, taken] at hf
    have sideT : t.side f = s.side f := (side_of_face hf).trans (by simp [takeHead_side, side])
    have taken_group : ∀ h, (w.takeHead f g rest).group f h = if h = g then
        ⟨rest, put x.history (x.startSlot s.msClock) (some ⟨s.msClock, (s.par f).startWindow⟩),
          some ⟨s.msClock, (s.par f).startSpacing⟩⟩ else s.group f h := fun h => by
      rw [takeHead_group, here, State.spacingStart, State.startTimer, par, clock, if_neg hne, group]
      split <;> rfl
  · refine ⟨t, ht, ?_, fun h => ?_, ho, sideT, fun k hk => ?_⟩
    · rw [door_of_face hf, enterTold_door, takeHead_door, takeHead_clock, takeHead_par, door, par, clock]
      rfl
    · rw [group_of_face hf, enterTold_group, taken_group]
    · rw [unit_of_face hf, enterTold_unit _ _ _ _ hk, takeHead_unit, unit]
  · have grp : (w.takeHead f g rest).groupOf f e.door = g := by rw [takeHead_groupOf, groupOf_of config, hj]
    have input : (w.takeHead f g rest).input f e.door = s.input f e.door := (takeHead_input rest).trans (input_of_side side)
    have clockT : (w.takeHead f g rest).msClock = s.msClock := (takeHead_clock rest).trans clock
    have parT : (w.takeHead f g rest).par f = s.par f := (takeHead_par rest).trans par
    refine ⟨t, ht, fun he => ⟨?_, fun h => ?_, ?_⟩, fun he => ⟨?_, fun h => ?_, ?_⟩, ?_, ho, sideT, fun k hk => ?_⟩
    · rw [door_of_face hf, enterClosing_free_door (by rw [input]; exact he), takeHead_door, clockT, parT, door]
    · rw [group_of_face hf, enterClosing_free_group (by rw [input]; exact he), taken_group]
    · rw [sense_of_face hf, enterClosing_free_zone (by rw [input]; exact he), input, takeHead_zone, zone_of_unit (unit _),
        served_of_side ((takeHead_side rest).trans side)]
    · rw [door_of_face hf, enterClosing_edge_door (by rw [input]; exact he), takeHead_door, clockT, parT, door]
    · rw [group_of_face hf, enterClosing_edge_group (by rw [input]; exact he), grp, taken_group, clockT, parT]
      split <;> rfl
    · rw [sense_of_face hf, enterClosing_edge_zone (by rw [input]; exact he)]
    · rw [sense_of_face hf, enterClosing_deferral]
    · rw [unit_of_face hf, enterClosing_unit _ _ hk, takeHead_unit, unit]

end

section
namespace Sys2Proof.Machine

/-! SUPPORT. Changes of leaf, lock and handle of one door unit, and resolution from the sensors. -/

variable {s t u : State} {f : Face} {j k : DoorIx} {p q : GroupIx}

theorem mapInput_door (h : DoorInputs → DoorInputs) : (s.mapInput f j h).door f k = s.door f k := by simp [State.door]

theorem mapInput_group (h : DoorInputs → DoorInputs) : (s.mapInput f j h).group f q = s.group f q := by simp [State.group]

theorem mapInput_par (h : DoorInputs → DoorInputs) : (s.mapInput f j h).par f = s.par f := par_of (by simp) f

theorem mapInput_groupOf (h : DoorInputs → DoorInputs) : (s.mapInput f j h).groupOf f k = s.groupOf f k := groupOf_of (by simp) f k

theorem mapInput_noEntry (h : DoorInputs → DoorInputs) : (s.mapInput f j h).noEntry f q k ↔ s.noEntry f q k :=
  noEntry_congr (by rw [mapInput_group])

/-- A change of the leaf or the lock that brings no contradiction is decided by the state's own rules (R9 to R13). -/
theorem takeInputs_own {old new : DoorInputs} {st : DoorState} (hm : new.mrh = old.mrh) (hst : (s.door f j).state = some st)
    (hr : st ≠ .released) (hf : st ≠ .fault) (hh : st.holdsOpen = false)
    (hc : ¬(new.leafOpen = true ∧ new.leafClosed = true ∨ new.lockEngaged = true ∧ new.leafClosed = false)) :
    s.takeInputs f j old new = s.ownChange f j old new := by
  have still : (!old.mrh && new.mrh) = false ∧ (old.mrh && !new.mrh) = false := by rw [hm]; cases old.mrh <;> simp
  have clear : ((new.leafOpen && new.leafClosed) || (new.lockEngaged && !new.leafClosed)) = false := by
    simpa only [not_or, ← Bool.not_eq_true, Bool.or_eq_true, Bool.and_eq_true, Bool.not_eq_true'] using hc
  simp only [State.takeInputs, still, State.checkPosition, hst, hr, hf, clear, hh, Bool.false_and, Bool.false_eq_true, if_false,
    decide_false, Bool.or_false]

/-- The same for contradictions: the door unit enters FAULT with the cause (R14). -/
theorem takeInputs_conflict {old new : DoorInputs} {st : DoorState} (hm : new.mrh = old.mrh) (hst : (s.door f j).state = some st)
    (hr : st ≠ .released) (hf : st ≠ .fault)
    (hc : new.leafOpen = true ∧ new.leafClosed = true ∨ new.lockEngaged = true ∧ new.leafClosed = false) :
    s.takeInputs f j old new = s.enterFault f j .sensorConflict := by
  have still : (!old.mrh && new.mrh) = false ∧ (old.mrh && !new.mrh) = false := by rw [hm]; cases old.mrh <;> simp
  have conflict : ((new.leafOpen && new.leafClosed) || (new.lockEngaged && !new.leafClosed)) = true := by simpa using hc
  simp only [State.takeInputs, still, State.checkPosition, hst, hr, hf, conflict, Bool.false_and, Bool.false_eq_true, if_false,
    if_true, decide_false, Bool.or_false]

theorem entersCloseWait_of {n : Nat} (hc : u.config = s.config) (hd : (u.input f j).dwa = (s.input f j).dwa)
    (hb : (u.input f j).dwb = (s.input f j).dwb) (he : (u.input f j).edge = (s.input f j).edge) (hk : u.msClock = s.msClock)
    (hg : ∀ q, u.group f q = s.group f q) (h : u.entersCloseWait f j n t) : s.entersCloseWait f j n t := by
  simpa only [State.entersCloseWait, State.closePlaced, groupOf_of hc, par_of hc, hd, hb, he, hg, hk] using h

/-- An event that ends in CLOSE_WAIT. -/
theorem event_entersCloseWait {v : State} {op : State → State} {edit : DoorRec → DoorRec} (hs : s.calm f = true)
    (hv : v.notices = []) (he : (v.face f).engine = (s.face f).engine) (hop : op s = v.enter f j .closeWait edit)
    (hn : v.noEntry f (v.groupOf f j) j) :
    ∃ t, s.event op = .next t ∧ v.entersCloseWait f j (edit (v.door f j)).attempts t ∧ OnlyDoor f j v t := by
  obtain ⟨t, ht, hf, only⟩ := event_onlyDoor (op := op) hs hv he (by rw [hop]; exact enter_onlyDoor .closeWait edit)
  rw [hop] at hf
  exact ⟨t, ht, entersCloseWait_of_face hf (enter_entersCloseWait edit hn), only⟩

end Sys2Proof.Machine
end

section
open Sys2Proof.Machine

/-- Settles O12: each edge of the leaf or the lock is decided by the state's own rule. -/
theorem leafAndLockMoveTheDoorOn : Obligations.LeafAndLockMoveTheDoorOn := by
  intro f j v s hs scanned fitted hm hc
  obtain ⟨powered, notices, rests⟩ := calm_iff.1 hs
  dsimp only
  rw [exec_doorChange scanned fitted]
  set u := s.mapInput f j (withLeaf v) with hu
  have door : u.door f j = s.door f j := mapInput_door _
  have group : ∀ q, u.group f q = s.group f q := fun q => mapInput_group _
  have grp : u.groupOf f j = s.groupOf f j := mapInput_groupOf _
  have par : u.par f = s.par f := mapInput_par _
  have clock : u.msClock = s.msClock := by simp [hu]
  have quiet : u.notices = [] := by simpa [hu] using notices
  have engine : (u.face f).engine = (s.face f).engine := by simp [hu]
  have own : ∀ st, (s.door f j).state = some st → st ≠ .released → st ≠ .fault → st.holdsOpen = false →
      s.leafTaken f j v = u.ownChange f j (s.input f j) (withLeaf v (s.input f j)) :=
    fun st h1 h2 h3 h4 => takeInputs_own hm (door ▸ h1) h2 h3 h4 hc
  have enters : ∀ st : DoorState, s.leafTaken f j v = u.enter f j st id → st ≠ .unlatching → st ≠ .closeWait →
      ∃ t, s.event (State.leafTaken f j v) = .next t ∧ t.door f j = (s.door f j).enter st s.msClock (s.par f) ∧
        t.noEntry f (s.groupOf f j) j ∧ OnlyDoor f j u t := fun st hop h1 h2 => by
    have := event_enters (op := State.leafTaken f j v) (edit := id) hs quiet engine hop h1 h2
    rwa [door, clock, par, grp] at this
  have reached : (s.door f j).state = some .opening ∨ (s.door f j).state = some .reversing ∧ (s.door f j).reqClass.isSome = true →
      (s.input f j).leafOpen = false → v.leafOpen = true → s.leafTaken f j v = u.reachedOpen f j := fun ho low high => by
    rcases ho with hd | ⟨hd, hr⟩
    · rw [own _ hd (by decide) (by decide) rfl]
      simp [State.ownChange, door, hd, low, withLeaf, high]
    · rw [own _ hd (by decide) (by decide) rfl]
      simp [State.ownChange, door, hd, hr, low, withLeaf, high]
  refine ⟨fun ho hp low high => ?_, fun ho hp low high hn => ?_, fun hd low high => ?_, fun hd low high => ?_,
    fun hd hr low high => ?_, fun hd high low hn => ?_, fun hd low high => ?_⟩
  · obtain ⟨t, ht, hdoor, -, only⟩ := enters .standOpen (by rw [reached ho low high, State.reachedOpen, door, hp]; rfl)
      (by decide) (by decide)
    exact ⟨t, ht, hdoor, only⟩
  · obtain ⟨t, ht, waits, only⟩ := event_entersCloseWait (op := State.leafTaken f j v) (edit := id) hs quiet engine
      (by rw [reached ho low high, State.reachedOpen, door, hp]; rfl) (by rw [grp]; exact (mapInput_noEntry _).2 hn)
    rw [id, door] at waits
    exact ⟨t, ht, entersCloseWait_of (by simp [hu]) (by simp [hu, withLeaf]) (by simp [hu, withLeaf]) (by simp [hu, withLeaf])
      clock group waits, only⟩
  · obtain ⟨t, ht, hdoor, -, only⟩ := enters .locking (by
      rw [own _ hd (by decide) (by decide) rfl]
      simp [State.ownChange, door, hd, low, withLeaf, high]) (by decide) (by decide)
    exact ⟨t, ht, hdoor, only⟩
  · obtain ⟨t, ht, hdoor, -, only⟩ := enters .locked (by
      rw [own _ hd (by decide) (by decide) rfl]
      simp [State.ownChange, door, hd, low, withLeaf, high]) (by decide) (by decide)
    exact ⟨t, ht, hdoor, only⟩
  · have ends : s.leafTaken f j v = u.reversalEnds f j := by
      rw [own _ hd (by decide) (by decide) rfl]
      simp [State.ownChange, door, hd, hr, low, withLeaf, high]
    rw [State.reversalEnds, door, par] at ends
    split at ends
    · next below =>
      obtain ⟨t, ht, hdoor, -, only⟩ := enters .recloseHold ends (by decide) (by decide)
      exact ⟨t, ht, by rw [if_pos below]; exact hdoor, only⟩
    · next limit =>
      obtain ⟨t, ht, hdoor, -, only⟩ := enters .obstructed ends (by decide) (by decide)
      exact ⟨t, ht, by rw [if_neg limit]; exact hdoor, only⟩
  · have withdraws : s.leafTaken f j v = u.enterUnlatched f j := by
      rw [own _ hd (by decide) (by decide) rfl]
      simp [State.ownChange, door, hd, high, withLeaf, low]
    obtain ⟨t, ht, hf, only⟩ := event_onlyDoor (f := f) (j := j) (op := State.leafTaken f j v) hs quiet engine (by
      rw [withdraws]
      exact ⟨enterUnlatched_outside .., enterUnlatched_side .., fun k hk h => enterUnlatched_unit hk h⟩)
    rw [withdraws] at hf
    refine ⟨t, ht, only, fun hset => ?_, fun hset hw => ?_, fun hset hh hg => ?_⟩
    · rw [enterUnlatched_settles (by rw [par]; exact hset)] at hf
      rw [group_of_face hf, door_of_face hf, enterTold_group, enterTold_door, group, door, clock, par]
      exact ⟨rfl, rfl⟩
    all_goals
      have free : u.noEntry f (u.groupOf f j) j := by
        rw [grp]; exact (mapInput_noEntry _).2 (hn.resolve_left fun h => h hset)
    · obtain ⟨hdoor, hgroup⟩ := enterUnlatched_waits rfl (by rw [par]; exact hset) free
        (by rw [door, clock, grp, group]; exact hw)
      rw [door, clock, par] at hdoor
      rw [door, clock, grp, group] at hgroup
      rw [group_of_face hf, door_of_face hf]
      exact ⟨hgroup, hdoor⟩
    · obtain ⟨hdoor, hfree⟩ := enterUnlatched_granted rfl (by rw [par]; exact hset) free
        (by rw [door, clock, grp, group]; exact hh) (by rw [grp, group]; exact hg)
      rw [door, clock, par] at hdoor
      rw [grp] at hfree
      exact ⟨(noEntry_of_face hf).2 hfree, (door_of_face hf).trans hdoor⟩
  · have engages : s.leafTaken f j v = u.enter f j .unlatching id := by
      rw [own _ hd (by decide) (by decide) rfl]
      simp [State.ownChange, door, hd, low, withLeaf, high]
    obtain ⟨t, ht, hf, only⟩ := event_onlyDoor (f := f) (j := j) (op := State.leafTaken f j v) hs quiet engine (by
      rw [engages]; exact enter_onlyDoor ..)
    rw [engages, enter_locked_in (by simp [hu, withLeaf, high])] at hf
    refine ⟨t, ht, ?_, ?_, only⟩
    · rw [door_of_face hf, enterTold_removeEntry_door, door, clock, par]
      rfl
    · have free := told_noEntry (s := u) (f := f) (j := j) .unlatching id
      rw [grp] at free
      exact (noEntry_of_face hf).2 free

end

section
namespace Sys2Proof.Machine

/-! SUPPORT. Resolution of a door unit from its sensors (R24). -/

variable {s t u w : State} {f : Face} {j k : DoorIx} {p q : GroupIx}

theorem permits_iff : s.permits f j = true ↔ s.mayLeaveLocked f j := by
  simp [State.permits, State.mayLeaveLocked, State.served, or_assoc, and_assoc]

theorem permits_of_latch (h : (s.face f).mode.latch = true) : s.permits f j = true :=
  permits_iff.2 (.inr (.inl h))

/-- The resolution of the model is what the table of R24 finds. -/
theorem resolution_eq : s.resolution f j = resolvedState (s.input f j) (s.isolated f j) (s.face f).mode.latch := by
  unfold State.resolution resolutionTable resolvedState
  cases (s.input f j).leafClosed <;> cases (s.input f j).leafOpen <;> cases (s.input f j).lockEngaged <;>
    cases (s.input f j).mrh <;> cases s.isolated f j <;> simp

/-- The states that resolution finds. -/
theorem resolvedState_cases (i : DoorInputs) (b l : Bool) :
    (resolvedState i b l = (.locked, none) ∧ i.lockEngaged = true) ∨ resolvedState i b l = (.locking, none) ∨
      resolvedState i b l = (.standOpen, none) ∨ resolvedState i b l = (.released, none) ∨
      ∃ c, resolvedState i b l = (.fault, some c) := by
  unfold resolvedState
  cases i.leafClosed <;> cases i.leafOpen <;> cases i.lockEngaged <;> cases i.mrh <;> cases b <;> cases l <;> simp

theorem sectionActive_of (h : t.config = s.config) : t.sectionActive f j = s.sectionActive f j := by
  simp only [State.sectionActive, State.geo, h]

theorem latch_of_side (h : t.side f = s.side f) : (t.face f).mode.latch = (s.face f).mode.latch := by rw [mode_of_side h]

theorem resolvedRec_of {i : DoorInputs} (hc : t.config = s.config) (hl : (t.face f).mode.latch = (s.face f).mode.latch)
    (hk : t.msClock = s.msClock) (hd : t.door f j = s.door f j) : t.resolvedRec f j i = s.resolvedRec f j i := by
  simp only [State.resolvedRec, hl, isolated_of hc, sectionActive_of hc, hk, par_of hc, hd]

/-- Whether a door unit that is found LOCKED is given an EMERGENCY OPEN (R24). -/
def State.opensLocked (s : State) (f : Face) (j : DoorIx) : Bool :=
  (s.face f).mode.latch && !s.isolated f j && s.sectionActive f j

theorem emergencyIfLocked_other (h : (s.door f j).state ≠ some .locked) : s.emergencyIfLocked f j = s := by
  simp [State.emergencyIfLocked, h]

theorem emergencyIfLocked_stays (h : s.opensLocked f j = false) : s.emergencyIfLocked f j = s := by
  rw [State.emergencyIfLocked, if_neg]
  intro hx
  rw [State.opensLocked] at h
  simp only [Bool.and_eq_true] at hx
  simp [hx.1.1, hx.2] at h

/-- A door unit found LOCKED that is given an EMERGENCY OPEN is UNLATCHING, since its lock is engaged (R9, R24). -/
theorem emergencyIfLocked_opens (hd : (s.door f j).state = some .locked) (hl : (s.input f j).lockEngaged = true)
    (h : s.opensLocked f j = true) : s.emergencyIfLocked f j =
      (s.enterTold f j .unlatching (DoorRec.startOpen .emergency)).removeEntry f j := by
  obtain ⟨⟨latch, isolated⟩, active⟩ : ((s.face f).mode.latch = true ∧ s.isolated f j = false) ∧ s.sectionActive f j = true := by
    simpa [State.opensLocked] using h
  rw [← enter_locked_in hl]
  simp [State.emergencyIfLocked, State.request, State.takeOpen, latch, isolated, active, hd, permits_of_latch]

/-- Resolution that leaves the state of the door unit gives it the record of R24. -/
theorem resolve_resolvedRec (h : ¬((resolvedState (s.input f j) (s.isolated f j) (s.face f).mode.latch).1 = .released ∧
    (s.door f j).state = some .released)) :
    (s.resolve f j).door f j = s.resolvedRec f j (s.input f j) ∧ (s.resolve f j).noEntry f (s.groupOf f j) j := by
  set r := resolvedState (s.input f j) (s.isolated f j) (s.face f).mode.latch with hr
  have direct : s.enter f j r.1 (fun d => { d with cause := r.2 }) =
      (s.enterTold f j r.1 (fun d => { d with cause := r.2 })).removeEntry f j := by
    refine enter_direct ?_ ?_ _ <;> rcases resolvedState_cases (s.input f j) (s.isolated f j) (s.face f).mode.latch with
      ⟨e, -⟩ | e | e | e | ⟨c, e⟩ <;> rw [hr, e] <;> simp
  have resolves : s.resolve f j = ((s.enterTold f j r.1 (fun d => { d with cause := r.2 })).removeEntry f j).emergencyIfLocked f j := by
    rw [State.resolve, resolution_eq, ← hr, ← direct]
    exact if_neg (by simpa using h)
  set w := (s.enterTold f j r.1 (fun d => { d with cause := r.2 })).removeEntry f j with hw
  have door : w.door f j = ({ s.door f j with cause := r.2 } : DoorRec).enter r.1 s.msClock (s.par f) :=
    enterTold_removeEntry_door ..
  have free : w.noEntry f (s.groupOf f j) j := told_noEntry _ _
  have config : w.config = s.config := by simp [hw]
  have side : w.side f = s.side f := by simp [hw]
  have opens : w.opensLocked f j = s.opensLocked f j := by
    rw [State.opensLocked, latch_of_side side, isolated_of config, sectionActive_of config]; rfl
  rw [resolves]
  unfold State.resolvedRec
  dsimp only
  rw [← hr]
  rcases resolvedState_cases (s.input f j) (s.isolated f j) (s.face f).mode.latch with ⟨e, hl⟩ | e | e | e | ⟨c, e⟩ <;>
    rw [← hr] at e
  case inl =>
    rw [e] at door ⊢
    cases ho : s.opensLocked f j
    · rw [emergencyIfLocked_stays (opens.trans ho)]
      refine ⟨?_, free⟩
      rw [door, if_neg, if_neg (by decide)]
      · rfl
      · rintro ⟨-, h1, h2, h3⟩
        simp [State.opensLocked, h1, h2, h3] at ho
    · have groupOf : w.groupOf f j = s.groupOf f j := groupOf_of config f j
      rw [emergencyIfLocked_opens (by rw [door]; rfl) (by rw [input_of_side side]; exact hl) (opens.trans ho)]
      have left := told_noEntry (s := w) (f := f) (j := j) .unlatching (DoorRec.startOpen .emergency)
      rw [groupOf] at left
      refine ⟨?_, left⟩
      rw [enterTold_removeEntry_door, door, outside_eq_of State.msClock (fun _ => rfl) (by simp [hw] : w.outside f = s.outside f),
        par_of config, if_pos]
      · rfl
      · simpa [State.opensLocked, and_assoc] using ho
  all_goals
    have other : (w.door f j).state ≠ some .locked := by rw [door, e]; simp [DoorRec.enter]
    rw [emergencyIfLocked_other other, door, e]
    exact ⟨rfl, free⟩

end Sys2Proof.Machine
end

section
open Sys2Proof.Machine

/-- Settles O11: the handle first, then the contradictions, and resolution when the handle returns. -/
theorem manualReleaseAndInputFaults : Obligations.ManualReleaseAndInputFaults := by
  refine ⟨?_, ?_, ?_⟩
  · intro f j v s hs scanned fitted low high hd
    obtain ⟨-, notices, -⟩ := calm_iff.1 hs
    have releases : s.leafTaken f j v = (s.mapInput f j (withLeaf v)).enter f j .released id := by
      simp [State.leafTaken, State.takeInputs, low, withLeaf, high, mapInput_door, hd]
    have := event_enters (op := State.leafTaken f j v) (edit := id) hs (by simpa using notices) (by simp) releases (by decide)
      (by decide)
    rw [exec_doorChange scanned fitted]
    rw [mapInput_msClock, mapInput_groupOf] at this
    exact this
  · intro f j v s st c hs scanned fitted hm hd hr hf hc
    obtain ⟨-, notices, -⟩ := calm_iff.1 hs
    have faults : s.leafTaken f j v = (s.mapInput f j (withLeaf v)).enterFault f j c := by
      have door : (s.mapInput f j (withLeaf v)).door f j = s.door f j := mapInput_door _
      rcases hc with ⟨conflict, rfl⟩ | ⟨held, low, high, shut, rfl⟩ | ⟨rfl, high, low, handle, clear, rfl⟩
      · exact takeInputs_conflict hm (door ▸ hd) hr hf conflict
      · have holds : st.holdsOpen = true := by rcases held with rfl | rfl | rfl | rfl <;> rfl
        simp [State.leafTaken, State.takeInputs, State.checkPosition, door, hd, hr, hf, hm, low, high, shut, withLeaf, holds]
      · have own := takeInputs_own (s := s.mapInput f j (withLeaf v)) (f := f) (j := j) (old := s.input f j)
          (new := withLeaf v (s.input f j)) hm (door ▸ hd) hr hf rfl
          (by rintro (h | ⟨h, -⟩); exacts [clear h, by simp [withLeaf, low] at h])
        rw [State.leafTaken, own]
        simp [State.ownChange, door, hd, high, withLeaf, low, handle]
    have := event_enters (op := State.leafTaken f j v) hs (by simpa using notices) (by simp) faults (by decide)
      (by decide)
    rw [exec_doorChange scanned fitted]
    rw [mapInput_msClock, mapInput_groupOf] at this
    exact this
  · intro f j v s hs scanned fitted hd
    obtain ⟨powered, notices, rests⟩ := calm_iff.1 hs
    dsimp only
    rw [exec_doorChange scanned fitted]
    set u := s.mapInput f j (withLeaf v) with hu
    have input : u.input f j = withLeaf v (s.input f j) := mapInput_input ..
    have door : u.door f j = s.door f j := mapInput_door _
    have quiet : u.notices = [] := by simpa [hu] using notices
    have engine : (u.face f).engine = (s.face f).engine := by simp [hu]
    have isolated : u.isolated f j = s.isolated f j := isolated_of (by simp [hu]) f j
    have latch : (u.face f).mode.latch = (s.face f).mode.latch := by simp [hu]
    refine ⟨fun low high found => ?_, fun low high found => ?_, fun same => ?_, fun low high => ?_⟩
    · have resolves : s.leafTaken f j v = u.resolve f j := by
        simp [State.leafTaken, State.takeInputs, low, withLeaf, high, mapInput_door, hd, hu]
      obtain ⟨t, ht, hf, only⟩ := event_onlyDoor (f := f) (j := j) (op := State.leafTaken f j v) hs quiet engine (by
        rw [resolves]; exact ⟨resolve_outside .., resolve_side .., fun k hk h => resolve_unit hk h⟩)
      obtain ⟨record, free⟩ := resolve_resolvedRec (s := u) (f := f) (j := j) (by
        rw [input, isolated, latch]; exact fun h => found h.1)
      rw [resolves] at hf
      have record_u : u.resolvedRec f j (u.input f j) = s.resolvedRec f j (withLeaf v (s.input f j)) := by
        rw [input]
        exact resolvedRec_of (by simp [hu]) latch (by simp [hu]) door
      exact ⟨t, ht, (door_of_face hf).trans (record.trans record_u), (noEntry_of_face hf).2 (mapInput_groupOf (s := s) _ ▸ free),
        only⟩
    · have stays : s.leafTaken f j v = u := by
        have resolution : (u.resolution f j).1 = .released := by rw [resolution_eq, input, isolated, latch]; exact found
        have kept : u.resolve f j = u := by simp [State.resolve, resolution, door, hd]
        simpa [State.leafTaken, State.takeInputs, low, withLeaf, high, mapInput_door, hd, hu] using kept
      rw [event_quiet powered (by rw [stays]; exact quiet), stays]
    · have stays : s.leafTaken f j v = u := by
        have still : (!(s.input f j).mrh && v.mrh) = false ∧ ((s.input f j).mrh && !v.mrh) = false := by
          rw [same]; cases (s.input f j).mrh <;> simp
        simp [State.leafTaken, State.takeInputs, State.checkPosition, withLeaf, still, mapInput_door, hd, hu]
      rw [event_quiet powered (by rw [stays]; exact quiet), stays]
    · have reports : s.leafTaken f j v = u.reportDoor f j := by
        simp [State.leafTaken, State.takeInputs, low, withLeaf, high, mapInput_door, hd, hu]
      have face : (u.reportDoor f j).face f = u.face f := by simp [State.reportDoor]
      obtain ⟨t, ht, hf, ho⟩ := event_calm (f := f) (v := s) (op := State.leafTaken f j v) powered notices
        (by rw [reports, reportDoor_outside, hu, mapInput_outside]) (by rw [reports, face, engine]; exact rests)
      exact ⟨t, ht, by rw [hf, reports, face], ho⟩

end

section
namespace Sys2Proof.Machine

/-! SUPPORT. One request at one door unit, by the state of its record (R16 to R18). -/

variable {s t u w : State} {f : Face} {j k : DoorIx} {p q : GroupIx} {c : ReqClass} {st : DoorState}

theorem mapDoor_const (h : DoorRec → DoorRec) : s.mapDoor f j h = s.mapDoor f j (fun _ => h (s.door f j)) := by
  cases f <;> rfl

theorem mapDoor_group (h : DoorRec → DoorRec) : (s.mapDoor f j h).group f q = s.group f q := by simp [State.group]

theorem mapDoor_groupOf (h : DoorRec → DoorRec) : (s.mapDoor f j h).groupOf f k = s.groupOf f k := groupOf_of (by simp) f k

theorem request_onlyDoor (r : DoorRequest) : OnlyDoor f j s (s.request f j r).1 :=
  ⟨request_outside .., request_side .., fun _ hk h => request_unit r hk h⟩

/-- The request with which an opening of a class goes out. -/
def ReqClass.request : ReqClass → DoorRequest
  | .normal => .open_
  | .emergency => .emergencyOpen

theorem request_open (c : ReqClass) (hi : s.isolated f j = false) (hd : (s.door f j).state = some st) :
    s.request f j c.request = s.takeOpen f j c := by
  cases c <;> simp [State.request, ReqClass.request, hi, hd]

theorem request_close (hi : s.isolated f j = false) (hl : (s.face f).mode.latch = false) (hd : (s.door f j).state = some st) :
    s.request f j .close = s.takeClose f j := by
  simp [State.request, hi, hl, hd]

/-- A door unit that leaves LOCKED or LOCKING toward open (R9, R17, R19). -/
theorem takeOpen_permitted (hd : (s.door f j).state = some .locked ∨ (s.door f j).state = some .locking)
    (h : s.mayLeaveLocked f j) : s.takeOpen f j c = (s.enter f j .unlatching (DoorRec.startOpen c), .accept) := by
  rcases hd with hd | hd <;> simp only [State.takeOpen, hd, permits_iff.2 h, if_true]

theorem takeOpen_refused (hd : (s.door f j).state = some .locked ∨ (s.door f j).state = some .locking)
    (h : ¬s.mayLeaveLocked f j) : s.takeOpen f j c = (s, .noRelease) := by
  rcases hd with hd | hd <;> simp [State.takeOpen, hd, permits_iff, h]

theorem takeOpen_out (hd : (s.door f j).state = some .released ∨ (s.door f j).state = some .fault) :
    s.takeOpen f j c = (s, .notAvailable) := by
  rcases hd with hd | hd <;> simp only [State.takeOpen, hd]

theorem takeOpen_onWay (hd : (s.door f j).state = some .unlatching ∨ (s.door f j).state = some .opening) :
    s.takeOpen f j c = (s.mapDoor f j (DoorRec.askOpen c), .accept) := by
  rcases hd with hd | hd <;> simp only [State.takeOpen, hd]

theorem takeOpen_unlatched (hd : (s.door f j).state = some .unlatched) : s.takeOpen f j c =
    (if c = .emergency then (s.mapDoor f j (DoorRec.askOpen c)).raiseEntry f j else s.mapDoor f j (DoorRec.askOpen c), .accept) := by
  simp only [State.takeOpen, hd]

theorem takeOpen_standOpen (hd : (s.door f j).state = some .standOpen) : s.takeOpen f j c =
    (s.mapDoor f j (fun d => { d with pendingClose := false }), .accept) := by
  simp only [State.takeOpen, hd]

theorem takeOpen_waiting (hd : (s.door f j).state = some .closeWait ∨ (s.door f j).state = some .recloseHold ∨
    (s.door f j).state = some .obstructed) : s.takeOpen f j c = (s.enter f j .standOpen id, .accept) := by
  rcases hd with hd | hd | hd <;> simp only [State.takeOpen, hd]

theorem takeOpen_closing (hd : (s.door f j).state = some .closing) : s.takeOpen f j c =
    ((s.enter f j .reversing (DoorRec.startOpen c)).recordStart f (s.groupOf f j), .accept) := by
  simp only [State.takeOpen, hd]

theorem takeOpen_reversing (hd : (s.door f j).state = some .reversing) : s.takeOpen f j c =
    (s.mapDoor f j (DoorRec.askReverse c), .accept) := by
  simp only [State.takeOpen, hd]

theorem takeClose_out (hd : (s.door f j).state = some .released ∨ (s.door f j).state = some .fault) :
    s.takeClose f j = (s, .notAvailable) := by
  rcases hd with hd | hd <;> simp only [State.takeClose, hd]

theorem takeClose_shut (hd : (s.door f j).state = some .locked ∨ (s.door f j).state = some .closeWait ∨
    (s.door f j).state = some .closing ∨ (s.door f j).state = some .recloseHold ∨ (s.door f j).state = some .locking ∨
    (s.door f j).state = some .reversing ∧ (s.door f j).reqClass = none) : s.takeClose f j = (s, .accept) := by
  rcases hd with hd | hd | hd | hd | hd | ⟨hd, hr⟩
  case inr.inr.inr.inr.inr => simp [State.takeClose, hd, hr]
  all_goals simp only [State.takeClose, hd]

theorem takeClose_unlocked (hd : (s.door f j).state = some .unlatching ∨ (s.door f j).state = some .unlatched) :
    s.takeClose f j = (s.enter f j .locking id, .accept) := by
  rcases hd with hd | hd <;> simp only [State.takeClose, hd]

theorem takeClose_onWay (hd : (s.door f j).state = some .opening ∨
    (s.door f j).state = some .reversing ∧ (s.door f j).reqClass ≠ none) :
    s.takeClose f j = (s.mapDoor f j (fun d => { d with pendingClose := true }), .accept) := by
  rcases hd with hd | ⟨hd, hr⟩
  · simp only [State.takeClose, hd]
  · simp [State.takeClose, hd, Option.isSome_iff_ne_none.2 hr]

theorem takeClose_standOpen (hd : (s.door f j).state = some .standOpen) :
    s.takeClose f j = (s.enter f j .closeWait id, .accept) := by
  simp only [State.takeClose, hd]

theorem takeClose_obstructed (hd : (s.door f j).state = some .obstructed) :
    s.takeClose f j = (s.enter f j .closeWait (fun d => { d with attempts := 0 }), .accept) := by
  simp only [State.takeClose, hd]

/-- No NORMAL OPEN entry of the door unit is in its group's queue: none is raised. -/
theorem raiseEntry_none (h : ∀ e ∈ (s.group f (s.groupOf f j)).queue, e.door = j → e.cls = .emergency) : s.raiseEntry f j = s := by
  unfold State.raiseEntry
  dsimp only
  rw [List.find?_eq_none.2]
  intro e he
  by_cases hj : e.door = j
  · simp [h e he hj]
  · simp [hj]

/-- The NORMAL OPEN entry of the door unit goes to the tail of the EMERGENCY class (R18). -/
theorem raiseEntry_some {e : Entry} (he : e ∈ (s.group f (s.groupOf f j)).queue) (hj : e.door = j) (hm : e.motion = .open_)
    (hc : e.cls = .normal) (hn : ((s.group f (s.groupOf f j)).queue.map Entry.door).Nodup) :
    s.raiseEntry f j = (s.mapGroup f (s.groupOf f j) (fun x => { x with
      queue := joinQueue { e with cls := .emergency } (x.queue.filter (fun y => y.door ≠ j)) })).evalIfHead f (s.groupOf f j) j := by
  have found : (s.group f (s.groupOf f j)).queue.find? (fun x => x.door = j && x.motion = .open_ && x.cls = .normal) = some e := by
    obtain ⟨x, hx⟩ : ∃ x, (s.group f (s.groupOf f j)).queue.find?
        (fun x => x.door = j && x.motion = .open_ && x.cls = .normal) = some x :=
      Option.isSome_iff_exists.1 (List.find?_isSome.2 ⟨e, he, by simp [hj, hm, hc]⟩)
    have door : x.door = j := by
      have := List.find?_some hx
      simp only [Bool.and_eq_true, decide_eq_true_eq] at this
      exact this.1.1
    rw [hx, List.inj_on_of_nodup_map hn (List.mem_of_find?_eq_some hx) he (door.trans hj.symm)]
  unfold State.raiseEntry
  dsimp only
  rw [found]

/-- The groups after the NORMAL OPEN entry of a door unit has been raised, before the grant (R18). -/
def State.raised (f : Face) (j : DoorIx) (e : Entry) (s : State) : State :=
  s.mapGroup f (s.groupOf f j) (fun x => { x with queue := joinQueue e (x.queue.filter (fun y => y.door ≠ j)) })

theorem raised_waits {e : Entry} (hj : e.door = j)
    (hw : ¬((joinQueue e ((s.group f (s.groupOf f j)).queue.filter (fun y => y.door ≠ j))).head? = some e ∧
      (s.group f (s.groupOf f j)).mayGrant = true)) :
    (s.raised f j e).evalIfHead f (s.groupOf f j) j = s.raised f j e := by
  subst hj
  refine evalIfHead_joined (e := e) (by rw [State.raised, mapGroup_group]) (fun y hy => ?_) ?_
  · simpa using (List.mem_filter.1 hy).2
  · rw [State.raised, mapGroup_group]; exact hw

theorem raised_granted {e : Entry} (hj : e.door = j) (hm : e.motion = .open_)
    (hh : (joinQueue e ((s.group f (s.groupOf f j)).queue.filter (fun y => y.door ≠ j))).head? = some e)
    (hg : (s.group f (s.groupOf f j)).mayGrant = true) :
    ((s.raised f j e).evalIfHead f (s.groupOf f j) j).door f j = (s.door f j).enter .opening s.msClock (s.par f) ∧
      ((s.raised f j e).evalIfHead f (s.groupOf f j) j).noEntry f (s.groupOf f j) j := by
  subst hj
  have queue : ((s.raised f e.door e).group f (s.groupOf f e.door)).queue =
      joinQueue e ((s.group f (s.groupOf f e.door)).queue.filter (fun y => y.door ≠ e.door)) := by
    rw [State.raised, mapGroup_group]
  have may : ((s.raised f e.door e).group f (s.groupOf f e.door)).mayGrant = true := by
    rw [State.raised, mapGroup_group]; exact hg
  obtain ⟨unit, free⟩ := evalIfHead_granted queue (fun y hy => by simpa using (List.mem_filter.1 hy).2) hh may
  obtain ⟨rest, hr⟩ := List.head?_eq_some_iff.1 hh
  refine ⟨(congrArg Prod.fst unit).trans ?_, free⟩
  have opened := grantOnce_open (queue.trans hr) may hm
  have door : (s.raised f e.door e).door f e.door = s.door f e.door := congrArg Prod.fst (mapGroup_unit ..)
  rw [door, State.raised, mapGroup_msClock, par_of (s := s) (by simp)] at opened
  exact opened

end Sys2Proof.Machine
end

section
open Sys2Proof.Machine

/-- Settles O17: the checks of R16 in their order, and then the row of the state. -/
theorem doorRequestsAreDecidedByTheTable : Obligations.DoorRequestsAreDecidedByTheTable := by
  intro f j s law
  have rules := startQueueLaw_iff.1 law
  have free : (s.door f j).state ≠ some .unlatched → (s.door f j).state ≠ some .closeWait → s.noEntry f (s.groupOf f j) j :=
    fun h1 h2 => rules.free_of_state (j := j) h1 h2
  have moves : ∀ {r : DoorRequest} {x : State} {P : State → Prop}, s.request f j r = (x, .accept) → P x →
      ∃ t, s.request f j r = (t, .accept) ∧ OnlyDoor f j s t ∧ P t := fun {r x P} h hp =>
    ⟨x, h, by simpa [h] using request_onlyDoor (s := s) (f := f) (j := j) r, hp⟩
  dsimp only
  refine ⟨fun r hd => ?_, fun r hd hi => ?_, fun hd hi hl => ?_, fun r hd hi hr => ?_, fun r c hi hr => ?_, fun hi hl => ?_⟩
  · simp [State.request, hd]
  · simp [State.request, Option.isNone_iff_eq_none, hd, hi]
  · simp [State.request, Option.isNone_iff_eq_none, hd, hi, hl]
  · obtain ⟨st, hst⟩ : ∃ st, (s.door f j).state = some st := by rcases hd with h | h <;> exact ⟨_, h⟩
    cases r
    case close => rw [request_close hi (hr.resolve_left fun h => h rfl) hst, takeClose_out hd]
    case open_ => exact (request_open .normal hi hst).trans (takeOpen_out hd)
    case emergencyOpen => exact (request_open .emergency hi hst).trans (takeOpen_out hd)
  · have asks : r = c.request := by rcases hr with ⟨rfl, rfl⟩ | ⟨rfl, rfl⟩ <;> rfl
    subst asks
    have takes : (s.door f j).state ≠ none → s.request f j c.request = s.takeOpen f j c := fun h => by
      obtain ⟨st, hst⟩ := Option.ne_none_iff_exists'.1 h
      exact request_open c hi hst
    have asked : s.mapDoor f j (DoorRec.askOpen c) = s.mapDoor f j (fun _ => { s.door f j with
        pendingClose := false, reqClass := if c = .emergency then some .emergency else (s.door f j).reqClass }) := mapDoor_const _
    have raises : ∀ e ∈ (s.group f (s.groupOf f j)).queue, (s.door f j).state = some .unlatched → c = .emergency → e.door = j →
        e.cls = .normal → e.motion = .open_ ∧ s.request f j c.request =
          (((s.mapDoor f j (DoorRec.askOpen c)).raised f j { e with cls := .emergency }).evalIfHead f (s.groupOf f j) j, .accept) := by
      intro e he hd hc hj hn
      have motion : e.motion = .open_ := by
        obtain ⟨-, -, -, hs⟩ := rules.entry _ e he
        rcases hs with ⟨hm, -⟩ | ⟨-, hs, -⟩
        · exact hm
        · rw [hj] at hs
          simp [State.doorSide, hd] at hs
      have raised := raiseEntry_some (s := s.mapDoor f j (DoorRec.askOpen c)) (f := f) (j := j) (e := e)
        (by rw [mapDoor_groupOf, mapDoor_group]; exact he) hj motion hn
        (by rw [mapDoor_groupOf, mapDoor_group]; exact rules.nodup _)
      refine ⟨motion, ?_⟩
      rw [takes (by simp [hd]), takeOpen_unlatched hd, if_pos hc, raised, mapDoor_groupOf, State.raised, mapDoor_groupOf]
    refine ⟨fun hd hp => ?_, fun hd hp => ?_, fun hd => ?_, fun hd he => ?_, fun e he hd hc hj hn => ⟨fun hw => ?_, fun hh hg => ?_⟩,
      fun hd => ?_, fun hd => ?_, fun hd => ?_, fun hd => ?_⟩
    · exact (takes (by rcases hd with h | h <;> simp [h])).trans (takeOpen_refused hd hp)
    · exact moves ((takes (by rcases hd with h | h <;> simp [h])).trans (takeOpen_permitted hd hp))
        (enter_startsOpening c (free (by rcases hd with h | h <;> simp [h]) (by rcases hd with h | h <;> simp [h])))
    · rw [takes (by rcases hd with h | h <;> simp [h]), takeOpen_onWay hd, asked]
    · have keeps : (if c = .emergency then (s.mapDoor f j (DoorRec.askOpen c)).raiseEntry f j
          else s.mapDoor f j (DoorRec.askOpen c)) = s.mapDoor f j (DoorRec.askOpen c) := by
        split
        · next hc => exact raiseEntry_none (by rw [mapDoor_groupOf, mapDoor_group]; exact he hc)
        · rfl
      rw [takes (by simp [hd]), takeOpen_unlatched hd, keeps, asked]
    · have waits := raised_waits (s := s.mapDoor f j (DoorRec.askOpen c)) (f := f) (j := j) (e := { e with cls := .emergency }) hj
        (by rw [mapDoor_groupOf, mapDoor_group]; exact hw)
      rw [mapDoor_groupOf] at waits
      rw [(raises e he hd hc hj hn).2, waits, asked, State.raised, mapDoor_groupOf]
      exact congrArg (·, _) (mapGroup_congr (by rw [mapDoor_group]))
    · obtain ⟨motion, raised⟩ := raises e he hd hc hj hn
      have granted := raised_granted (s := s.mapDoor f j (DoorRec.askOpen c)) (f := f) (j := j) (e := { e with cls := .emergency }) hj
        motion
        (by rw [mapDoor_groupOf, mapDoor_group]; exact hh) (by rw [mapDoor_groupOf, mapDoor_group]; exact hg)
      rw [mapDoor_groupOf] at granted
      obtain ⟨door, gone⟩ := granted
      refine moves raised ⟨gone, door.trans ?_⟩
      rw [mapDoor_door, par_of (s := s) (by simp), mapDoor_msClock, hc]
      rfl
    · rw [takes (by simp [hd]), takeOpen_standOpen hd, mapDoor_const]
    · have opens := (takes (by rcases hd with h | h | h <;> simp [h])).trans (takeOpen_waiting hd)
      rw [enter_direct (by decide) (by decide)] at opens
      exact moves opens ⟨told_noEntry _ _, told_deferral _ _, enterTold_removeEntry_door ..⟩
    · have reverses := (takes (by simp [hd])).trans (takeOpen_closing hd)
      rw [enter_direct (by decide) (by decide), told_free _ _ (free (by simp [hd]) (by simp [hd]))] at reverses
      refine moves reverses ⟨?_, ?_, fun h => ?_⟩
      · rw [zone_of_unit (recordStart_unit ..), reversing_zone]
      · rw [show ∀ (x : State) p, (x.recordStart f p).door f j = x.door f j from fun x p => congrArg Prod.fst (recordStart_unit ..),
          enterTold_door]
        rfl
      · rw [recordStart_group, enterTold_group, enterTold_group, enterTold_msClock, enterTold_par]
        rfl
    · rw [takes (by simp [hd]), takeOpen_reversing hd, mapDoor_const]
      simp [DoorRec.askReverse]
  · have takes : (s.door f j).state ≠ none → s.request f j .close = s.takeClose f j := fun h => by
      obtain ⟨st, hst⟩ := Option.ne_none_iff_exists'.1 h
      exact request_close hi hl hst
    refine ⟨fun hd => ?_, fun hd => ?_, fun hd => ?_, fun hd => ?_, fun hd => ?_⟩
    · refine (takes ?_).trans (takeClose_shut hd)
      rcases hd with h | h | h | h | h | ⟨h, -⟩ <;> simp [h]
    · have locks := (takes (by rcases hd with h | h <;> simp [h])).trans (takeClose_unlocked hd)
      rw [enter_direct (by decide) (by decide)] at locks
      exact moves locks ⟨told_noEntry _ _, enterTold_removeEntry_door ..⟩
    · rw [takes (by rcases hd with h | ⟨h, -⟩ <;> simp [h]), takeClose_onWay hd, mapDoor_const]
    · exact moves ((takes (by simp [hd])).trans (takeClose_standOpen hd))
        (enter_entersCloseWait id (free (by simp [hd]) (by simp [hd])))
    · exact moves ((takes (by simp [hd])).trans (takeClose_obstructed hd))
        (enter_entersCloseWait _ (free (by simp [hd]) (by simp [hd])))

end

section
namespace Sys2Proof.Machine

/-! SUPPORT. What an operation on one door unit makes of another: nothing, or the grant of the one entry that it holds. -/

variable {s t u w : State} {f : Face} {j k : DoorIx} {p q : GroupIx} {c : ReqClass} {st : DoorState}

/-- The entries of a door unit in the queue of a group. -/
def State.entries (s : State) (f : Face) (p : GroupIx) (k : DoorIx) : List Entry :=
  (s.group f p).queue.filter (fun e => e.door = k)

/-- A door unit holds at most one entry in all the queues. -/
def State.single (s : State) (f : Face) (k : DoorIx) : Prop :=
  ∀ p, ∀ e ∈ s.entries f p k, ∀ q, s.entries f q k = if q = p then [e] else []

/-- What the grant of an entry makes of the record of its door unit (R36, R50). -/
def Granted (m : Motion) (d e : DoorRec) : Prop :=
  match m with
  | .open_ => e.state = some .opening ∧ e.attempts = d.attempts ∧ e.pendingClose = d.pendingClose ∧ e.reqClass = d.reqClass
  | .close => e.pendingClose = d.pendingClose ∧ (e.state = some .closing ∧ e.attempts = d.attempts ∧ e.reqClass = d.reqClass ∨
      e.state = some .reversing ∧ e.attempts = d.attempts + 1 ∧ e.reqClass = none)

/-- A door unit and its entries are left as they are. -/
def Stays (f : Face) (k : DoorIx) (s t : State) : Prop :=
  t.unit f k = s.unit f k ∧ ∀ p, t.entries f p k = s.entries f p k

/-- The entry of a door unit has been granted. -/
def Taken (f : Face) (k : DoorIx) (s t : State) : Prop :=
  (∃ p, ∃ e ∈ s.entries f p k, Granted e.motion (s.door f k) (t.door f k)) ∧ ∀ q, t.entries f q k = []

/-- From `s` to `t` a door unit with at most one entry stays, or its entry is granted. -/
def Serves (f : Face) (k : DoorIx) (s t : State) : Prop := s.single f k → Stays f k s t ∨ Taken f k s t

theorem Stays.refl : Stays f k s s := ⟨rfl, fun _ => rfl⟩

theorem Stays.serves (h : Stays f k s t) : Serves f k s t := fun _ => .inl h

theorem Stays.single (h : Stays f k s t) (hs : s.single f k) : t.single f k := fun p e he q => by
  obtain ⟨-, entries⟩ := h
  rw [entries] at he ⊢
  exact hs p e he q

theorem Stays.trans (h : Stays f k s t) (h' : Stays f k t u) : Stays f k s u :=
  ⟨h'.1.trans h.1, fun p => (h'.2 p).trans (h.2 p)⟩

theorem Taken.single (h : Taken f k s t) : t.single f k := fun p e he => by
  rw [h.2 p] at he
  cases he

theorem Serves.trans (h : Serves f k s t) (h' : Serves f k t u) : Serves f k s u := fun hs => by
  rcases h hs with stays | taken
  · rcases h' (stays.single hs) with stays' | ⟨⟨p, e, he, grant⟩, gone⟩
    · exact .inl (stays.trans stays')
    · obtain ⟨unit, entries⟩ := stays
      rw [entries] at he
      rw [show t.door f k = s.door f k from congrArg Prod.fst unit] at grant
      exact .inr ⟨⟨p, e, he, grant⟩, gone⟩
  · obtain ⟨⟨p, e, he, grant⟩, gone⟩ := taken
    rcases h' (Taken.single ⟨⟨p, e, he, grant⟩, gone⟩) with ⟨unit, entries⟩ | ⟨⟨q, e', he', -⟩, -⟩
    · refine .inr ⟨⟨p, e, he, ?_⟩, fun q => (entries q).trans (gone q)⟩
      rw [show u.door f k = t.door f k from congrArg Prod.fst unit]
      exact grant
    · rw [gone q] at he'
      cases he'

theorem Serves.refl : Serves f k s s := Stays.refl.serves

theorem Serves.single (h : Serves f k s t) (hs : s.single f k) : t.single f k := by
  rcases h hs with h | h
  · exact h.single hs
  · exact h.single

/-! ### Steps that give or take entries of another door unit -/

theorem stays_of (hu : t.unit f k = s.unit f k) (hq : ∀ p, (t.group f p).queue = (s.group f p).queue) : Stays f k s t :=
  ⟨hu, fun p => by simp only [State.entries, hq]⟩

theorem filter_joinQueue {e : Entry} (hk : e.door ≠ k) (l : List Entry) :
    (joinQueue e l).filter (fun x => x.door = k) = l.filter (fun x => x.door = k) := by
  unfold joinQueue
  split
  · simp [List.filter_append, hk]
  · rw [List.filter_append, List.filter_cons_of_neg (by simpa using hk), ← List.filter_append, List.takeWhile_append_dropWhile]

theorem mapGroup_stays {h : Group → Group} (e : ∀ x, (h x).queue.filter (fun x => x.door = k) = x.queue.filter (fun x => x.door = k)) :
    Stays f k s (s.mapGroup f p h) := by
  refine ⟨mapGroup_unit .., fun q => ?_⟩
  rw [State.entries, mapGroup_group_if]
  split
  · next hq => rw [hq, e]; rfl
  · rfl

theorem enterTold_stays (st : DoorState) (edit : DoorRec → DoorRec) (hk : k ≠ j) : Stays f k s (s.enterTold f j st edit) :=
  stays_of (enterTold_unit _ _ _ _ hk) fun p => by rw [enterTold_group]

theorem mapDoor_stays (h : DoorRec → DoorRec) (hk : k ≠ j) : Stays f k s (s.mapDoor f j h) :=
  stays_of (mapDoor_unit _ _ _ hk) fun p => by rw [mapDoor_group]

theorem mapSense_stays (h : DoorSense → DoorSense) (hk : k ≠ j) : Stays f k s (s.mapSense f j h) :=
  stays_of (mapSense_unit _ _ _ hk) fun p => by simp [State.group]

theorem recordStart_stays : Stays f k s (s.recordStart f p) := mapGroup_stays fun _ => rfl

/-- A granted OPEN. -/
theorem enter_opening_granted (d : DoorRec) (now : Ms) (r : Params) : Granted .open_ d (d.enter .opening now r) :=
  ⟨rfl, rfl, rfl, rfl⟩

/-- A granted CLOSE, with its obstruction where EDGE is active. -/
theorem enterClosing_granted : Granted .close (s.door f j) ((s.enterClosing f j).door f j) := by
  cases h : (s.input f j).edge
  · rw [enterClosing_free_door h]; exact ⟨rfl, .inl ⟨rfl, rfl, rfl⟩⟩
  · rw [enterClosing_edge_door h]; exact ⟨rfl, .inr ⟨rfl, rfl, rfl⟩⟩

theorem grantOnce_serves : Serves f k s (s.grantOnce f p) := by
  rcases grantOnce_cases (s := s) (f := f) p with he | ⟨e, rest, hq, hg, he⟩
  · rw [he]; exact .refl
  · have queue : ∀ q, ((s.grantOnce f p).group f q).queue = if q = p then rest else (s.group f q).queue := fun q => by
      rw [he]
      split
      · rw [enterTold_group, takeHead_queue]
      · rw [enterClosing_group_queue, takeHead_queue]
    intro single
    by_cases hk : k = e.door
    · subst hk
      have here : e ∈ s.entries f p e.door := List.mem_filter.2 ⟨by rw [hq]; exact List.mem_cons_self, by simp⟩
      refine .inr ⟨⟨p, e, here, ?_⟩, fun q => ?_⟩
      · rw [he]
        split
        · next hm =>
          rw [hm, enterTold_door, takeHead_door]
          exact enter_opening_granted ..
        · next hm =>
          rw [hm, ← takeHead_door (p := p) rest]
          exact enterClosing_granted
      · have alone := single p e here q
        rw [State.entries, queue]
        split
        · next h =>
          subst h
          rw [State.entries, hq, if_pos rfl] at alone
          simpa using alone
        · next h => rw [if_neg h] at alone; exact alone
    · refine .inl ⟨?_, fun q => ?_⟩
      · rw [he]
        split
        · rw [enterTold_unit _ _ _ _ hk, takeHead_unit]
        · rw [enterClosing_unit _ _ hk, takeHead_unit]
      · rw [State.entries, State.entries, queue]
        split
        · next h => subst h; rw [hq]; simp [Ne.symm hk]
        · rfl

theorem evalGrants_serves : Serves f k s (s.evalGrants f p) :=
  grantOnce_serves.trans (grantOnce_serves.trans (grantOnce_serves.trans grantOnce_serves))

theorem evalIfHead_serves : Serves f k s (s.evalIfHead f p j) := by
  unfold State.evalIfHead
  split
  · exact evalGrants_serves
  · exact .refl

/-! ### The operations on one door unit -/

theorem placeEntry_serves (m : Motion) (c : ReqClass) (hk : k ≠ j) : Serves f k s (s.placeEntry f j m c) :=
  (mapGroup_stays fun _ => filter_joinQueue hk.symm _).serves.trans evalIfHead_serves

theorem openEntry_serves (hk : k ≠ j) : Serves f k s (s.openEntry f j) :=
  (mapDoor_stays _ hk).serves.trans (placeEntry_serves _ _ hk)

theorem closeEntry_serves (hk : k ≠ j) : Serves f k s (s.closeEntry f j) :=
  (mapSense_stays _ hk).serves.trans (placeEntry_serves _ _ hk)

theorem enterUnlatched_serves (hk : k ≠ j) : Serves f k s (s.enterUnlatched f j) := by
  have told := (enterTold_stays (s := s) (f := f) .unlatched id hk).serves
  unfold State.enterUnlatched
  dsimp only
  split
  · exact told.trans (openEntry_serves hk)
  · exact told

theorem decideDeferral_serves (hk : k ≠ j) : Serves f k s (s.decideDeferral f j) := by
  unfold State.decideDeferral
  dsimp only
  split
  · exact closeEntry_serves hk
  · exact (mapSense_stays _ hk).serves

theorem removeEntry_serves (hk : k ≠ j) : Serves f k s (s.removeEntry f j) := by
  have filtered : Serves f k s (s.mapGroup f (s.groupOf f j) (fun x => { x with queue := x.queue.filter (fun e => e.door ≠ j) })) := by
    refine (mapGroup_stays fun x => ?_).serves
    rw [List.filter_filter]
    refine List.filter_congr fun e _ => ?_
    by_cases h : e.door = k
    · simp [h, hk]
    · simp [h]
  unfold State.removeEntry
  dsimp only
  split
  · exact filtered.trans evalGrants_serves
  · exact filtered

theorem enter_serves (st : DoorState) (edit : DoorRec → DoorRec) (hk : k ≠ j) : Serves f k s (s.enter f j st edit) := by
  have first : Serves f k s ((s.enterTold f j st edit).removeEntry f j) :=
    (enterTold_stays st edit hk).serves.trans (removeEntry_serves hk)
  cases st
  case unlatching =>
    rw [State.enter]
    split
    · exact first
    · exact first.trans (enterUnlatched_serves hk)
  case closeWait => exact first.trans (decideDeferral_serves hk)
  all_goals exact first

theorem raiseEntry_serves (hk : k ≠ j) : Serves f k s (s.raiseEntry f j) := by
  unfold State.raiseEntry
  dsimp only
  split
  · exact .refl
  · next e he =>
    have door : e.door = j := by
      have := List.find?_some he
      simp only [Bool.and_eq_true, decide_eq_true_eq] at this
      exact this.1.1
    refine (mapGroup_stays fun x => ?_).serves.trans evalIfHead_serves
    rw [filter_joinQueue (by show e.door ≠ k; rw [door]; exact hk.symm), List.filter_filter]
    refine List.filter_congr fun e _ => ?_
    by_cases h : e.door = k
    · simp [h, hk]
    · simp [h]

theorem takeOpen_serves (c : ReqClass) (hk : k ≠ j) : Serves f k s (s.takeOpen f j c).1 := by
  unfold State.takeOpen
  split
  case h_1 | h_2 | h_3 => exact .refl
  case h_4 | h_5 =>
    split
    · exact enter_serves _ _ hk
    · exact .refl
  case h_6 | h_7 | h_9 | h_14 => exact (mapDoor_stays _ hk).serves
  case h_8 =>
    dsimp only
    split
    · exact (mapDoor_stays _ hk).serves.trans (raiseEntry_serves hk)
    · exact (mapDoor_stays _ hk).serves
  case h_10 | h_11 | h_12 => exact enter_serves _ _ hk
  case h_13 => exact (enter_serves _ _ hk).trans recordStart_stays.serves

theorem takeClose_serves (hk : k ≠ j) : Serves f k s (s.takeClose f j).1 := by
  unfold State.takeClose
  split
  case h_4 | h_5 | h_7 | h_8 => exact enter_serves _ _ hk
  case h_6 => exact (mapDoor_stays _ hk).serves
  case h_9 =>
    dsimp only
    split
    · exact (mapDoor_stays _ hk).serves
    · exact .refl
  all_goals exact .refl

/-- A request of one door unit serves every other. -/
theorem request_serves (r : DoorRequest) (hk : k ≠ j) : Serves f k s (s.request f j r).1 := by
  unfold State.request
  split
  · exact .refl
  · split
    · exact .refl
    · cases r with
      | close =>
        dsimp only
        split
        · exact .refl
        · exact takeClose_serves hk
      | open_ => exact takeOpen_serves _ hk
      | emergencyOpen => exact takeOpen_serves _ hk

end Sys2Proof.Machine
end

section
namespace Sys2Proof.Machine

/-! SUPPORT. Requests to several door units in one event: what each makes of its door unit, and the grants between. -/

variable {s t u w : State} {f : Face} {j k : DoorIx} {p q : GroupIx} {c : ReqClass} {st : DoorState} {d e e' : DoorRec} {P P' : Prop}

/-- What the requests of other door units make of a record: nothing, or the grant of its entry. -/
def GrantedFrom (d e : DoorRec) : Prop :=
  e = d ∨ d.state = some .unlatched ∧ Granted .open_ d e ∨ d.state = some .closeWait ∧ Granted .close d e

theorem single_of_law (l : s.startQueueLaw f) : s.single f k := by
  intro p e he q
  have rules := startQueueLaw_iff.1 l
  obtain ⟨mem, door⟩ := List.mem_filter.1 he
  have door : e.door = k := by simpa using door
  obtain ⟨-, group, -⟩ := rules.entry p e mem
  rw [door] at group
  by_cases hq : q = p
  · subst hq
    rw [if_pos rfl]
    have nodup : ((s.entries f q k).map Entry.door).Nodup := List.Nodup.sublist (List.filter_sublist.map _) (rules.nodup q)
    have all : ∀ x ∈ s.entries f q k, x.door = k := fun x hx => by simpa using (List.mem_filter.1 hx).2
    match he' : s.entries f q k, he, nodup, all with
    | [x], he, _, _ => simpa using (List.mem_singleton.1 he).symm
    | x :: y :: rest, _, nodup, all =>
      have hx := all x (by simp)
      have hy := all y (by simp)
      simp [hx, hy] at nodup
  · rw [if_neg hq]
    refine List.filter_eq_nil_iff.2 fun x hx => ?_
    obtain ⟨-, other, -⟩ := rules.entry q x hx
    have : x.door ≠ k := fun h => hq (by rw [h] at other; exact other.symm.trans group)
    simpa using this

/-- Under the law of the Start Queues a grant is one of an OPEN in UNLATCHED or of a CLOSE in CLOSE_WAIT. -/
theorem Serves.granted (h : Serves f k s t) (l : s.startQueueLaw f) : GrantedFrom (s.door f k) (t.door f k) := by
  rcases h (single_of_law l) with ⟨unit, -⟩ | ⟨⟨p, e, he, grant⟩, -⟩
  · exact .inl (congrArg Prod.fst unit)
  · obtain ⟨mem, door⟩ := List.mem_filter.1 he
    have door : e.door = k := by simpa using door
    obtain ⟨-, -, -, ⟨hm, hs, -⟩ | ⟨hm, hs, -⟩⟩ := (startQueueLaw_iff.1 l).entry p e mem <;> rw [hm] at grant <;> rw [door] at hs
    · exact .inr (.inl ⟨hs, grant⟩)
    · exact .inr (.inr ⟨hs, grant⟩)

/-- A door unit with no entry keeps its record and its sensing state. -/
theorem Serves.unit (h : Serves f k s t) (l : s.startQueueLaw f) (hu : (s.door f k).state ≠ some .unlatched)
    (hc : (s.door f k).state ≠ some .closeWait) : t.unit f k = s.unit f k := by
  rcases h (single_of_law l) with ⟨unit, -⟩ | ⟨⟨p, e, he, -⟩, -⟩
  · exact unit
  · obtain ⟨mem, door⟩ := List.mem_filter.1 he
    have rules := startQueueLaw_iff.1 l
    exact absurd (by simpa using door) (rules.free_any (rules.free_of_state (j := k) hu hc) p e mem)

/-! ### Grants before and after the request -/

theorem OpenedFrom.pre (g : GrantedFrom d e) (h : OpenedFrom c P e e') : OpenedFrom c P d e' := by
  rcases g with rfl | ⟨hd, hs, ha, hp, hr⟩ | ⟨hd, hp, ⟨hs, ha, hr⟩ | ⟨hs, ha, hr⟩⟩
  · exact h
  · simp only [OpenedFrom, hs] at h
    simp only [OpenedFrom, hd]
    subst h
    exact .inr ⟨rfl, by rw [hr], rfl, ha⟩
  · simp only [OpenedFrom, hs] at h
    simp only [OpenedFrom, hd]
    exact .inr h.1
  · simp only [OpenedFrom, hs, hr] at h
    simp only [OpenedFrom, hd]
    subst h
    exact .inr ⟨rfl, by simp, rfl⟩

/-- After an opening a door unit is in UNLATCHED only where it left LOCKED or LOCKING or was there, and it is not in CLOSE_WAIT. -/
theorem OpenedFrom.state (h : OpenedFrom c P d e) : e.state ≠ some .closeWait ∧ (e.state = some .unlatched →
    d.state = some .unlatched ∨ d.state = some .locked ∨ d.state = some .locking) := by
  unfold OpenedFrom at h
  dsimp only at h
  by_cases hP : P <;> split at h <;> grind

theorem OpenedFrom.post (h : OpenedFrom c P d e) (g : GrantedFrom e e') : OpenedFrom c P d e' := by
  obtain ⟨away, from_⟩ := h.state
  rcases g with rfl | ⟨he, hs, ha, hp, hr⟩ | ⟨he, -⟩
  · exact h
  · have starts : (P → (e.state = some .unlatching ∨ e.state = some .unlatched ∨ e.state = some .opening)
        ∧ e.reqClass = some c ∧ e.pendingClose = false ∧ e.attempts = d.attempts) → d.state ≠ some .unlatched → (¬P → e = d) →
        (P → (e'.state = some .unlatching ∨ e'.state = some .unlatched ∨ e'.state = some .opening)
        ∧ e'.reqClass = some c ∧ e'.pendingClose = false ∧ e'.attempts = d.attempts) ∧ (¬P → e' = d) := fun h1 hd h2 =>
      ⟨fun p => by
        obtain ⟨-, cls, pending, attempts⟩ := h1 p
        exact ⟨.inr (.inr hs), hr.trans cls, hp.trans pending, ha.trans attempts⟩,
        fun np => absurd (h2 np ▸ he) hd⟩
    rcases from_ he with hd | hd | hd <;> simp only [OpenedFrom, hd] at h ⊢
    · rcases h with rfl | ⟨h, -⟩
      · exact .inr ⟨hs, hr, hp, ha⟩
      · rw [he] at h
        cases h
    · exact starts h.1 (by simp [hd]) h.2
    · exact starts h.1 (by simp [hd]) h.2
  · exact absurd he away

/-- An opening asked again changes nothing more (R17, R18). -/
theorem OpenedFrom.again (h : OpenedFrom c P d e) (h' : OpenedFrom c P e e') : OpenedFrom c P d e' := by
  unfold OpenedFrom at h
  dsimp only at h
  split at h <;> rename_i hd
  case h_1 | h_2 | h_3 => exact h ▸ h'
  case h_4 | h_5 =>
    by_cases hp : P
    · obtain ⟨he, hr, hpend, ha⟩ := h.1 hp
      simp only [OpenedFrom, hd]
      refine ⟨fun _ => ?_, fun np => absurd hp np⟩
      rcases he with he | he | he <;> simp only [OpenedFrom, he] at h' <;> grind
    · rw [h.2 hp] at h'
      exact h'
  all_goals
    simp only [OpenedFrom, hd]
    unfold OpenedFrom at h'
    grind

theorem ClosedFrom.pre (g : GrantedFrom d e) (h : ClosedFrom e e') : ClosedFrom d e' := by
  rcases g with rfl | ⟨hd, hs, ha, hp, hr⟩ | ⟨hd, hp, ⟨hs, ha, hr⟩ | ⟨hs, ha, hr⟩⟩
  · exact h
  · simp only [ClosedFrom, hs] at h
    simp only [ClosedFrom, hd]
    subst h
    exact .inr ⟨rfl, rfl, ha⟩
  · simp only [ClosedFrom, hs] at h
    simp only [ClosedFrom, hd]
    subst h
    exact .inr (.inl ⟨by simpa using hs, ha⟩)
  · simp only [ClosedFrom, hs, hr] at h
    simp only [ClosedFrom, hd]
    subst h
    exact .inr (.inr ⟨by simpa using hs, ha⟩)

/-- After a close a door unit is not in UNLATCHED, and in CLOSE_WAIT only where it stood open, was obstructed or was there. -/
theorem ClosedFrom.state (h : ClosedFrom d e) : e.state ≠ some .unlatched ∧ (e.state = some .closeWait →
    d.state = some .standOpen ∨ d.state = some .obstructed ∨ d.state = some .closeWait ∧ e = d) := by
  unfold ClosedFrom at h
  dsimp only at h
  split at h <;> grind

theorem ClosedFrom.post (h : ClosedFrom d e) (g : GrantedFrom e e') : ClosedFrom d e' := by
  obtain ⟨away, from_⟩ := h.state
  rcases g with rfl | ⟨he, -⟩ | ⟨he, hp, hg⟩
  · exact h
  · exact absurd he away
  · have waits : ∀ n : Nat, (e.pendingClose = false ∧ e.reqClass = none
        ∧ ((e.state = some .closeWait ∨ e.state = some .closing) ∧ e.attempts = n ∨ e.state = some .reversing ∧ e.attempts = n + 1)) →
        e'.pendingClose = false ∧ e'.reqClass = none
        ∧ ((e'.state = some .closeWait ∨ e'.state = some .closing) ∧ e'.attempts = n
          ∨ e'.state = some .reversing ∧ e'.attempts = n + 1) := by
      rintro n ⟨pending, cls, ⟨-, attempts⟩ | ⟨h, -⟩⟩
      · rcases hg with ⟨hs, ha, hr⟩ | ⟨hs, ha, hr⟩
        · exact ⟨hp.trans pending, hr.trans cls, .inl ⟨.inr hs, ha.trans attempts⟩⟩
        · exact ⟨hp.trans pending, hr, .inr ⟨hs, by rw [ha, attempts]⟩⟩
      · rw [he] at h
        cases h
    rcases from_ he with hd | hd | ⟨hd, rfl⟩ <;> simp only [ClosedFrom, hd] at h ⊢
    · exact waits _ h
    · exact waits _ h
    · rcases hg with ⟨hs, ha, -⟩ | ⟨hs, ha, -⟩
      · exact .inr (.inl ⟨hs, ha⟩)
      · exact .inr (.inr ⟨hs, ha⟩)

/-- A record that a CLOSE leaves as it is (R17). -/
structure DoorRec.Shut (d : DoorRec) : Prop where
  state : d.state ≠ some .unlatching ∧ d.state ≠ some .unlatched ∧ d.state ≠ some .standOpen ∧ d.state ≠ some .obstructed
  pending : d.state = some .opening ∨ d.state = some .reversing ∧ d.reqClass ≠ none → d.pendingClose = true

theorem ClosedFrom.shut (h : ClosedFrom d e) (hd : d.state ≠ some .closeWait) : e.Shut := by
  unfold ClosedFrom at h
  dsimp only at h
  split at h <;> constructor <;> grind

theorem GrantedFrom.shut (g : GrantedFrom d e) (h : d.Shut) : e.Shut := by
  obtain ⟨⟨-, hu, -⟩, -⟩ := id h
  rcases g with rfl | ⟨hd, -⟩ | ⟨-, -, ⟨hs, -, -⟩ | ⟨hs, -, hr⟩⟩
  · exact h
  · exact absurd hd hu
  · constructor <;> simp [hs]
  · constructor <;> simp [hs, hr]

theorem GrantedFrom.trans (g : GrantedFrom d e) (g' : GrantedFrom e e') : GrantedFrom d e' := by
  have settled : e.state ≠ some .unlatched → e.state ≠ some .closeWait → e' = e := fun h1 h2 => by
    rcases g' with h | ⟨h, -⟩ | ⟨h, -⟩
    exacts [h, absurd h h1, absurd h h2]
  rcases g with rfl | ⟨hd, hg⟩ | ⟨hd, hp, hg⟩
  · exact g'
  · rw [settled (by simp [hg.1]) (by simp [hg.1])]
    exact .inr (.inl ⟨hd, hg⟩)
  · rw [settled (by rcases hg with h | h <;> simp [h.1]) (by rcases hg with h | h <;> simp [h.1])]
    exact .inr (.inr ⟨hd, hp, hg⟩)

/-! ### The request itself -/

/-- A start toward open ends in UNLATCHING, UNLATCHED or OPENING with the class of its request. -/
theorem startsOpening_starts (h : s.startsOpening f j c t) :
    ((t.door f j).state = some .unlatching ∨ (t.door f j).state = some .unlatched ∨ (t.door f j).state = some .opening) ∧
      (t.door f j).reqClass = some c ∧ (t.door f j).pendingClose = false ∧ (t.door f j).attempts = (s.door f j).attempts := by
  obtain ⟨engaged, withdrawn⟩ := h
  cases hl : (s.input f j).lockEngaged
  · obtain ⟨settles, waits, granted⟩ := withdrawn hl
    by_cases hs : (s.par f).unlatchSettle = 0
    · by_cases hg : (joinQueue ⟨j, .open_, c, s.msClock⟩ (s.group f (s.groupOf f j)).queue).head? = some ⟨j, .open_, c, s.msClock⟩ ∧
          (s.group f (s.groupOf f j)).mayGrant = true
      · rw [(granted hs hg.1 hg.2).1]; simp
      · rw [(waits hs hg).1]; simp
    · rw [(settles hs).1]; simp
  · rw [(engaged hl).1]; simp

/-- A request for a door unit that opens in the class (R16). -/
theorem request_openedFrom (c : ReqClass) (l : s.startQueueLaw f) (hi : s.isolated f j = false) :
    OpenedFrom c (s.mayLeaveLocked f j) (s.door f j) ((s.request f j c.request).1.door f j) := by
  obtain ⟨absent, -, -, out, opens, -⟩ := doorRequestsAreDecidedByTheTable f j s l
  have kind : c.request = .open_ ∧ c = .normal ∨ c.request = .emergencyOpen ∧ c = .emergency := by cases c <;> simp [ReqClass.request]
  obtain ⟨refused, starts, onWay, unlatched, raised, standOpen, waiting, closing, reversing⟩ := opens c.request c hi kind
  have notClose : c.request ≠ .close := by cases c <;> simp [ReqClass.request]
  have recorded : ∀ {d : DoorRec}, s.request f j c.request = (s.mapDoor f j (fun _ => d), .accept) →
      (s.request f j c.request).1.door f j = d := fun h => by rw [h, mapDoor_door]
  unfold OpenedFrom
  dsimp only
  split
  case h_1 h => rw [absent _ h]
  case h_2 h => rw [out _ (.inl h) hi (.inl notClose)]
  case h_3 h => rw [out _ (.inr h) hi (.inl notClose)]
  case h_4 | h_5 h =>
    have shut : (s.door f j).state = some .locked ∨ (s.door f j).state = some .locking := by simp_all
    refine ⟨fun hp => ?_, fun hp => by rw [refused shut hp]⟩
    obtain ⟨t, ht, -, opened⟩ := starts shut hp
    rw [ht]
    exact startsOpening_starts opened
  case h_6 h => exact recorded (onWay (.inl h))
  case h_7 h => exact recorded (onWay (.inr h))
  case h_8 h =>
    by_cases he : c = .emergency → ∀ e ∈ (s.group f (s.groupOf f j)).queue, e.door = j → e.cls = .emergency
    · exact .inl (recorded (unlatched h he))
    · push Not at he
      obtain ⟨hc, e, he, hj, hn⟩ := he
      have normal : e.cls = .normal := by cases hcls : e.cls <;> simp_all
      obtain ⟨waits, granted⟩ := raised e he h hc hj normal
      by_cases hg : (joinQueue { e with cls := .emergency } ((s.group f (s.groupOf f j)).queue.filter (fun y => y.door ≠ j))).head? =
          some { e with cls := .emergency } ∧ (s.group f (s.groupOf f j)).mayGrant = true
      · obtain ⟨t, ht, -, -, door⟩ := granted hg.1 hg.2
        rw [ht, door]
        exact .inr ⟨rfl, by simp [hc], rfl, rfl⟩
      · rw [waits hg]
        exact .inl ((congrArg Prod.fst (mapGroup_unit ..)).trans (mapDoor_door ..))
  case h_9 h => exact recorded (standOpen h)
  case h_10 h =>
    obtain ⟨t, ht, -, -, -, door⟩ := waiting (.inl h)
    rw [ht, door]
    exact .inl ⟨rfl, rfl, rfl, rfl⟩
  case h_11 | h_12 h =>
    have waits : (s.door f j).state = some .recloseHold ∨ (s.door f j).state = some .obstructed := by simp_all
    obtain ⟨t, ht, -, -, -, door⟩ := waiting (.inr waits)
    rw [ht, door]
    exact ⟨rfl, rfl, rfl, rfl⟩
  case h_13 h =>
    obtain ⟨t, ht, -, -, door, -⟩ := closing h
    rw [ht, door]
    exact ⟨⟨rfl, rfl, rfl⟩, rfl⟩
  case h_14 h => exact recorded (reversing h)

/-- A placed CLOSE entry leaves a door unit in CLOSE_WAIT or grants it. -/
theorem closePlaced_waits {r : DoorRec} (h : s.closePlaced f j r t) (hs : r.state = some .closeWait) (hp : r.pendingClose = false)
    (hr : r.reqClass = none) : (t.door f j).pendingClose = false ∧ (t.door f j).reqClass = none ∧
      (((t.door f j).state = some .closeWait ∨ (t.door f j).state = some .closing) ∧ (t.door f j).attempts = r.attempts
        ∨ (t.door f j).state = some .reversing ∧ (t.door f j).attempts = r.attempts + 1) := by
  obtain ⟨-, waits, closes, reverses⟩ := h
  by_cases grants : (s.group f (s.groupOf f j)).queue = [] ∧ (s.group f (s.groupOf f j)).mayGrant = true
  · cases he : (s.input f j).edge
    · rw [(closes grants he).2]; exact ⟨hp, hr, .inl ⟨.inr rfl, rfl⟩⟩
    · rw [(reverses grants he).2]; exact ⟨hp, rfl, .inr ⟨rfl, rfl⟩⟩
  · rw [(waits grants).1]; exact ⟨hp, hr, .inl ⟨.inl hs, rfl⟩⟩

theorem entersCloseWait_waits {n : Nat} (h : s.entersCloseWait f j n t) : (t.door f j).pendingClose = false ∧
    (t.door f j).reqClass = none ∧ (((t.door f j).state = some .closeWait ∨ (t.door f j).state = some .closing) ∧
      (t.door f j).attempts = n ∨ (t.door f j).state = some .reversing ∧ (t.door f j).attempts = n + 1) := by
  obtain ⟨defers, places⟩ := h
  by_cases hd : (s.par f).doorwayDeferLimit ≠ 0 ∧ ((s.input f j).dwa = true ∨ (s.input f j).dwb = true)
  · rw [(defers hd).1]; exact ⟨rfl, rfl, .inl ⟨.inl rfl, rfl⟩⟩
  · exact closePlaced_waits (places hd) rfl rfl rfl

/-- A CLOSE for a door unit with the emergency latch clear (R16, R17). -/
theorem request_closedFrom (l : s.startQueueLaw f) (hi : s.isolated f j = false) (hl : (s.face f).mode.latch = false) :
    ClosedFrom (s.door f j) ((s.request f j .close).1.door f j) := by
  obtain ⟨absent, -, -, out, -, closes⟩ := doorRequestsAreDecidedByTheTable f j s l
  obtain ⟨shut, unlocked, onWay, standOpen, obstructed⟩ := closes hi hl
  have recorded : ∀ {d : DoorRec}, s.request f j .close = (s.mapDoor f j (fun _ => d), .accept) →
      (s.request f j .close).1.door f j = d := fun h => by rw [h, mapDoor_door]
  have locks : (s.door f j).state = some .unlatching ∨ (s.door f j).state = some .unlatched →
      ((s.request f j .close).1.door f j).state = some .locking ∧ ((s.request f j .close).1.door f j).attempts = (s.door f j).attempts
      ∧ ((s.request f j .close).1.door f j).pendingClose = false ∧ ((s.request f j .close).1.door f j).reqClass = none := fun h => by
    obtain ⟨t, ht, -, -, door⟩ := unlocked h
    rw [ht, door]
    exact ⟨rfl, rfl, rfl, rfl⟩
  unfold ClosedFrom
  dsimp only
  split
  case h_1 h => rw [absent _ h]
  case h_2 h => rw [shut (.inl h)]
  case h_3 h => rw [shut (.inr (.inr (.inl h)))]
  case h_4 h => rw [shut (.inr (.inr (.inr (.inl h))))]
  case h_5 h => rw [shut (.inr (.inr (.inr (.inr (.inl h)))))]
  case h_6 h => rw [out _ (.inl h) hi (.inr hl)]
  case h_7 h => rw [out _ (.inr h) hi (.inr hl)]
  case h_8 h => exact locks (.inl h)
  case h_9 h => exact .inl (locks (.inr h))
  case h_10 h => exact recorded (onWay (.inl h))
  case h_11 h =>
    obtain ⟨t, ht, -, waits⟩ := standOpen h
    rw [ht]
    exact entersCloseWait_waits waits
  case h_12 h =>
    obtain ⟨t, ht, -, waits⟩ := obstructed h
    rw [ht]
    exact entersCloseWait_waits waits
  case h_13 h => exact .inl (by rw [shut (.inr (.inl h))])
  case h_14 h =>
    by_cases hr : (s.door f j).reqClass = none
    · rw [if_pos hr, shut (.inr (.inr (.inr (.inr (.inr ⟨h, hr⟩)))))]
    · rw [if_neg hr]
      exact recorded (onWay (.inr ⟨h, hr⟩))

/-! ### Requests to several door units -/

theorem mayLeaveLocked_of_side (h : t.side f = s.side f) : t.mayLeaveLocked f j ↔ s.mayLeaveLocked f j := by
  simp only [State.mayLeaveLocked, mode_of_side h, map_of_side h, berth_of_side h]

theorem law_request (r : DoorRequest) (l : s.startQueueLaw f) : (s.request f j r).1.startQueueLaw f := by
  rw [startQueueLaw_iff] at l ⊢
  exact l.path (request_leads r l)

theorem requestEach_serves (r : DoorRequest) (js : List DoorIx) (hk : k ∉ js) : Serves f k s (s.requestEach f js r) := by
  induction js generalizing s with
  | nil => exact .refl
  | cons j js ih =>
    simp only [List.mem_cons, not_or] at hk
    exact (request_serves r hk.1).trans (ih hk.2)

/-- An OPEN for each of several door units makes of each what the table says, with the grants between (R16 to R18). -/
theorem requestEach_openedFrom (c : ReqClass) (js : List DoorIx) (l : s.startQueueLaw f) (hk : k ∈ js)
    (hi : s.isolated f k = false) :
    OpenedFrom c (s.mayLeaveLocked f k) (s.door f k) ((s.requestEach f js c.request).door f k) := by
  induction js generalizing s with
  | nil => cases hk
  | cons j js ih =>
    have law := law_request (j := j) c.request l
    have isolated : (s.request f j c.request).1.isolated f k = false := by rw [isolated_of (s := s) (request_config ..)]; exact hi
    have permission : (s.request f j c.request).1.mayLeaveLocked f k = s.mayLeaveLocked f k :=
      propext (mayLeaveLocked_of_side (by simp))
    by_cases e : k = j
    · subst e
      have asked := request_openedFrom c l hi
      by_cases hj : k ∈ js
      · have rest := ih law hj isolated
        rw [permission] at rest
        exact asked.again rest
      · exact asked.post ((requestEach_serves c.request js hj).granted law)
    · have rest := ih law ((List.mem_cons.1 hk).resolve_left e) isolated
      rw [permission] at rest
      exact rest.pre ((request_serves c.request e).granted l)

/-- A CLOSE leaves a door unit shut. -/
theorem request_close_shuts (l : s.startQueueLaw f) (hi : s.isolated f j = false) (hl : (s.face f).mode.latch = false) :
    ((s.request f j .close).1.door f j).Shut := by
  by_cases hd : (s.door f j).state = some .closeWait
  · have kept : (s.request f j .close).1 = s := by rw [request_close hi hl hd, takeClose_shut (.inr (.inl hd))]
    rw [kept]
    constructor <;> simp [hd]
  · exact (request_closedFrom l hi hl).shut hd

/-- A CLOSE leaves a shut door unit as it is. -/
theorem request_close_shut (hl : (s.face f).mode.latch = false) (h : (s.door f j).Shut) :
    (s.request f j .close).1.door f j = s.door f j := by
  obtain ⟨⟨h1, h2, h3, h4⟩, hp⟩ := h
  simp only [State.request, hl, Bool.false_eq_true, if_false]
  split
  · rfl
  · split
    · rfl
    · have pending : (s.door f j).pendingClose = true → (s.mapDoor f j (fun d => { d with pendingClose := true })).door f j =
          s.door f j := fun h => by
        rw [mapDoor_door, ← h]
      unfold State.takeClose
      split
      case h_4 h | h_5 h | h_7 h | h_8 h => contradiction
      case h_6 h => exact pending (hp (.inl h))
      case h_9 h =>
        split
        · next hr => exact pending (hp (.inr ⟨h, Option.isSome_iff_ne_none.1 hr⟩))
        · rfl
      all_goals rfl

theorem requestEach_close_shut (js : List DoorIx) (l : s.startQueueLaw f) (hl : (s.face f).mode.latch = false)
    (h : (s.door f k).Shut) : GrantedFrom (s.door f k) ((s.requestEach f js .close).door f k) := by
  induction js generalizing s with
  | nil => exact .inl rfl
  | cons j js ih =>
    have latch : ((s.request f j .close).1.face f).mode.latch = false := (latch_of_side (request_side ..)).trans hl
    have granted : GrantedFrom (s.door f k) ((s.request f j .close).1.door f k) := by
      by_cases e : k = j
      · subst e; exact .inl (request_close_shut hl h)
      · exact (request_serves .close e).granted l
    exact granted.trans (ih (law_request (j := j) .close l) latch (granted.shut h))

/-- A CLOSE for each of several door units with the emergency latch clear (R16, R17). -/
theorem requestEach_closedFrom (js : List DoorIx) (l : s.startQueueLaw f) (hk : k ∈ js)
    (hi : s.isolated f k = false) (hl : (s.face f).mode.latch = false) :
    ClosedFrom (s.door f k) ((s.requestEach f js .close).door f k) := by
  induction js generalizing s with
  | nil => cases hk
  | cons j js ih =>
    have law := law_request (j := j) .close l
    have latch : ((s.request f j .close).1.face f).mode.latch = false := (latch_of_side (request_side ..)).trans hl
    by_cases e : k = j
    · subst e
      exact (request_closedFrom l hi hl).post (requestEach_close_shut js law latch (request_close_shuts l hi hl))
    · have rest := ih law ((List.mem_cons.1 hk).resolve_left e) (by rw [isolated_of (s := s) (request_config ..)]; exact hi) latch
      exact rest.pre ((request_serves .close e).granted l)

theorem requestAll_eq (r : DoorRequest) (js : List DoorIx) (s : State) : (s.requestAll f r js).1 = s.requestEach f js r := by
  induction js generalizing s with
  | nil => rfl
  | cons j js ih => exact ih _

theorem mem_fitted : k ∈ s.fitted f ↔ s.isFitted f k = true := by simp [State.fitted]

/-- A CLOSE for every fitted door unit. -/
theorem closeAll_closesEach (l : s.startQueueLaw f) (hl : (s.face f).mode.latch = false) :
    s.closesEach f (fun _ => True) (s.closeAll f) := fun _ hf _ hi =>
  requestEach_closedFrom _ l (mem_fitted.2 hf) hi hl

/-- Under the emergency latch a CLOSE is refused (R117). -/
theorem requestEach_close_latched (hl : (s.face f).mode.latch = true) (js : List DoorIx) : s.requestEach f js .close = s := by
  induction js with
  | nil => rfl
  | cons j js ih =>
    have refused : (s.request f j .close).1 = s := by
      simp only [State.request, hl, if_true]
      (repeat' split) <;> rfl
    exact (congrArg (fun x => State.requestEach f js .close x) refused).trans ih

theorem closeAll_latched (hl : (s.face f).mode.latch = true) : s.closeAll f = s := requestEach_close_latched hl _

end Sys2Proof.Machine
end

section
namespace Sys2Proof.Machine

/-! SUPPORT. What the operations on door units leave of the counts of the doorways, and that they keep CLP computed. -/

variable {s t u w : State} {f : Face} {j k : DoorIx} {p q : GroupIx} {c : ReqClass} {st : DoorState}

/-! ### Counts (R44) -/

/-- The counts of a door unit. -/
def State.counts (s : State) (f : Face) (k : DoorIx) : Nat × Nat := ((s.sense f k).boarding, (s.sense f k).alighting)

theorem counts_of_sense (h : (t.face f).sense = (s.face f).sense) : t.counts f k = s.counts f k := by
  simp only [State.counts, State.sense, h]

theorem counts_of_unit (h : t.unit f k = s.unit f k) : t.counts f k = s.counts f k :=
  congrArg (fun u : DoorRec × DoorSense => (u.2.boarding, u.2.alighting)) h

theorem mapSense_counts {h : DoorSense → DoorSense} (e : ∀ d, ((h d).boarding, (h d).alighting) = (d.boarding, d.alighting)) :
    (s.mapSense f j h).counts f k = s.counts f k := by
  by_cases hk : k = j
  · subst hk; simp only [State.counts, mapSense_sense, e]
  · simp only [State.counts, mapSense_sense_other _ _ _ _ hk]

theorem recomputeClp_counts (o : Option DoorIx) : (s.recomputeClp f o).counts f k = s.counts f k :=
  counts_of_unit (recomputeClp_unit ..)

theorem reportGap_counts (c : ReportClass) (e x : Byte) (d : Option Nat) (i : Option (Fin 64)) :
    (s.reportGap c f j e x d i).counts f k = s.counts f k := counts_of_sense (by simp [State.reportGap])

theorem putZone_counts (z : Zone) : (s.putZone f j z).counts f k = s.counts f k := mapSense_counts fun _ => rfl

theorem onset_counts : (s.onset f j).counts f k = s.counts f k := by
  rw [State.onset, mapSense_counts (by intro; rfl)]
  simp only [State.counts, State.sense, mapFace_face, Fin.getElem_fin, Vector.getElem_map, DoorSense.dropSlot]
  split <;> (try split) <;> rfl

theorem occupyZone_counts : (s.occupyZone f j).counts f k = s.counts f k := by
  unfold State.occupyZone
  dsimp only
  rw [recomputeClp_counts, reportGap_counts, putZone_counts]
  split
  · exact onset_counts
  · exact onset_counts
  all_goals rfl

theorem completeRecord_counts (e : Episode) (o : EpisodeOutcome) : (s.completeRecord f e o).counts f k = s.counts f k :=
  counts_of_unit (completeRecord_unit ..)

theorem leaveZone_counts (z : Zone) (o : EpisodeOutcome) : (s.leaveZone f j z o).counts f k = s.counts f k := by
  unfold State.leaveZone
  dsimp only
  rw [recomputeClp_counts]
  split
  · exact putZone_counts z
  · rw [reportGap_counts, mapSense_counts (by intro; rfl), putZone_counts, completeRecord_counts]

theorem senseZone_counts (st : DoorState) : (s.senseZone f j st).counts f k = s.counts f k := by
  cases st <;> simp only [State.senseZone]
  case opening | reversing =>
    unfold State.disarmZone
    split
    · rfl
    · exact leaveZone_counts _ _
  case closing =>
    unfold State.armZone
    split
    · split
      · exact occupyZone_counts
      · rw [recomputeClp_counts, putZone_counts]
    · rfl

theorem senseTracker_counts (old : Option DoorState) (st : DoorState) :
    (s.senseTracker f j old st).counts f k = s.counts f k := by
  unfold State.senseTracker
  (repeat' split)
  · rfl
  · exact mapSense_counts fun _ => rfl
  · exact mapSense_counts fun _ => rfl

theorem enterTold_counts (st : DoorState) (edit : DoorRec → DoorRec) : (s.enterTold f j st edit).counts f k = s.counts f k := by
  rw [State.enterTold, counts_of_unit (tell_unit ..), recomputeClp_counts, State.enterState, senseZone_counts, State.senseDeferral,
    mapSense_counts (by intro; rfl), senseTracker_counts]
  have entered : (s.mapDoor f j (fun d => (edit d).enter st s.msClock (s.par f))).counts f k = s.counts f k :=
    counts_of_sense (mapDoor_face_sense ..)
  split
  · exact (counts_of_unit (report_unit ..)).trans entered
  · exact entered

/-! ### CLP (R119, R120) -/

/-- CLP of a face is what the law of R119 gives, once the first complete scan is taken. -/
def State.clpTrue (f : Face) (s : State) : Prop := s.scanDone = true → (s.face f).clp = s.computeClp f

theorem computeClp_of (hf : t.fitted f = s.fitted f) (hi : t.configInvalid = s.configInvalid)
    (hd : ∀ k, (t.door f k).state = (s.door f k).state) (hz : ∀ k, (t.sense f k).zone = (s.sense f k).zone)
    (hl : (t.face f).mode.latch = (s.face f).mode.latch) (hb : (t.berth f).state = (s.berth f).state) :
    t.computeClp f = s.computeClp f := by
  have hb : (t.face f).berth.state = (s.face f).berth.state := hb
  have locked : t.notLockedCount f = s.notLockedCount f := by
    simp only [State.notLockedCount, hf]
    exact List.countP_congr fun k _ => by simp [hd]
  have zones : t.zoneCount f = s.zoneCount f := by simp only [State.zoneCount, hf, hz]
  simp only [State.computeClp, locked, zones, hi, hl, hb]

/-- A recomputation makes CLP what the law gives. -/
theorem recomputeClp_true (o : Option DoorIx) : (s.recomputeClp f o).clpTrue f := by
  intro hs
  have same : (s.recomputeClp f o).computeClp f = s.computeClp f :=
    computeClp_of (fitted_of (recomputeClp_config ..) f) (outside_eq_of State.configInvalid (fun _ => rfl) (recomputeClp_outside ..))
      (fun k => by simp [State.door]) (fun k => zone_of_unit (recomputeClp_unit ..)) (latch_of_side (recomputeClp_side ..))
      (congrArg Berth.state (berth_of_side (recomputeClp_side ..)))
  rw [same]
  have hs : s.scanDone = true := by simpa using hs
  unfold State.recomputeClp
  rw [if_pos hs]
  dsimp only
  split
  · rw [mapFace_face]
  · rw [tell_face, report_face, mapFace_face]

/-! ### Operations on the door units -/

/-- From `s` to `t` the counts stay, and CLP stays what the law gives. -/
structure Tended (f : Face) (s t : State) : Prop where
  counts : ∀ k, t.counts f k = s.counts f k
  clp : s.clpTrue f → t.clpTrue f

theorem Tended.refl : Tended f s s := ⟨fun _ => rfl, id⟩

theorem Tended.trans (h : Tended f s t) (h' : Tended f t u) : Tended f s u :=
  ⟨fun k => (h'.counts k).trans (h.counts k), fun c => h'.clp (h.clp c)⟩

/-- A step that leaves the states, the zones and CLP. -/
theorem tended_of (ho : t.outside f = s.outside f) (hs : t.side f = s.side f) (hc : (t.face f).clp = (s.face f).clp)
    (hd : ∀ k, (t.door f k).state = (s.door f k).state) (hz : ∀ k, (t.sense f k).zone = (s.sense f k).zone)
    (hn : ∀ k, t.counts f k = s.counts f k) : Tended f s t := by
  refine ⟨hn, fun h scanned => ?_⟩
  have scan : t.scanDone = s.scanDone := outside_eq_of State.scanDone (fun _ => rfl) ho
  rw [hc, h (scan ▸ scanned)]
  exact (computeClp_of (fitted_of (outside_eq_of State.config (fun _ => rfl) ho) f)
    (outside_eq_of State.configInvalid (fun _ => rfl) ho) hd hz (latch_of_side hs) (congrArg Berth.state (berth_of_side hs))).symm

theorem mapDoor_tended {h : DoorRec → DoorRec} (e : ∀ d, (h d).state = d.state) : Tended f s (s.mapDoor f j h) := by
  refine tended_of (by simp) (by simp) (by simp) (fun k => ?_) (fun k => by simp [State.sense]) fun k => counts_of_sense (by simp)
  by_cases hk : k = j
  · subst hk; rw [mapDoor_door, e]
  · rw [mapDoor_door_other _ _ _ _ hk]

theorem mapSense_tended {h : DoorSense → DoorSense} (e : ∀ d, (h d).zone = d.zone)
    (n : ∀ d, ((h d).boarding, (h d).alighting) = (d.boarding, d.alighting)) : Tended f s (s.mapSense f j h) :=
  tended_of (by simp) (by simp) (by simp) (fun k => by simp [State.door]) (fun k => mapSense_zone e) fun k => mapSense_counts n

theorem mapGroup_tended (h : Group → Group) : Tended f s (s.mapGroup f p h) :=
  tended_of (by simp) (by simp) (by simp) (fun k => by simp [State.door]) (fun k => by simp [State.sense])
    fun k => counts_of_unit (mapGroup_unit ..)

/-- The entry to a state ends with CLP computed (R120). -/
theorem enterTold_tended (st : DoorState) (edit : DoorRec → DoorRec) : Tended f s (s.enterTold f j st edit) := by
  refine ⟨fun k => enterTold_counts st edit, fun _ => ?_⟩
  have told : Tended f ((s.enterState f j st edit).recomputeClp f (some j)) (s.enterTold f j st edit) :=
    tended_of (tell_outside _ f _ rfl) (by simp [State.enterTold]) (by simp [State.enterTold])
      (fun k => by simp [State.enterTold, State.door])
      (fun k => zone_of_unit (tell_unit ..)) fun k => counts_of_unit (tell_unit ..)
  exact told.clp (recomputeClp_true _)

theorem recordStart_tended : Tended f s (s.recordStart f p) := mapGroup_tended _

theorem obstruct_tended : Tended f s (s.obstruct f j) := by
  unfold State.obstruct
  split
  · exact (enterTold_tended _ _).trans recordStart_tended
  · exact .refl

theorem enterClosing_tended : Tended f s (s.enterClosing f j) := by
  unfold State.enterClosing
  dsimp only
  split
  · exact (enterTold_tended _ _).trans obstruct_tended
  · exact enterTold_tended _ _

theorem takeHead_tended (rest : List Entry) : Tended f s (s.takeHead f p rest) :=
  (mapGroup_tended _).trans (recordStart_tended.trans (mapGroup_tended _))

theorem grantOnce_tended : Tended f s (s.grantOnce f p) := by
  rcases grantOnce_cases (s := s) (f := f) p with he | ⟨e, rest, -, -, he⟩ <;> rw [he]
  · exact .refl
  · split
    · exact (takeHead_tended rest).trans (enterTold_tended _ _)
    · exact (takeHead_tended rest).trans enterClosing_tended

theorem evalGrants_tended : Tended f s (s.evalGrants f p) :=
  grantOnce_tended.trans (grantOnce_tended.trans (grantOnce_tended.trans grantOnce_tended))

theorem evalIfHead_tended : Tended f s (s.evalIfHead f p j) := by
  unfold State.evalIfHead
  split
  · exact evalGrants_tended
  · exact .refl

theorem placeEntry_tended (m : Motion) (c : ReqClass) : Tended f s (s.placeEntry f j m c) :=
  (mapGroup_tended _).trans evalIfHead_tended

theorem openEntry_tended : Tended f s (s.openEntry f j) := (mapDoor_tended (by intro; rfl)).trans (placeEntry_tended _ _)

theorem closeEntry_tended : Tended f s (s.closeEntry f j) :=
  (mapSense_tended (by intro; rfl) (by intro; rfl)).trans (placeEntry_tended _ _)

theorem enterUnlatched_tended : Tended f s (s.enterUnlatched f j) := by
  unfold State.enterUnlatched
  dsimp only
  split
  · exact (enterTold_tended _ _).trans openEntry_tended
  · exact enterTold_tended _ _

theorem decideDeferral_tended : Tended f s (s.decideDeferral f j) := by
  unfold State.decideDeferral
  dsimp only
  split
  · exact closeEntry_tended
  · exact mapSense_tended (by intro; rfl) (by intro; rfl)

theorem removeEntry_tended : Tended f s (s.removeEntry f j) := by
  unfold State.removeEntry
  dsimp only
  split
  · exact (mapGroup_tended _).trans evalGrants_tended
  · exact mapGroup_tended _

theorem enter_tended (st : DoorState) (edit : DoorRec → DoorRec) : Tended f s (s.enter f j st edit) := by
  have first : Tended f s ((s.enterTold f j st edit).removeEntry f j) := (enterTold_tended st edit).trans removeEntry_tended
  cases st
  case unlatching =>
    rw [State.enter]
    split
    · exact first
    · exact first.trans enterUnlatched_tended
  case closeWait => exact first.trans decideDeferral_tended
  all_goals exact first

theorem raiseEntry_tended : Tended f s (s.raiseEntry f j) := by
  unfold State.raiseEntry
  dsimp only
  split
  · exact .refl
  · exact (mapGroup_tended _).trans evalIfHead_tended

theorem takeOpen_tended (c : ReqClass) : Tended f s (s.takeOpen f j c).1 := by
  unfold State.takeOpen
  split <;> try dsimp only
  case h_1 | h_2 | h_3 => exact .refl
  case h_4 | h_5 =>
    split
    · dsimp only
      exact enter_tended _ _
    · exact .refl
  case h_6 | h_7 | h_9 | h_14 => exact mapDoor_tended (by intro; rfl)
  case h_8 =>
    split
    · exact (mapDoor_tended (by intro; rfl)).trans raiseEntry_tended
    · exact mapDoor_tended (by intro; rfl)
  case h_10 | h_11 | h_12 => exact enter_tended _ _
  case h_13 => exact (enter_tended _ _).trans recordStart_tended

theorem takeClose_tended : Tended f s (s.takeClose f j).1 := by
  unfold State.takeClose
  split <;> try dsimp only
  case h_4 | h_5 | h_7 | h_8 => exact enter_tended _ _
  case h_6 => exact mapDoor_tended (by intro; rfl)
  case h_9 =>
    split
    · exact mapDoor_tended (by intro; rfl)
    · exact .refl
  all_goals exact .refl

theorem request_tended (r : DoorRequest) : Tended f s (s.request f j r).1 := by
  unfold State.request
  split
  · exact .refl
  · split
    · exact .refl
    · cases r with
      | close =>
        dsimp only
        split
        · exact .refl
        · exact takeClose_tended
      | open_ => exact takeOpen_tended _
      | emergencyOpen => exact takeOpen_tended _

theorem forEach_tended {α : Type} {op : α → State → State} (h : ∀ x s, Tended f s (op x s)) (xs : List α) (s : State) :
    Tended f s (forEach xs op s) := by
  induction xs generalizing s with
  | nil => exact .refl
  | cons x xs ih => exact (h x s).trans (ih _)

theorem requestEach_tended (r : DoorRequest) (js : List DoorIx) : Tended f s (s.requestEach f js r) :=
  forEach_tended (fun _ _ => request_tended r) js s

theorem emergencyIfLocked_tended : Tended f s (s.emergencyIfLocked f j) := by
  unfold State.emergencyIfLocked
  split
  · exact request_tended _
  · exact .refl

end Sys2Proof.Machine
end

section
namespace Sys2Proof.Machine

/-! SUPPORT. The setting of the emergency latch on a face whose engine rests (R132, R133). -/

variable {s t u w : State} {f : Face} {j k : DoorIx} {p q : GroupIx} {c : ReqClass} {st : DoorState}

theorem haltCause_rests (h : (s.face f).engine.running = false) (e : ProgError) : s.haltCause f e = s := by
  simp [State.haltCause, h]

theorem alarmed_rests (h : (s.face f).engine.running = false) :
    s.alarmed f = (s.mapMode f (fun m => { m with latch := true })).recomputeClp f none :=
  haltCause_rests (by rw [engine_of_side (recomputeClp_side ..)]; simpa using h) _

/-- A door unit that is not reached by EMERGENCY OPEN has no entry in a Start Queue. -/
theorem unreached_state (l : s.startQueueLaw f) (hk : k ∉ s.emergencyReach f) :
    (s.door f k).state ≠ some .unlatched ∧ (s.door f k).state ≠ some .closeWait := by
  have rules := startQueueLaw_iff.1 l
  have fitted : (s.door f k).state ≠ none → s.isFitted f k = true := rules.fitted_of_state k
  have isolated : s.isolated f k = true → _ := rules.isolated_state k
  refine ⟨fun h => hk (mem_emergencyReach.2 ?_), fun h => hk (mem_emergencyReach.2 ?_)⟩ <;>
    refine ⟨fitted (by simp [h]), ?_, by simp [h], by simp [h], .inr ⟨by simp [h], by simp [h]⟩⟩ <;>
    exact Bool.eq_false_iff.2 fun hi => by
      rcases isolated hi with e | e | e | e <;> rw [show ((s.doorSide f).record k).state = (s.door f k).state from rfl, h] at e <;>
        cases e

/-- EMERGENCY OPEN for the door units of R132. -/
theorem emergencyEach_opens (l : s.startQueueLaw f) (hl : (s.face f).mode.latch = true) :
    s.emergencyOpens f (s.requestEach f (s.emergencyReach f) .emergencyOpen) := by
  have permitted : ∀ k, s.mayLeaveLocked f k := fun k => .inr (.inl hl)
  refine ⟨fun k hf hr hi => ?_, fun k hf hleft => ?_⟩
  · by_cases hk : k ∈ s.emergencyReach f
    · have opened := requestEach_openedFrom .emergency _ l hk hi
      rw [show s.mayLeaveLocked f k = True from propext ⟨fun _ => trivial, fun _ => permitted k⟩] at opened
      exact opened
    · have kept : (s.requestEach f (s.emergencyReach f) .emergencyOpen).door f k = s.door f k :=
        congrArg Prod.fst ((requestEach_serves _ _ hk).unit l (unreached_state l hk).1 (unreached_state l hk).2)
      rw [kept]
      have out : (s.door f k).state = some .released ∨ (s.door f k).state = some .fault := by
        by_contra ho
        rw [not_or] at ho
        refine hk (mem_emergencyReach.2 ⟨hf, hi, ho.1, ho.2, ?_⟩)
        cases ha : s.sectionActive f k
        · refine .inr ⟨fun h => hr (.inr ⟨ha, .inr h⟩), fun h => hr (.inr ⟨ha, .inl h⟩)⟩
        · exact .inl rfl
      unfold OpenedFrom
      rcases out with h | h <;> rw [h]
  · have unreached : k ∉ s.emergencyReach f := fun hk => by
      obtain ⟨-, hi, -, -, ha⟩ := mem_emergencyReach.1 hk
      rcases hleft with h | ⟨h, hs⟩
      · simp [h] at hi
      · rcases hs with hs | hs <;> simp [h, hs] at ha
    exact (requestEach_serves _ _ unreached).unit l (unreached_state l unreached).1 (unreached_state l unreached).2

/-- The opening of R132 is read from the configuration and the door units. -/
theorem emergencyOpens_of {s' t' : State} (hc : s'.config = s.config) (hu : ∀ k, s'.unit f k = s.unit f k)
    (hf : t'.face f = t.face f) (h : s'.emergencyOpens f t) : s.emergencyOpens f t' := by
  have door : ∀ k, s'.door f k = s.door f k := fun k => congrArg Prod.fst (hu k)
  simpa only [State.emergencyOpens, State.opensEach, isFitted_of hc, isolated_of hc, sectionActive_of hc, door, door_of_face hf,
    unit_of_face hf, hu] using h

theorem emergencyLaw_of_face (hf : t.face f = s.face f) (h : s.emergencyLaw f) : t.emergencyLaw f := by
  simpa only [State.emergencyLaw, hf, door_of_face hf] using h

/-- The setting of the latch on a face whose engine rests. -/
theorem setLatch_rests (c : Byte) (h : (s.face f).engine.running = false) :
    ((s.setLatch f c).face f).mode = { (s.face f).mode with latch := true } ∧ (s.setLatch f c).berth f = s.berth f ∧
      ((s.setLatch f c).face f).align = (s.face f).align ∧ ((s.setLatch f c).face f).engine = (s.face f).engine ∧
      (s.scanDone = true → ((s.setLatch f c).face f).clp.value = false ∧ ((s.setLatch f c).face f).clp.emergency = true) ∧
      (s.startQueueLaw f → s.emergencyOpens f (s.setLatch f c) ∧ (s.setLatch f c).emergencyLaw f) := by
  have face : (s.setLatch f c).face f = ((s.alarmed f).requestEach f ((s.alarmed f).emergencyReach f) .emergencyOpen).face f := by
    rw [setLatch_eq]; simp [State.reportEmergency]
  have side : (s.setLatch f c).side f = { s.side f with mode := { (s.face f).mode with latch := true } } := by
    rw [side_of_face face, requestEach_side, alarmed_rests h, recomputeClp_side, mapMode_side]
  have mode : ((s.setLatch f c).face f).mode = { (s.face f).mode with latch := true } := (congrArg FaceState.mode side :)
  have latch : ((s.alarmed f).face f).mode.latch = true := congrArg DoorSide.latch (alarmed_doorSide s f)
  refine ⟨mode, (congrArg FaceState.berth side :), (congrArg FaceState.align side :), (congrArg FaceState.engine side :),
    fun scanned => ?_, fun l => ⟨?_, ?_⟩⟩
  · have computed : ((s.alarmed f).requestEach f ((s.alarmed f).emergencyReach f) .emergencyOpen).clpTrue f :=
      (requestEach_tended _ _).clp (by rw [alarmed_rests h]; exact recomputeClp_true _)
    have clp := computed (by rw [requestEach_scanDone, alarmed_rests h]; simpa using scanned)
    have latched : (((s.alarmed f).requestEach f ((s.alarmed f).emergencyReach f) .emergencyOpen).face f).mode.latch = true :=
      (latch_of_side (requestEach_side ..)).trans latch
    rw [face, clp, State.computeClp]
    dsimp only
    rw [latched]
    simp
  · have law : (s.alarmed f).startQueueLaw f := startQueueLaw_iff.2 (alarmed_law (startQueueLaw_iff.1 l))
    refine emergencyOpens_of ?_ (fun k => ?_) face (emergencyEach_opens law latch)
    · rw [alarmed_rests h]; simp
    · rw [alarmed_rests h, recomputeClp_unit]; simp [State.unit, State.door, State.sense]
  · exact emergencyLaw_iff.2 fun _ => setLatch_safe c (startQueueLaw_iff.1 l)

end Sys2Proof.Machine
end

section
open Sys2Proof.Machine

/-- Settles O27: the setting of the latch is taken whole, and EOI going inactive is noted alone. -/
theorem eoiSetsTheEmergencyLatch : Obligations.EoiSetsTheEmergencyLatch := by
  intro f s hs
  obtain ⟨powered, notices, rests⟩ := calm_iff.1 hs
  refine ⟨fun heoi hlatch scanned => ?_, fun heoi hlatch => ?_⟩
  · have sets : s.eoiAccepted f true = (s.mapMode f (fun m => { m with eoi := true })).setLatch f 0 := by
      simp [State.eoiAccepted, heoi, hlatch]
    obtain ⟨mode, berth, align, engine, clp, opens⟩ := setLatch_rests (s := s.mapMode f (fun m => { m with eoi := true })) (f := f) 0
      (by simpa using rests)
    have side := mapMode_side (s := s) (f := f) (fun m => { m with eoi := true })
    obtain ⟨t, ht, hf, ho⟩ := event_calm (s := s) (v := s) (f := f) (op := State.eoiAccepted f true) powered notices
      (by simp) (by rw [sets, engine]; simpa using rests)
    rw [sets] at hf
    have law : s.startQueueLaw f → (s.mapMode f (fun m => { m with eoi := true })).startQueueLaw f := fun l => by
      rw [startQueueLaw_iff] at l ⊢
      rwa [mapMode_doorSide s f f _ (by intro; rfl)]
    obtain ⟨value, emergency⟩ := clp (by simpa using scanned)
    refine ⟨t, ht, ?_, by rw [hf, value], by rw [hf, emergency], ?_, ?_, ho, fun l => ⟨?_, ?_⟩⟩
    · rw [hf, mode]; simp
    · rw [State.berth, hf]; exact berth.trans (by simp [State.berth])
    · rw [hf, align]; simp
    · exact emergencyOpens_of (by simp) (fun k => by simp [State.unit, State.door, State.sense]) hf (opens (law l)).1
    · exact emergencyLaw_of_face hf (opens (law l)).2
  · have notes : s.eoiAccepted f false = (s.mapMode f (fun m => { m with eoi := false })).reportEmergency f 0 none := by
      simp [State.eoiAccepted, heoi, hlatch]
    have face : (s.eoiAccepted f false).face f = { s.face f with mode := { (s.face f).mode with eoi := false } } := by
      rw [notes]; simp [State.reportEmergency, State.mapMode]
    obtain ⟨t, ht, hf, ho⟩ := event_calm (s := s) (v := s) (f := f) (op := State.eoiAccepted f false) powered notices
      (by simp) (by rw [face]; exact rests)
    rw [face] at hf
    refine ⟨t, ht, by rw [hf], ho, by rw [State.berth, hf]; rfl, fun k => ⟨?_, fun g => ?_⟩⟩
    · simp [State.unit, State.door, State.sense, hf]
    · simp [State.group, hf]

end

section
namespace Sys2Proof.Machine

/-! SUPPORT. Requests on a face whose engine rests, and the withdrawal of release (R116). -/

variable {s t u v w : State} {f g : Face} {j k : DoorIx} {c : ResultCode} {body : List Byte}

theorem face_of_outside (h : t.outside f = s.outside f) (hg : g ≠ f) : t.face g = s.face g :=
  congrArg Prod.fst (across_of_outside hg h)

/-! ### Requests that are taken at once -/

section Rows
variable {i : Instr} {r : RequestRule} {l : Link} {x : Frame} (hr : requestRule i = some r) (hx : i.frame? = some (l, x))
  (ha : r.owner.allows l = true) (hp : x.payload.length = r.needs) (h : s.ready l x = true)
include hr hx ha hp h

/-- A row whose link and length are right is answered by its decision, what is left to be told being told before. -/
theorem exec_row (hd : r.decide (s.popFrame l) = (w, ⟨c, body⟩)) : exec i s = .next (w.drain.replied l x c body) := by
  rw [exec_of_rule hr hx, serve_ready h, run_decides ha hp, hd]

/-- A row that leaves nothing to be told. -/
theorem exec_row_quiet (hd : r.decide (s.popFrame l) = (w, ⟨c, body⟩)) (hn : w.notices = []) :
    exec i s = .next (w.replied l x c body) := by
  rw [exec_row hr hx ha hp h hd, drain_of_no_notices hn]

/-- A row that leaves the engine of its face at rest: what is left to be told is dropped. -/
theorem exec_row_calm (hd : r.decide (s.popFrame l) = (w, ⟨c, body⟩)) (ho : w.outside f = (s.popFrame l).outside f)
    (he : (w.face f).engine.running = false) : ∃ u : State, exec i s = .next (u.replied l x c body) ∧ u.face f = w.face f ∧
      u.outside f = (s.popFrame l).outside f := by
  obtain ⟨-, notices, -⟩ := ready_iff.mp h
  have told := notices_of_outside (s.popFrame l) f (by simp [notices]) ho
  refine ⟨w.drain, exec_row hr hx ha hp h hd, ?_, (drain_outside _ f told).trans ho⟩
  rw [drain_calm _ fun x hx => by rw [told x hx]; exact he]
  cases f <;> rfl

end Rows

/-! ### Withdrawal -/

/-- Release and the posted open given up, before any door unit is asked. -/
def State.withdrawn (f : Face) (s : State) : State := (s.clearRelease f).discardPosted f .withdrawn

theorem withdrawn_face (h : (s.face f).engine.running = false) :
    (s.withdrawn f).face f = { s.face f with berth := { s.berth f with release := false }.discard } := by
  rw [State.withdrawn, discardPosted_face (by simpa [State.clearRelease] using h)]
  simp [State.clearRelease, State.mapBerth, State.berth]

theorem withdrawn_outside : (s.withdrawn f).outside f = s.outside f := by simp [State.withdrawn, State.clearRelease]

theorem withdrawn_rests (h : (s.face f).engine.running = false) : ((s.withdrawn f).face f).engine.running = false := by
  rw [withdrawn_face h]; exact h

theorem withdraw_eq (h : (s.face f).engine.running = false) : s.withdraw f =
    if ((s.face f).mode.mode = .automatic ∨ (s.face f).mode.mode = .supervised) ∧ (s.face f).mode.latch = false then
      (s.withdrawn f).closeAll f else s.withdrawn f := by
  have halted : (s.withdrawn f).haltCause f .releaseWithdrawn = s.withdrawn f := haltCause_rests (withdrawn_rests h) _
  have mode : ((s.withdrawn f).face f).mode = (s.face f).mode := by rw [withdrawn_face h]
  unfold State.withdraw
  simp only [show (s.clearRelease f).discardPosted f .withdrawn = s.withdrawn f from rfl, halted, mode, Bool.and_eq_true,
    Bool.or_eq_true, decide_eq_true_eq, Bool.not_eq_true']

theorem closeAll_side (g : Face) : (s.closeAll f).side g = s.side g := requestEach_side ..

/-- What a withdrawal makes of a face whose engine rests. -/
structure Withdraws (f : Face) (s t : State) : Prop where
  release : (t.berth f).release = false
  posted : (t.berth f).posted = none
  state : (t.berth f).state = (s.berth f).state
  align : (t.face f).align = (s.face f).align
  mode : (t.face f).mode = (s.face f).mode
  engine : (t.face f).engine = (s.face f).engine
  still : (s.face f).mode.mode = .local_ ∨ (s.face f).mode.mode = .maintenance ∨ (s.face f).mode.latch = true →
    ∀ k, t.unit f k = s.unit f k ∧ ∀ g, t.group f g = s.group f g
  closes : (s.face f).mode.mode = .automatic ∨ (s.face f).mode.mode = .supervised → (s.face f).mode.latch = false →
    s.startQueueLaw f → s.closesEach f (fun _ => True) t

theorem discard_release (b : Berth) : b.discard.release = b.release := by unfold Berth.discard; split <;> rfl

theorem withdraw_withdraws (h : (s.face f).engine.running = false) : Withdraws f s (s.withdraw f) := by
  have face := withdrawn_face h
  have side : (s.withdraw f).side f = (s.withdrawn f).side f := by
    rw [withdraw_eq h]
    split
    · exact closeAll_side f
    · rfl
  have berth : (s.withdraw f).berth f = { s.berth f with release := false }.discard :=
    (berth_of_side side).trans (by rw [State.berth, face])
  have align : ((s.withdraw f).face f).align = ((s.withdrawn f).face f).align := (congrArg FaceState.align side :)
  refine ⟨by rw [berth, discard_release], by rw [berth, discard_posted], by rw [berth, discard_state], align.trans (by rw [face]),
    (mode_of_side side).trans (by rw [face]), (engine_of_side side).trans (by rw [face]), fun hm k => ?_, fun hm hl l => ?_⟩
  · have stays : s.withdraw f = s.withdrawn f := by
      rw [withdraw_eq h, if_neg]
      rintro ⟨h1, h2⟩
      rcases hm with hm | hm | hm
      · simp [hm] at h1
      · simp [hm] at h1
      · simp [hm] at h2
    rw [stays]
    exact ⟨by simp [State.unit, State.door, State.sense, face], fun g => by simp [State.group, face]⟩
  · rw [withdraw_eq h, if_pos ⟨hm, hl⟩]
    have config : (s.withdrawn f).config = s.config := outside_eq_of State.config (fun _ => rfl) withdrawn_outside
    have door : ∀ k, (s.withdrawn f).door f k = s.door f k := fun k => by simp [State.door, face]
    have law : (s.withdrawn f).startQueueLaw f := by
      rw [startQueueLaw_iff] at l ⊢
      rwa [doorSide_of config (outside_eq_of State.scanDone (fun _ => rfl) withdrawn_outside) (by rw [face]) door
        (fun k => by simp [State.sense, face]) fun p => by simp [State.group, face]]
    intro k hf _ hi
    have closed := closeAll_closesEach law (by rw [face]; exact hl) k (by rw [isFitted_of config]; exact hf) trivial
      (by rw [isolated_of config]; exact hi)
    rwa [door] at closed

theorem law_of_face (hc : t.config = s.config) (hd : t.scanDone = s.scanDone) (hf : t.face f = s.face f) :
    t.startQueueLaw f ↔ s.startQueueLaw f := by
  rw [startQueueLaw_iff, startQueueLaw_iff, doorSide_of_face hc hd hf]

theorem closesEach_of_face {s' t' : State} {P : DoorIx → Prop} (hc : s'.config = s.config) (hs : s'.face f = s.face f)
    (ht : t'.face f = t.face f) : s'.closesEach f P t' ↔ s.closesEach f P t := by
  simp only [State.closesEach, isFitted_of hc, isolated_of hc, door_of_face hs, door_of_face ht]

theorem opensEach_of_face {s' t' : State} {a : ReqClass} {P Q : DoorIx → Prop} (hc : s'.config = s.config)
    (hs : s'.face f = s.face f) (ht : t'.face f = t.face f) : s'.opensEach f a P Q t' ↔ s.opensEach f a P Q t := by
  simp only [State.opensEach, isFitted_of hc, isolated_of hc, door_of_face hs, door_of_face ht]

/-- A withdrawal is read from the face. -/
theorem Withdraws.of_face {s' t' : State} (h : Withdraws f s t) (hc : s'.config = s.config) (hd : s'.scanDone = s.scanDone)
    (hs : s'.face f = s.face f) (ht : t'.face f = t.face f) : Withdraws f s' t' := by
  obtain ⟨release, posted, state, align, mode, engine, still, closes⟩ := h
  have berth' : t'.berth f = t.berth f := congrArg FaceState.berth ht
  have berth : s'.berth f = s.berth f := congrArg FaceState.berth hs
  refine ⟨by rw [berth', release], by rw [berth', posted], by rw [berth', berth, state], by rw [ht, hs, align], by rw [ht, hs, mode],
    by rw [ht, hs, engine], fun hm k => ?_, fun hm hl l => ?_⟩
  · obtain ⟨unit, group⟩ := still (by rwa [hs] at hm) k
    exact ⟨(unit_of_face ht k).trans (unit.trans (unit_of_face hs k).symm),
      fun g => (group_of_face ht g).trans ((group g).trans (group_of_face hs g).symm)⟩
  · rw [hs] at hm hl
    exact (closesEach_of_face hc hs ht).2 (closes hm hl ((law_of_face hc hd hs).1 l))

end Sys2Proof.Machine
end

section
open Sys2Proof Sys2Proof.Machine

/-- Settles O28: both faces are withdrawn, and no engine has anything to be told. -/
theorem silenceLosesTheInterlocking : Obligations.SilenceLosesTheInterlocking := by
  intro s m hs hm due
  obtain ⟨powered, notices, rests0⟩ := calm_iff.1 (hs .f0)
  obtain ⟨-, -, rests1⟩ := calm_iff.1 (hs .f1)
  let s0 : State := { s with ilLost := true, silence := none }
  let a := s0.withdraw .f0
  let b := a.withdraw .f1
  have acts : exec .ilSilenceTimerExpiry s = s.event State.interlockLost := event_congr (expiry_due _ hm due)
  have first : Withdraws .f0 s0 a := withdraw_withdraws rests0
  have face1 : a.face .f1 = s.face .f1 := face_of_outside (s := s0) (f := .f0) (withdraw_outside ..) (by decide)
  have second : Withdraws .f1 a b := withdraw_withdraws (by rw [face1]; exact rests1)
  have face0 : b.face .f0 = a.face .f0 := face_of_outside (f := .f1) (withdraw_outside ..) (by decide)
  have faces : ∀ g, (s.interlockLost).face g = b.face g := fun g => by
    show (b.reportLinkState 0).face g = b.face g
    simp [State.reportLinkState]
  have kept : ∀ {α : Type} (p : State → α), (∀ f x, p (State.outside f x) = p x) → p s.interlockLost = p s0 := fun p hp => by
    have reported : p (b.reportLinkState 0) = p b :=
      outside_eq_of (f := .f0) p (hp .f0) (by simp [State.reportLinkState])
    exact reported.trans ((outside_eq_of (f := .f1) p (hp .f1) (withdraw_outside ..)).trans
      (outside_eq_of (f := .f0) p (hp .f0) (withdraw_outside ..)))
  have config_a : a.config = s.config := outside_eq_of (s := s0) State.config (fun _ => rfl) (withdraw_outside s0 .f0)
  have scan_a : a.scanDone = s.scanDone := outside_eq_of (s := s0) State.scanDone (fun _ => rfl) (withdraw_outside s0 .f0)
  have withdraws : ∀ f, Withdraws f s s.interlockLost := fun f => by
    cases f
    · exact first.of_face rfl rfl rfl ((faces .f0).trans face0)
    · exact second.of_face config_a.symm scan_a.symm face1.symm (faces .f1)
  have drained : s.interlockLost.drain = { s.interlockLost with notices := [] } := drain_calm _ fun x _ => by
    rw [(withdraws x.face).engine]
    cases x.face
    exacts [rests0, rests1]
  refine ⟨{ s.interlockLost with notices := [] }, ?_, kept State.ilLost (fun _ _ => rfl), kept State.silence (fun _ _ => rfl),
    fun f => ?_, ?_, fun l => ?_⟩
  · rw [acts, State.event, if_pos powered, drained]
  · obtain ⟨release, posted, state, align, mode, -, still, closes⟩ :=
      (withdraws f).of_face (t' := { s.interlockLost with notices := [] }) rfl rfl rfl (by cases f <;> rfl)
    exact ⟨release, posted, state, align, mode, still, closes⟩
  · exact kept (fun x => (x.config, x.msClock, x.usClock, x.pending, x.commit, x.nv, x.maint)) (fun _ _ => rfl)
  · cases l
    · exact kept (fun x => x.sl.rxSide) (fun _ _ => rfl)
    · exact kept (fun x => x.il.rxSide) (fun _ _ => rfl)

end

section
namespace Sys2Proof.Machine

/-! SUPPORT. DOOR RELEASE: what it is decided to be, the opening that it makes and the program that it starts (R111 to R113,
R150). -/

variable {s t u v w : State} {f g : Face} {j k : DoorIx} {c : ResultCode} {body : List Byte}

theorem byteAt_faceCode (f : Face) (p : List Byte) : faceOf (byteAt ([faceCode f] ++ p) 0) = some f := by simp [byteAt]

/-! ### The decision -/

section Decision

theorem decideRelease_wrongMode (hm : (s.face f).mode.mode = .maintenance) :
    decideRelease [faceCode f] s = refuse .wrongMode s := by
  rw [decideRelease, withFace_named (p := [faceCode f]) (byteAt_faceCode f []), if_pos hm]

theorem decideRelease_movedFault (hm : (s.face f).mode.mode ≠ .maintenance) (hb : (s.berth f).state = .movedFault) :
    decideRelease [faceCode f] s = refuse .berthState s := by
  rw [decideRelease, withFace_named (p := [faceCode f]) (byteAt_faceCode f []), if_neg hm]
  simp only [hb]

theorem decideRelease_noTrain (hm : (s.face f).mode.mode ≠ .maintenance) (hb : (s.berth f).state ≠ .movedFault)
    (ht : ¬((s.berth f).state = .arriving ∨ (s.berth f).state = .settling ∨ (s.berth f).state = .stopped)) :
    decideRelease [faceCode f] s = refuse .noTrain s := by
  rw [decideRelease, withFace_named (p := [faceCode f]) (byteAt_faceCode f []), if_neg hm]
  cases h : (s.berth f).state with
  | empty | notified | approaching | departing => rfl
  | movedFault => exact absurd h hb
  | arriving | settling | stopped => simp [h] at ht

theorem decideRelease_takes (hm : (s.face f).mode.mode ≠ .maintenance)
    (ht : (s.berth f).state = .arriving ∨ (s.berth f).state = .settling ∨ (s.berth f).state = .stopped) :
    decideRelease [faceCode f] s = accepted (if (s.berth f).release then s else s.giveRelease f) := by
  rw [decideRelease, withFace_named (p := [faceCode f]) (byteAt_faceCode f []), if_neg hm]
  rcases ht with h | h | h <;> simp only [h]

end Decision

theorem decideWithdraw_named (s : State) : decideWithdraw [faceCode f] s = accepted (s.withdraw f) := by
  rw [decideWithdraw, withFace_named (p := [faceCode f]) (byteAt_faceCode f [])]

/-! ### Openings taken with the Door Map -/

theorem selectMap_all : s.selectMap f 0xFF#8 0#32 = s.map f :=
  List.filter_eq_self.2 fun j _ => by
    have all : ∀ x : Fin 8, (0xFF#8).getLsbD x.val = true := by decide
    simp only [State.inSections, all, Bool.true_or]

theorem postsNow_iff : s.postsNow f = true ↔ (s.berth f).state = .arriving ∨ (s.berth f).state = .settling
    ∨ (s.berth f).state = .stopped ∧ (s.face f).align.grade = some .noConsist := by
  simp [State.postsNow, or_assoc]

theorem openSelection_posts {a : BitVec 8} {m : BitVec 32} {src : Source} (h : s.postsNow f = true) :
    s.openSelection f a m src = (s.post f a m src, .posted) := if_pos h

/-- At a STOPPED berth with a consist the OPEN is issued, to no door unit where the Door Map is empty. -/
theorem openSelection_issues {a : BitVec 8} {m : BitVec 32} {src : Source} (hb : (s.berth f).state = .stopped)
    (hg : (s.face f).align.grade ≠ some .noConsist) :
    (s.openSelection f a m src).1 = s.requestEach f (s.selectMap f a m) .open_ := by
  have posts : ¬s.postsNow f = true := by rw [postsNow_iff]; simp [hb, hg]
  rw [State.openSelection, if_neg posts]
  split
  · exact requestAll_eq ..
  · next h =>
    have none : s.map f = [] := by simpa [hb] using h
    simp [State.selectMap, none, State.requestEach, forEach]

/-! ### What the mode makes of a release -/

/-- The release flag set. -/
def State.released (f : Face) (s : State) : State := s.mapBerth f (fun b => { b with release := true })

@[simp] theorem released_face : (s.released f).face f = { s.face f with berth := { s.berth f with release := true } } :=
  mapFace_face ..

@[simp] theorem released_outside : (s.released f).outside f = s.outside f := by simp [State.released]

theorem giveRelease_flag (hm : (s.face f).mode.mode = .supervised ∨ (s.face f).mode.mode = .local_) :
    s.giveRelease f = s.released f := by
  have mode : ((s.mapBerth f (fun b => { b with release := true })).face f).mode = (s.face f).mode := by simp
  rcases hm with h | h <;> simp only [State.giveRelease, mode, h, State.released]

section Automatic
variable (hm : (s.face f).mode.mode = .automatic) (he : (s.face f).engine.running = false)
include hm he

theorem giveRelease_opens (ha : (s.face f).engine.armed = none) :
    s.giveRelease f = ((s.released f).openSelection f 0xFF#8 0#32 .release).1 := by
  simp only [State.giveRelease, State.released, mapBerth_face_mode, mapBerth_face_engine, hm, he, ha, Bool.false_eq_true,
    if_false]

theorem giveRelease_starts {i : Fin 96} (ha : (s.face f).engine.armed = some i) :
    s.giveRelease f = (s.released f).startAt f i 1 := by
  simp only [State.giveRelease, State.released, mapBerth_face_mode, mapBerth_face_engine, hm, he, ha, Bool.false_eq_true,
    if_false]

end Automatic

/-- A release before the stop posts an opening of every section, where none is posted. -/
theorem release_posts (hp : (s.berth f).posted = none) : (s.released f).post f 0xFF#8 0#32 .release =
    s.mapBerth f (fun x => { x with
      release := true
      posted := some ⟨0xFF#8, 0#32, true, false, false, s.msClock, none⟩ }) := by
  cases f <;> simp only [State.berth, State.face] at hp <;>
    simp [State.released, State.post, State.mapBerth, State.mapFace, hp, Posted.create]

/-! ### A program that starts -/

/-- The engine as a start leaves it, before its descriptor is looked at (R140). -/
def Engine.started (i : Fin 96) (e : Engine) : Engine :=
  { e with
    state := .waiting, phase := .wait, current := some i, limitTimer := none, holdTimer := none, followed := []
    awaiting := false, errors := 0, context := none, ended := false }

/-- From `s` to `t` the engine of the face alone has become `e`, and nothing is left to be told. -/
structure EngineGoes (f : Face) (e : Engine) (s t : State) : Prop where
  face : t.face f = { s.face f with engine := e }
  outside : t.outside f = s.outside f
  notices : t.notices = s.notices

theorem EngineGoes.config {e : Engine} (h : EngineGoes f e s t) : t.config = s.config :=
  outside_eq_of State.config (fun _ => rfl) h.outside

theorem EngineGoes.clock {e : Engine} (h : EngineGoes f e s t) : t.msClock = s.msClock :=
  outside_eq_of State.msClock (fun _ => rfl) h.outside

theorem EngineGoes.then {e e' : Engine} (h : EngineGoes f e s t) (h' : EngineGoes f e' t u) : EngineGoes f e' s u where
  face := by rw [h'.face, h.face]
  outside := h'.outside.trans h.outside
  notices := h'.notices.trans h.notices

theorem EngineGoes.of_eq {e e' : Engine} (h : EngineGoes f e s t) (he : e = e') : EngineGoes f e' s t := he ▸ h

theorem mapEngine_goes (h : Engine → Engine) : EngineGoes f (h (s.face f).engine) s (s.mapEngine f h) where
  face := mapFace_face ..
  outside := by simp
  notices := by simp

theorem reportProgram_goes (a : Byte) (b : BitVec 16) (v : Byte) :
    EngineGoes f (s.face f).engine s (s.reportProgram f a b v) where
  face := by simp [State.reportProgram]
  outside := by simp
  notices := report_keeps State.notices (fun _ l _ => by cases l <;> rfl) ..

theorem EngineGoes.map {e : Engine} (h : EngineGoes f e s t) (k : Engine → Engine) : EngineGoes f (k e) s (t.mapEngine f k) := by
  have engine : (t.face f).engine = e := by rw [h.face]
  exact h.then (engine ▸ mapEngine_goes k)

theorem EngineGoes.reported {e : Engine} (h : EngineGoes f e s t) (a : Byte) (b : BitVec 16) (v : Byte) :
    EngineGoes f e s (t.reportProgram f a b v) := by
  have engine : (t.face f).engine = e := by rw [h.face]
  exact h.then (engine ▸ reportProgram_goes a b v)

theorem EngineGoes.descriptor {e : Engine} (h : EngineGoes f e s t) : t.currentDescriptor f = e.current.bind s.descriptor := by
  rw [State.currentDescriptor, h.face, show t.descriptor = s.descriptor from funext fun i => by
    simp only [State.descriptor, h.config]]

theorem EngineGoes.triggerMet {e : Engine} (h : EngineGoes f e s t) (x : Trigger) : t.triggerMet f x = s.triggerMet f x := by
  cases x <;> simp [State.triggerMet, State.berth, h.face]; rfl

theorem triggerMet_of_face (h : t.face f = s.face f) (x : Trigger) : t.triggerMet f x = s.triggerMet f x := by
  cases x <;> simp only [State.triggerMet, State.berth, h]; rfl

theorem EngineGoes.failEmpty {e : Engine} (h : EngineGoes f e s t) :
    EngineGoes f (({ e with phase := .wait } : Engine).flagError .emptyDescriptor).halt s (t.failEmpty f) :=
  (h.map fun e => (({ e with phase := .wait } : Engine).flagError .emptyDescriptor).halt).reported 3 _ 1

theorem EngineGoes.enterHolding {e : Engine} {d : Descriptor} (h : EngineGoes f e s t)
    (hd : e.current.bind s.descriptor = some d) : EngineGoes f { e.stop with
      state := .holding, phase := .hold, holdTimer := some ⟨s.msClock, if d.hold = 0 then 10 else d.hold⟩ } s
      (t.enterHolding f true) := by
  have hold : ((t.currentDescriptor f).map Descriptor.hold).getD 0 = d.hold := by rw [h.descriptor, hd]; rfl
  have goes := fun n => h.map fun e : Engine => { e.stop with
    state := .holding, phase := .hold, holdTimer := some (t.startTimer n) }
  rw [State.enterHolding, hold]
  by_cases h0 : d.hold = 0
  · simpa [h0, State.startTimer, h.clock] using goes 10
  · simpa [h0, State.startTimer, h.clock] using goes d.hold

/-- WAIT and MARK lead to HOLDING in the event that issues them (R142, R146). -/
theorem EngineGoes.act_idle {e : Engine} {d : Descriptor} (h : EngineGoes f e s t) (hd : e.current.bind s.descriptor = some d)
    (ha : d.action = .wait ∨ d.action = .mark) : EngineGoes f { e.stop with
      state := .holding, phase := .hold, holdTimer := some ⟨s.msClock, if d.hold = 0 then 10 else d.hold⟩ } s (t.act f d) := by
  have acting := h.map fun e => { e with state := .acting, phase := .act, followed := [], awaiting := false }
  rcases ha with ha | ha <;> simp only [State.act, ha]
  · exact acting.enterHolding hd
  · exact (acting.reported 1 _ d.mark).enterHolding hd

section Start
variable {i : Fin 96} {cause : Byte}

theorem startAt_goes : ∃ x, s.startAt f i cause = x.enterWaiting f ∧ EngineGoes f (Engine.started i (s.face f).engine) s x :=
  ⟨_, rfl, (mapEngine_goes fun e => { e.stop with
    state := .waiting, phase := .wait, current := some i, errors := 0, context := none, ended := false }).reported 0 0 cause⟩

/-- A program whose descriptor is empty halts at once (R150). -/
theorem startAt_empty (hd : s.descriptor i = none) : EngineGoes f { Engine.started i (s.face f).engine with
    state := .halted, errors := 0x40#16, context := some (i, .wait) } s (s.startAt f i cause) := by
  obtain ⟨x, start, goes⟩ := startAt_goes (s := s) (f := f) (i := i) (cause := cause)
  have waiting := goes.map fun e => { e.stop with state := .waiting, phase := .wait }
  have found := waiting.descriptor.trans hd
  rw [start, State.enterWaiting]
  simp only [found]
  exact waiting.failEmpty.of_eq (by
    simp [Engine.flagError, Engine.halt, Engine.stop, Engine.started, ProgError.mask, ProgError.bit])

/-- A program whose trigger is not met waits for it, with its limit timer running (R141). -/
theorem startAt_waits {d : Descriptor} (hd : s.descriptor i = some d) (ht : s.triggerMet f d.trigger = false) :
    EngineGoes f { Engine.started i (s.face f).engine with
      limitTimer := if d.limit = 0 then none else some ⟨s.msClock, d.limit⟩ } s (s.startAt f i cause) := by
  obtain ⟨x, start, goes⟩ := startAt_goes (s := s) (f := f) (i := i) (cause := cause)
  have waiting := goes.map fun e => { e.stop with state := .waiting, phase := .wait }
  have limited := waiting.map fun e => { e with
    limitTimer := (x.mapEngine f fun e => { e.stop with state := .waiting, phase := .wait }).limitFor d }
  have found := waiting.descriptor.trans hd
  rw [start, State.enterWaiting]
  simp only [found, (limited.triggerMet d.trigger).trans ht, Bool.false_eq_true, if_false]
  refine limited.of_eq ?_
  simp only [State.limitFor, State.startTimer, waiting.clock]
  rfl

/-- A program whose trigger is met and whose action asks nothing of a door unit holds at once (R141, R142, R146). -/
theorem startAt_holds {d : Descriptor} (hd : s.descriptor i = some d) (ht : s.triggerMet f d.trigger = true)
    (ha : d.action = .wait ∨ d.action = .mark) : EngineGoes f { Engine.started i (s.face f).engine with
      state := .holding, phase := .hold, holdTimer := some ⟨s.msClock, if d.hold = 0 then 10 else d.hold⟩ } s
      (s.startAt f i cause) := by
  obtain ⟨x, start, goes⟩ := startAt_goes (s := s) (f := f) (i := i) (cause := cause)
  have waiting := goes.map fun e => { e.stop with state := .waiting, phase := .wait }
  have limited := waiting.map fun e => { e with
    limitTimer := (x.mapEngine f fun e => { e.stop with state := .waiting, phase := .wait }).limitFor d }
  have found := waiting.descriptor.trans hd
  rw [start, State.enterWaiting]
  simp only [found, (limited.triggerMet d.trigger).trans ht, if_true]
  exact limited.act_idle hd ha

end Start

/-! ### A release that opens -/

/-- At a STOPPED berth with release given in AUTOMATIC, every door unit of the Door Map is given an OPEN that R19 permits. -/
theorem release_opensEach (hm : (s.face f).mode.mode = .automatic) (hb : (s.berth f).state = .stopped)
    (l : s.startQueueLaw f) : s.opensEach f .normal (fun j => j ∈ s.map f) (fun _ => True)
      ((s.released f).requestEach f (s.map f) .open_) := by
  intro j _ hj hi
  have config : (s.released f).config = s.config := by simp [State.released]
  have law : (s.released f).startQueueLaw f := by
    rw [startQueueLaw_iff] at l ⊢
    rwa [doorSide_of config (by simp [State.released]) (by simp) (fun k => by simp [State.door]) (fun k => by simp [State.sense])
      fun p => by simp [State.group]]
  have permitted : (s.released f).mayLeaveLocked f j :=
    .inl ⟨.inl (by rw [released_face]; exact hm), by simpa [State.map] using hj,
      by rw [State.berth, released_face]; exact hb, by rw [State.berth, released_face]⟩
  have opened := requestEach_openedFrom .normal (s.map f) law hj (by rw [isolated_of config]; exact hi)
  rw [eq_true permitted, show (s.released f).door f j = s.door f j by simp [State.door]] at opened
  exact opened

end Sys2Proof.Machine
end

section
open Sys2Proof Sys2Proof.Machine

/-- Settles O46: the decision of DOOR RELEASE row by row, and a withdrawal of a face whose engine rests. -/
theorem releaseAndWithdrawal : Obligations.ReleaseAndWithdrawal := by
  intro f g s hs
  obtain ⟨powered, notices, rests⟩ := calm_iff.1 hs
  intro p b v m
  have face : v.face f = s.face f := popFrame_face ..
  have berth : v.berth f = b := congrArg FaceState.berth face
  have told : v.notices = [] := (popFrame_notices ..).trans notices
  refine ⟨fun h => ?_, fun h => ?_⟩
  · intro answers train
    have quiet : ∀ {w c}, decideRelease p v = (w, ⟨c, []⟩) → w.notices = [] → answers w c := fun hd hn =>
      exec_row_quiet rfl rfl rfl rfl h hd hn
    have calm : ∀ {w c}, decideRelease p v = (w, ⟨c, []⟩) → w.outside f = v.outside f → (w.face f).engine.running = false →
        ∃ u, answers u c ∧ u.face f = w.face f ∧ u.outside f = v.outside f := fun hd ho he =>
      exec_row_calm rfl rfl rfl rfl h hd ho he
    have takes : m.mode ≠ .maintenance → train → decideRelease p v = accepted (if b.release then v else v.giveRelease f) :=
      fun hm ht => by rw [← berth]; exact decideRelease_takes (by rw [face]; exact hm) (by rw [berth]; exact ht)
    have gives : m.mode ≠ .maintenance → train → b.release = false → decideRelease p v = accepted (v.giveRelease f) :=
      fun hm ht hr => by rw [takes hm ht, if_neg (by simp [hr])]
    have nm : m.mode = .automatic → m.mode ≠ .maintenance := fun h => by simp [h]
    refine ⟨fun hm => ?_, fun hm hb => ?_, fun hm hb ht => ?_, fun hm ht hr => ?_, fun hm ht hr => ?_, fun hm ht hr ha => ⟨fun hb hg => ?_,
      fun hb hp => ?_⟩, fun i hm ht hr ha => ?_⟩
    · exact quiet (decideRelease_wrongMode (by rw [face]; exact hm)) told
    · exact quiet (decideRelease_movedFault (by rw [face]; exact hm) (by rw [berth]; exact hb)) told
    · exact quiet (decideRelease_noTrain (by rw [face]; exact hm) (by rw [berth]; exact hb) (by rw [berth]; exact ht)) told
    · exact quiet ((takes hm ht).trans (by rw [if_pos hr]; rfl)) told
    · refine quiet ((gives (by rcases hm with h | h <;> simp [h]) ht hr).trans ?_) (by simpa using told)
      rw [giveRelease_flag (by rw [face]; exact hm)]
      rfl
    · have mode : (v.face f).mode.mode = .automatic := by rw [face]; exact hm
      have stopped : (v.berth f).state = .stopped := by rw [berth]; exact hb
      have opens : v.giveRelease f = (v.released f).requestEach f (v.map f) .open_ := by
        rw [giveRelease_opens mode (by rw [face]; exact rests) (by rw [face]; exact ha), openSelection_issues
          (by rw [State.berth, released_face]; exact stopped) (by rw [released_face, face]; exact hg), selectMap_all]
        simp [State.map]
      have side : (v.giveRelease f).side f = (v.released f).side f := by rw [opens]; exact requestEach_side ..
      have released : (v.released f).face f = { s.face f with berth := { b with release := true } } := by
        rw [released_face, face, berth]
      obtain ⟨u, run, hu, out⟩ := calm (gives (nm hm) ht hr)
        (by rw [opens, requestEach_outside, released_outside]) (by rw [engine_of_side side, released]; exact rests)
      refine ⟨u, run, ?_, by rw [hu, mode_of_side side, released], out, fun l => ?_⟩
      · rw [State.berth, hu]
        exact (berth_of_side side).trans (by rw [State.berth, released])
      · have law : v.startQueueLaw f := (law_of_face (popFrame_config ..) (by cases f <;> rfl) face).2 l
        have opened := release_opensEach mode stopped law
        rw [← opens] at opened
        have map : v.map f = s.map f := by rw [State.map, face]; rfl
        rw [map] at opened
        exact (opensEach_of_face (popFrame_config ..).symm face.symm hu).2 opened
    · have posts : (v.released f).postsNow f = true := by
        rw [postsNow_iff, State.berth, released_face, berth]
        rcases ht with h | h | h
        · exact .inl h
        · exact .inr (.inl h)
        · exact absurd h hb
      refine quiet ((gives (nm hm) ht hr).trans ?_) (by simpa using told)
      rw [giveRelease_opens (by rw [face]; exact hm) (by rw [face]; exact rests) (by rw [face]; exact ha), openSelection_posts posts]
      exact congrArg accepted (release_posts (by rw [berth]; exact hp))
    · have starts : v.giveRelease f = (v.released f).startAt f i 1 :=
        giveRelease_starts (by rw [face]; exact hm) (by rw [face]; exact rests) (by rw [face]; exact ha)
      have sameFace : (v.released f).face f = (s.released f).face f := by rw [released_face, released_face, face, berth]
      have goes : ∀ {e : Engine}, EngineGoes f e (v.released f) ((v.released f).startAt f i 1) → ∃ u, answers u .accept ∧
          u.face f = { s.face f with berth := { b with release := true }, engine := e } ∧ u.outside f = v.outside f :=
        fun {e} h => ⟨_, quiet (gives (nm hm) ht hr) (by rw [starts, h.notices]; simpa [State.released] using told), by
          rw [starts, h.face, released_face, face, berth], by rw [starts, h.outside, released_outside]⟩
      have engine : ((v.released f).face f).engine = (s.face f).engine := by rw [released_face, face]
      have clock : (v.released f).msClock = s.msClock := by simp [State.released, v, State.popFrame]
      have descriptor : (v.released f).descriptor i = s.descriptor i := by simp [State.descriptor, State.released, v]
      refine ⟨fun hd => goes ?_, fun d hd => ⟨fun hn => goes ?_, fun hy ha => goes ?_⟩⟩
      · exact engine ▸ startAt_empty (descriptor.trans hd)
      · exact (startAt_waits (descriptor.trans hd) ((triggerMet_of_face sameFace _).trans hn)).of_eq (by rw [engine, clock]; rfl)
      · exact (startAt_holds (descriptor.trans hd) ((triggerMet_of_face sameFace _).trans hy) ha).of_eq (by rw [engine, clock]; rfl)
  · have withdraws := withdraw_withdraws (s := v) (by rw [face]; exact rests)
    have decides : decideWithdraw p v = (v.withdraw f, ⟨.accept, []⟩) := decideWithdraw_named v
    obtain ⟨u, run, hu, out⟩ := exec_row_calm (i := .releaseWithdraw .il g p) rfl rfl rfl rfl h decides (withdraw_outside ..)
      (by rw [withdraws.engine, face]; exact rests)
    obtain ⟨release, posted, state, align, mode, -, still, closes⟩ :=
      withdraws.of_face (s' := s) (popFrame_config ..).symm (by cases f <;> rfl) face.symm hu
    exact ⟨u, run, release, posted, state, align, mode, out, still, closes⟩

end

section
namespace Sys2Proof.Machine

/-! SUPPORT. The entry to STOPPED, the taking of a posted open and its issue (R85, R86, R105, R113, R114). -/

variable {s t u v w : State} {f g : Face} {j k : DoorIx} {p : Posted}

/-! ### The alignment result -/

/-- The result of R106 is read from the configuration, the states of the door units and the consist held. -/
theorem alignment_of (hc : t.config = s.config) (hd : ∀ j, (t.door f j).state = (s.door f j).state)
    (hb : (t.berth f).consist = (s.berth f).consist) (m : Measure) : t.alignment f m = s.alignment f m := by
  have unavailable : ∀ j, t.unavailable f j = s.unavailable f j := fun j => by
    simp only [State.unavailable, sectionActive_of hc, isolated_of hc, hd]
  have distance : ∀ x j, t.distance f x j = s.distance f x j := fun x j => by simp only [State.distance, geo_of hc]
  have nearest : ∀ x, t.nearest f x = s.nearest f x := fun x => by simp only [State.nearest, fitted_of hc, distance]
  have outcome : ∀ x cs, t.outcomeOf f x cs = s.outcomeOf f x cs := fun x cs => by
    simp only [State.outcomeOf, nearest, distance, geo_of hc, unavailable]
  have rows : ∀ h l, t.matchRows f h l = s.matchRows f h l := fun h l => by simp only [State.matchRows, outcome]
  have now : ∀ h l, t.matchNow f h l = s.matchNow f h l := fun h l => by
    simp only [State.matchNow, rows, par_of hc, fitted_of hc]
  simp only [State.alignment, hb, now]

/-- The result always has a grade (R106). -/
theorem alignment_grade (s : State) (f : Face) (m : Measure) : (s.alignment f m).grade ≠ none := by
  have matched : ∀ h l, (s.matchNow f h l).grade ≠ none := fun h l => by
    unfold State.matchNow
    dsimp only
    split <;> simp
  unfold State.alignment
  split
  · simp
  · split
    · simp
    · split
      · simp
      · exact matched _ _

/-! ### What the passing on of a result keeps -/

/-- Of a face, what the passing on of a result keeps: its berth side less the quiet condition and the posted open. -/
def FaceState.stopSide (x : FaceState) : FaceState :=
  { x.berthSide with
    quiet := false
    quietTimer := none
    berth := { x.berth with posted := none, postingTimer := none } }

/-- From `s` to `t` a result has been passed on: the face keeps all but its door units, its quiet condition and its posted
open, and the counts stay. -/
structure Handed (f : Face) (s t : State) : Prop where
  side : (t.face f).stopSide = (s.face f).stopSide
  counts : ∀ k, t.counts f k = s.counts f k
  outside : t.outside f = s.outside f

theorem Handed.refl : Handed f s s := ⟨rfl, fun _ => rfl, rfl⟩

theorem Handed.trans (h : Handed f s t) (h' : Handed f t u) : Handed f s u :=
  ⟨h'.side.trans h.side, fun k => (h'.counts k).trans (h.counts k), h'.outside.trans h.outside⟩

theorem handed_of_side (hs : t.side f = s.side f) (hn : ∀ k, t.counts f k = s.counts f k) (ho : t.outside f = s.outside f) :
    Handed f s t where
  side := congrArg (fun x : FaceState => { x with
    quiet := false, quietTimer := none, berth := { x.berth with posted := none, postingTimer := none } }) hs
  counts := hn
  outside := ho

theorem handed_of_face (hs : t.face f = s.face f) (ho : t.outside f = s.outside f) : Handed f s t :=
  handed_of_side (by rw [State.side, hs]; rfl) (fun _ => counts_of_sense (by rw [hs])) ho

namespace Handed
variable (h : Handed f s t)
include h

theorem berth : { t.berth f with posted := none, postingTimer := none } =
    { s.berth f with posted := none, postingTimer := none } := congrArg FaceState.berth h.side

theorem align : (t.face f).align = (s.face f).align := (congrArg FaceState.align h.side :)

theorem mode : (t.face f).mode = (s.face f).mode := (congrArg FaceState.mode h.side :)

theorem engine : (t.face f).engine = (s.face f).engine := (congrArg FaceState.engine h.side :)

theorem boarding : (t.face f).boarding = (s.face f).boarding := (congrArg FaceState.boarding h.side :)

theorem alighting : (t.face f).alighting = (s.face f).alighting := (congrArg FaceState.alighting h.side :)

theorem beams : (t.face f).beams = (s.face f).beams := (congrArg FaceState.beams h.side :)

theorem state : (t.berth f).state = (s.berth f).state := (congrArg Berth.state h.berth :)

theorem measure : (t.berth f).measure = (s.berth f).measure := (congrArg Berth.measure h.berth :)

theorem stopTime : (t.berth f).stopTime = (s.berth f).stopTime := (congrArg Berth.stopTime h.berth :)

theorem settleTimer : (t.berth f).settleTimer = (s.berth f).settleTimer := (congrArg Berth.settleTimer h.berth :)

theorem release : (t.berth f).release = (s.berth f).release := (congrArg Berth.release h.berth :)

theorem consist : (t.berth f).consist = (s.berth f).consist := (congrArg Berth.consist h.berth :)

theorem map : t.map f = s.map f := by rw [State.map, h.align]; rfl

theorem config : t.config = s.config := outside_eq_of State.config (fun _ => rfl) h.outside

theorem clock : t.msClock = s.msClock := outside_eq_of State.msClock (fun _ => rfl) h.outside

theorem scanDone : t.scanDone = s.scanDone := outside_eq_of State.scanDone (fun _ => rfl) h.outside

end Handed

theorem setQuiet_counts (v : Bool) : (s.setQuiet f v).counts f k = s.counts f k :=
  counts_of_sense (by rw [setQuiet_face])

/-- The quiet condition follows a Door Map that is written (R46). -/
theorem quietOfMap_face : ∃ r, (s.quietOfMap f).face f = { s.face f with quiet := false, quietTimer := r } := by
  unfold State.quietOfMap State.stopQuiet State.restartQuiet
  split
  · exact ⟨none, by rw [setQuiet_face, mapFace_face]⟩
  · exact ⟨some (s.startTimer (s.par f).quietTime), by rw [setQuiet_face, mapFace_face]⟩

theorem quietOfMap_handed : Handed f s (s.quietOfMap f) := by
  obtain ⟨r, face⟩ := quietOfMap_face (s := s) (f := f)
  exact ⟨by rw [face]; rfl, fun _ => counts_of_sense (by rw [face]), by simp⟩

theorem mapBerth_handed {h : Berth → Berth}
    (e : ∀ b, { h b with posted := none, postingTimer := none } = { b with posted := none, postingTimer := none }) :
    Handed f s (s.mapBerth f h) where
  side := by
    rw [State.mapBerth, mapFace_face]
    simp only [FaceState.stopSide, FaceState.berthSide, e]
  counts _ := counts_of_sense (by simp)
  outside := by simp

theorem reportAlignment_face : (s.reportAlignment f).face f = s.face f := by
  unfold State.reportAlignment
  dsimp only
  exact (forEach_keeps (fun x => x.face f) _ (fun _ _ => report_face ..) _ _).trans (report_face ..)

theorem recomputeClp_handed (o : Option DoorIx) : Handed f s (s.recomputeClp f o) :=
  handed_of_side (recomputeClp_side ..) (fun _ => recomputeClp_counts o) (recomputeClp_outside ..)

/-! ### The posted open of a face whose engine rests -/

section Rests
variable (h : (s.face f).engine.running = false)
include h

theorem engine_still {e : EngineState} (he : e = .waiting ∨ e = .acting ∨ e = .holding) : (s.face f).engine.state ≠ e := by
  intro hs
  rcases he with rfl | rfl | rfl <;> simp [Engine.running, hs] at h

theorem recheck_rests (x : Trigger) : s.recheck f x = s := by
  unfold State.recheck
  split
  · rfl
  · rw [if_neg]
    simp [engine_still h (.inl rfl)]

theorem postedIssued_rests (rs : List (DoorIx × ResultCode)) : s.postedIssued f rs = s := by
  simp [State.postedIssued, engine_still h (.inr (.inl rfl))]

theorem discardPosted_handed (c : DiscardCause) : Handed f s (s.discardPosted f c) := by
  have face := discardPosted_face h c
  refine ⟨?_, fun _ => counts_of_sense (by rw [face]), discardPosted_outside ..⟩
  rw [face]
  simp only [FaceState.stopSide, FaceState.berthSide]
  congr 1
  unfold Berth.discard
  split <;> rfl

/-- The posted open is issued: its door units are given OPEN, and it is gone (R114). -/
theorem issuePosted_rests (hp : (s.berth f).posted = some p) : s.issuePosted f =
    if s.map f = [] then s.discardPosted f .grade
    else (s.requestEach f (s.selectMap f p.sections p.doorMask) .open_).mapBerth f (fun b => { b with
      posted := none, postingTimer := none }) := by
  unfold State.issuePosted
  simp only [hp, List.isEmpty_iff, requestAll_eq]
  split
  · rfl
  · refine postedIssued_rests ?_ _
    rw [mapBerth_face_engine, engine_of_side (requestEach_side ..)]
    exact h

theorem issuePosted_handed : Handed f s (s.issuePosted f) := by
  cases hp : (s.berth f).posted with
  | none => rw [State.issuePosted]; simp only [hp]; exact .refl
  | some p =>
    rw [issuePosted_rests h hp]
    split
    · exact discardPosted_handed h _
    · exact (handed_of_side (requestEach_side ..) (requestEach_tended _ _).counts (requestEach_outside ..)).trans
        (mapBerth_handed fun _ => rfl)

theorem issueIfDue_handed : Handed f s (s.issueIfDue f) := by
  unfold State.issueIfDue
  split
  · exact .refl
  · split
    · exact issuePosted_handed h
    · exact .refl

omit h in
theorem setIssueTime_handed : Handed f s (s.setIssueTime f p) := by
  unfold State.setIssueTime
  dsimp only
  split <;> exact mapBerth_handed fun _ => rfl

theorem takeByGrade_handed : Handed f s (s.takeByGrade f) := by
  unfold State.takeByGrade
  split
  · exact .refl
  · split
    · exact .refl
    · split
      case h_1 | h_2 => exact setIssueTime_handed
      case h_3 | h_7 => exact .refl
      all_goals exact discardPosted_handed h _

/-- The result of a face whose engine rests is passed on. -/
theorem resultWritten_eq (b : Bool) :
    s.resultWritten f b = (((s.quietOfMap f).takeByGrade f).issueIfDue f).reportAlignment f := by
  have taken : Handed f s ((s.quietOfMap f).takeByGrade f) :=
    quietOfMap_handed.trans (takeByGrade_handed (by rw [quietOfMap_handed.engine]; exact h))
  unfold State.resultWritten
  dsimp only
  cases b
  · rfl
  · rw [if_pos rfl, recheck_rests (by rw [taken.engine]; exact h)]

theorem resultWritten_handed (b : Bool) : Handed f s (s.resultWritten f b) := by
  have quiet := quietOfMap_handed (s := s) (f := f)
  have taken := quiet.trans (takeByGrade_handed (by rw [quiet.engine]; exact h))
  have issued := taken.trans (issueIfDue_handed (by rw [taken.engine]; exact h))
  rw [resultWritten_eq h]
  exact issued.trans (handed_of_face reportAlignment_face (reportAlignment_outside ..))

end Rests

/-! ### The entry to STOPPED (R85, R86, R105) -/

/-- The record of a berth that has stopped. -/
def Berth.stoppedWith (m : Measure) (now : Ms) (b : Berth) : Berth :=
  { b with state := .stopped, measure := some m, stopTime := some now, settleTimer := none }

/-- The state of a face that has stopped, before its result is passed on. -/
def State.stoppedFor (f : Face) (c : BerthCause) (s : State) : State :=
  (((s.mapBerth f (Berth.stoppedWith (s.measureNow f) s.msClock)).setAlign f (s.alignment f (s.measureNow f))).reportBerth f
    (s.berth f).state c).clearCounts f

section Stopped
variable (c : BerthCause)

theorem stoppedFor_face : (s.stoppedFor f c).face f = { s.face f with
    berth := (s.berth f).stoppedWith (s.measureNow f) s.msClock
    align := s.alignment f (s.measureNow f)
    boarding := 0
    alighting := 0
    sense := (s.face f).sense.map (fun d => { d with boarding := 0, alighting := 0 }) } := by
  rw [State.stoppedFor, State.clearCounts, mapFace_face, State.reportBerth, report_face, State.setAlign, mapFace_face,
    State.mapBerth, mapFace_face]
  rfl

theorem stoppedFor_outside : (s.stoppedFor f c).outside f = s.outside f := by simp [State.stoppedFor, State.reportBerth]

theorem stoppedFor_doorSide : (s.stoppedFor f c).doorSide f = s.doorSide f := by
  simp [State.stoppedFor, State.reportBerth]

theorem stoppedFor_counts : (s.stoppedFor f c).counts f k = (0, 0) := by
  simp [State.counts, State.sense, stoppedFor_face]

theorem enterStopped_eq : s.enterStopped f c = ((s.stoppedFor f c).resultWritten f true).recomputeClp f none := by
  have result : (s.mapBerth f (Berth.stoppedWith (s.measureNow f) s.msClock)).alignment f (s.measureNow f) =
      s.alignment f (s.measureNow f) :=
    alignment_of (by simp) (fun j => by simp [State.door]) (by simp [State.berth, Berth.stoppedWith]) _
  unfold State.enterStopped State.stoppedFor
  rw [← result]
  rfl

/-- What the entry to STOPPED makes of a face whose engine rests. -/
structure Stops (f : Face) (s t : State) : Prop where
  state : (t.berth f).state = .stopped
  measure : (t.berth f).measure = some (s.measureNow f)
  stopTime : (t.berth f).stopTime = some s.msClock
  settleTimer : (t.berth f).settleTimer = none
  align : (t.face f).align = s.alignment f (s.measureNow f)
  boarding : (t.face f).boarding = 0
  alighting : (t.face f).alighting = 0
  release : (t.berth f).release = (s.berth f).release
  consist : (t.berth f).consist = (s.berth f).consist
  beams : (t.face f).beams = (s.face f).beams
  mode : (t.face f).mode = (s.face f).mode
  engine : (t.face f).engine = (s.face f).engine
  counts : ∀ k, t.counts f k = (0, 0)

theorem enterStopped_handed (h : (s.face f).engine.running = false) :
    Handed f (s.stoppedFor f c) (s.enterStopped f c) := by
  rw [enterStopped_eq]
  exact (resultWritten_handed (by rw [stoppedFor_face]; exact h) true).trans (recomputeClp_handed _)

theorem enterStopped_stops (h : (s.face f).engine.running = false) : Stops f s (s.enterStopped f c) := by
  have handed := enterStopped_handed c h
  have face := stoppedFor_face (s := s) (f := f) c
  have berth : (s.stoppedFor f c).berth f = (s.berth f).stoppedWith (s.measureNow f) s.msClock := congrArg FaceState.berth face
  exact ⟨by rw [handed.state, berth]; rfl, by rw [handed.measure, berth]; rfl, by rw [handed.stopTime, berth]; rfl,
    by rw [handed.settleTimer, berth]; rfl, by rw [handed.align, face], by rw [handed.boarding, face],
    by rw [handed.alighting, face], by rw [handed.release, berth]; rfl, by rw [handed.consist, berth]; rfl,
    by rw [handed.beams, face], by rw [handed.mode, face], by rw [handed.engine, face],
    fun k => by rw [handed.counts, stoppedFor_counts]⟩

omit c in
theorem measureNow_of (hc : t.config = s.config) (hf : t.face f = s.face f) : t.measureNow f = s.measureNow f := by
  simp only [State.measureNow, hf, geo_of hc]

omit c in
/-- A stop is read from the face. -/
theorem Stops.of_face {s' t' : State} (h : Stops f s t) (hc : s'.config = s.config) (hn : s'.msClock = s.msClock)
    (hs : s'.face f = s.face f) (ht : t'.face f = t.face f) : Stops f s' t' := by
  obtain ⟨state, measure, stopTime, settleTimer, align, boarding, alighting, release, consist, beams, mode, engine, counts⟩ := h
  have berth' : t'.berth f = t.berth f := congrArg FaceState.berth ht
  have berth : s'.berth f = s.berth f := congrArg FaceState.berth hs
  have measured := measureNow_of hc hs
  have aligned := alignment_of hc (fun j => by rw [door_of_face hs]) (by rw [berth]) (s'.measureNow f)
  exact ⟨by rw [berth', state], by rw [berth', measured, measure], by rw [berth', hn, stopTime], by rw [berth', settleTimer],
    by rw [ht, aligned, measured, align], by rw [ht, boarding], by rw [ht, alighting], by rw [berth', berth, release],
    by rw [berth', berth, consist], by rw [ht, hs, beams], by rw [ht, hs, mode], by rw [ht, hs, engine],
    fun k => (counts_of_sense (by rw [ht])).trans (counts k)⟩

end Stopped

end Sys2Proof.Machine
end

section
namespace Sys2Proof.Machine

/-! SUPPORT. The entries to EMPTY and DEPARTING, and possession (R89, R90, R131). -/

variable {s t u v w : State} {f g : Face} {j k : DoorIx}

/-! ### EMPTY and DEPARTING -/

section Moves
variable (he : (s.face f).engine.running = false) (hn : (s.berth f).state ≠ .empty)
include he hn

omit he in
theorem moveBerth_leaves (st : BerthState) (c : BerthCause) (edit : Berth → Berth) :
    (s.moveBerth f st c edit).side f = { s.side f with berth := { edit (s.berth f) with state := st } } := by
  rw [moveBerth_side, if_neg (by simp [hn])]
  rfl

/-- A berth that leaves another state for EMPTY (R90). -/
theorem enterEmpty_side (c : BerthCause) : (s.enterEmpty f c).side f = { s.side f with
    berth := Berth.discard { (s.berth f).emptied with state := .empty }
    align := Alignment.blank, quietTimer := none, quiet := false } := by
  have moved := moveBerth_leaves hn .empty c Berth.emptied
  have record : (s.moveBerth f .empty c Berth.emptied).berth f = { (s.berth f).emptied with state := .empty } :=
    congrArg FaceState.berth moved
  have rests : ((s.moveBerth f .empty c Berth.emptied).face f).engine.running = false :=
    (congrArg (fun x : FaceState => x.engine.running) moved).trans he
  rw [State.enterEmpty, disarmAll_side, clearAlign_side, discardPosted_side rests, record, moved]

theorem enterEmpty_doors (c : BerthCause) : ((s.enterEmpty f c).face f).doors = (s.face f).doors := by
  have rests : ((s.moveBerth f .empty c Berth.emptied).face f).engine.running = false :=
    (congrArg (fun x : FaceState => x.engine.running) (moveBerth_leaves hn .empty c Berth.emptied)).trans he
  rw [State.enterEmpty, disarmAll_doors, clearAlign_face, discardPosted_face rests]
  exact moveBerth_doors (.inr hn) ..

/-- A berth in DEPARTING, before its beams are looked at (R89). -/
def State.departing (f : Face) (s : State) : State :=
  ((s.moveBerth f .departing .departed id).clearAlign f).discardPosted f .berth

theorem departing_side : (s.departing f).side f = { s.side f with
    berth := Berth.discard { s.berth f with state := .departing }
    align := Alignment.blank, quietTimer := none, quiet := false } := by
  have moved := moveBerth_leaves hn .departing .departed id
  have cleared := (clearAlign_side (s.moveBerth f .departing .departed id) f).trans (by rw [moved])
  have record : ((s.moveBerth f .departing .departed id).clearAlign f).berth f = { s.berth f with state := .departing } :=
    congrArg FaceState.berth cleared
  rw [State.departing, discardPosted_side, record, cleared]
  exact (congrArg (fun x : FaceState => x.engine.running) cleared).trans he

theorem departing_doors : ((s.departing f).face f).doors = (s.face f).doors := by
  have rests : (((s.moveBerth f .departing .departed id).clearAlign f).face f).engine.running = false := by
    rw [clearAlign_face]
    exact (congrArg (fun x : FaceState => x.engine.running) (moveBerth_leaves hn .departing .departed id)).trans he
  rw [State.departing, discardPosted_face rests, clearAlign_face]
  exact moveBerth_doors (.inr hn) ..

theorem depart_eq : s.depart f =
    if (s.beams f).allClear then (s.departing f).enterEmpty f .beamsClear else s.departing f := by
  have side := departing_side he hn
  have state : ((s.departing f).berth f).state = .departing :=
    (congrArg (fun x : FaceState => x.berth.state) side).trans (discard_state _)
  have beams : (s.departing f).beams f = s.beams f := (congrArg FaceState.beams side :)
  show (s.departing f).emptyIfClear f = _
  simp [State.emptyIfClear, state, beams]

/-- What DEPARTED makes of a STOPPED berth (R89, R90). -/
structure Departs (f : Face) (s t : State) : Prop where
  state : (t.berth f).state = if (s.beams f).allClear then .empty else .departing
  align : (t.face f).align = Alignment.blank
  posted : (t.berth f).posted = none
  emptied : (s.beams f).allClear = true → (t.berth f).consist = none ∧ (t.berth f).measure = none
  mode : (t.face f).mode = (s.face f).mode
  engine : (t.face f).engine = (s.face f).engine
  doors : (t.face f).doors = (s.face f).doors

omit he hn in
theorem discard_consist (b : Berth) : b.discard.consist = b.consist := by unfold Berth.discard; split <;> rfl

omit he hn in
theorem discard_measure (b : Berth) : b.discard.measure = b.measure := by unfold Berth.discard; split <;> rfl

theorem depart_departs : Departs f s (s.depart f) := by
  have side := departing_side he hn
  have rests : ((s.departing f).face f).engine.running = false :=
    (congrArg (fun x : FaceState => x.engine.running) side).trans he
  have state : ((s.departing f).berth f).state = .departing :=
    (congrArg (fun x : FaceState => x.berth.state) side).trans (discard_state _)
  have away : ((s.departing f).berth f).state ≠ .empty := by simp [state]
  rw [depart_eq he hn]
  split
  · next clear =>
    have emptied := enterEmpty_side rests away .beamsClear
    have berth : ((s.departing f).enterEmpty f .beamsClear).berth f = _ := (congrArg FaceState.berth emptied :)
    refine ⟨?_, (congrArg FaceState.align emptied :), ?_, fun _ => ⟨?_, ?_⟩, ?_, ?_, (enterEmpty_doors rests away _).trans
      (departing_doors he hn)⟩
    · rw [berth, discard_state, if_pos clear]
    · rw [berth, discard_posted]
    · rw [berth, discard_consist]; rfl
    · rw [berth, discard_measure]; rfl
    · exact (congrArg FaceState.mode emptied :).trans (congrArg FaceState.mode side :)
    · exact (congrArg FaceState.engine emptied :).trans (congrArg FaceState.engine side :)
  · next clear =>
    refine ⟨by rw [state, if_neg clear], (congrArg FaceState.align side :), ?_, fun h => absurd h clear,
      (congrArg FaceState.mode side :), (congrArg FaceState.engine side :), departing_doors he hn⟩
    exact (congrArg (fun x : FaceState => x.berth.posted) side).trans (discard_posted _)

end Moves

/-! ### Possession -/

theorem grantPossession_face : (s.grantPossession f).face f =
    { s.face f with mode := { (s.face f).mode with possession := true } } := by
  unfold State.grantPossession
  split
  · next h => rw [← h]
  · rw [reportMode_face, State.mapMode, mapFace_face]

/-- A revocation gives every fitted door unit a CLOSE (R131). -/
theorem revokePossession_face (hp : (s.face f).mode.possession = true) (c : Byte) :
    (s.revokePossession f c).face f = ((s.dropPossession f).closeAll f).face f := by
  rw [State.revokePossession, if_pos hp, reportMode_face]

theorem dropPossession_face :
    (s.dropPossession f).face f = { s.face f with mode := { (s.face f).mode with possession := false } } := by
  rw [State.dropPossession, State.mapMode, mapFace_face]

theorem dropPossession_law (l : s.startQueueLaw f) : (s.dropPossession f).startQueueLaw f := by
  have face := dropPossession_face (s := s) (f := f)
  rw [startQueueLaw_iff] at l ⊢
  rwa [doorSide_of (s := s) (by simp [State.dropPossession]) (by simp [State.dropPossession]) (by rw [face])
      (fun k => by simp [State.door, face])
    (fun k => by simp [State.sense, face]) fun p => by simp [State.group, face]]

end Sys2Proof.Machine
end

section
open Sys2Proof Sys2Proof.Machine

/-- Settles O47: each request decided on its face, whose engine rests. -/
theorem berthAndPossessionRequests : Obligations.BerthAndPossessionRequests := by
  intro f g s hs p b v m
  obtain ⟨powered, notices, rests⟩ := calm_iff.1 hs
  have face : v.face f = s.face f := popFrame_face ..
  have berth : v.berth f = b := congrArg FaceState.berth face
  have config : v.config = s.config := popFrame_config ..
  have clock : v.msClock = s.msClock := by simp [v, State.popFrame]
  have told : v.notices = [] := (popFrame_notices ..).trans notices
  have still : (v.face f).engine.running = false := by rw [face]; exact rests
  have named : faceOf (byteAt p 0) = some f := byteAt_faceCode f []
  refine ⟨fun h hb => ?_, fun h => ⟨fun hb hr hc => ?_, fun hn => ?_⟩, fun h hm hb => ?_, fun h hp => ?_⟩
  · have decides : decideAtRest p v = (v.enterStopped f .trainAtRest, ⟨.accept, []⟩) := by
      rw [decideAtRest, withFace_named named, berth, if_pos hb]; rfl
    have stops := enterStopped_stops .trainAtRest still
    obtain ⟨u, run, hu, out⟩ := exec_row_calm (i := .trainAtRest .il g p) rfl rfl rfl rfl h decides (enterStopped_outside ..)
      (by rw [stops.engine]; exact still)
    have stopped := stops.of_face config.symm clock.symm face.symm hu
    exact ⟨u, run, stopped.state, stopped.measure, stopped.stopTime, stopped.align, stopped.boarding, stopped.alighting,
      fun j => ⟨congrArg Prod.fst (stopped.counts j), congrArg Prod.snd (stopped.counts j)⟩, out⟩
  · have decides : decideDeparted p v = (v.depart f, ⟨.accept, []⟩) := by
      rw [decideDeparted, withFace_named named, berth, face, if_pos (by simp [hb, hr, hc])]; rfl
    have departs := depart_departs still (by rw [berth, hb]; decide)
    obtain ⟨u, run, hu, out⟩ := exec_row_calm (i := .departed .il g p) rfl rfl rfl rfl h decides (depart_outside ..)
      (by rw [departs.engine]; exact still)
    have beams : v.beams f = s.beams f := congrArg FaceState.beams face
    have left : u.berth f = (v.depart f).berth f := congrArg FaceState.berth hu
    refine ⟨u, run, by rw [left, departs.state, beams], by rw [hu, departs.align], by rw [left, departs.posted], ?_,
      by rw [hu, departs.mode, face], out, by rw [hu, departs.doors, face]⟩
    rw [left, ← beams]
    exact departs.emptied
  · have decides : decideDeparted p v = (v, ⟨.notReady, []⟩) := by
      rw [decideDeparted, withFace_named named, berth, face, if_neg (by simpa [and_assoc] using hn)]; rfl
    exact exec_row_quiet (i := .departed .il g p) rfl rfl rfl rfl h decides told
  · have decides : decideGrant p v = (v.grantPossession f, ⟨.accept, []⟩) := by
      rw [decideGrant, withFace_named named, face, berth, if_neg (by simp [show (s.face f).mode.mode = _ from hm]),
        if_neg (by simp [hb])]; rfl
    obtain ⟨u, run, hu, out⟩ := exec_row_calm (i := .possessionGrant .il g p) rfl rfl rfl rfl h decides (grantPossession_outside ..)
      (by rw [grantPossession_face]; exact still)
    exact ⟨u, run, by rw [hu, grantPossession_face, face], out⟩
  · have possessed : (v.face f).mode.possession = true := by rw [face]; exact hp
    have decides : decideRevoke p v = (v.revokePossession f 3, ⟨.accept, []⟩) := by
      rw [decideRevoke, withFace_named named]; rfl
    have revoked := revokePossession_face possessed 3
    have dropped : (v.dropPossession f).face f = { s.face f with mode := { m with possession := false } } := by
      rw [dropPossession_face, face]
    have side : (v.revokePossession f 3).side f = (v.dropPossession f).side f := (side_of_face revoked).trans (closeAll_side f)
    obtain ⟨u, run, hu, out⟩ := exec_row_calm (i := .possessionRevoke .il g p) rfl rfl rfl rfl h decides
      (revokePossession_outside ..) (by rw [engine_of_side side, dropped]; exact rests)
    refine ⟨u, run, by rw [hu, mode_of_side side, dropped], ?_, out, fun hl k => ?_, fun hl l => ?_⟩
    · exact (congrArg FaceState.berth hu).trans ((berth_of_side side).trans (congrArg FaceState.berth dropped :))
    · have refused : (v.dropPossession f).closeAll f = v.dropPossession f := closeAll_latched (by rw [dropped]; exact hl)
      have same : u.face f = { s.face f with mode := { m with possession := false } } := by rw [hu, revoked, refused, dropped]
      exact ⟨by simp [State.unit, State.door, State.sense, same], fun g => by simp [State.group, same]⟩
    · have law : (v.dropPossession f).startQueueLaw f :=
        dropPossession_law ((law_of_face config (by cases f <;> rfl) face).2 l)
      have closes := closeAll_closesEach law (by rw [dropped]; exact hl)
      intro j hf ht hi
      have closed := closes j (by rw [isFitted_of (s := s) (by simp [State.dropPossession, config])]; exact hf) ht
        (by rw [isolated_of (s := s) (by simp [State.dropPossession, config])]; exact hi)
      rw [show (v.dropPossession f).door f j = s.door f j by simp [State.door, dropped]] at closed
      rwa [door_of_face (hu.trans revoked)]

end

section
namespace Sys2Proof.Machine

/-! SUPPORT. A posted open at the entry to STOPPED and at its issue time (R113, R114). -/

variable {s t u v w : State} {f g : Face} {j k : DoorIx} {p : Posted}

/-- Of a face, what a result may change: its door units, its power groups and its posted open. -/
def FaceState.atDoors (x : FaceState) : Vector DoorRec 32 × Vector Group 4 × Berth := (x.doors, x.groups, x.berth)

theorem mem_selectMap {a : BitVec 8} {m : BitVec 32} : j ∈ s.selectMap f a m ↔ j ∈ s.map f ∧
    (a.getLsbD ((s.geo f).doors[j]).section_.val = true ∨ m.getLsbD j.val = true) := by
  simp [State.selectMap, State.inSections]

/-! ### The issue of a posted open -/

section Issue
variable (h : (s.face f).engine.running = false) (hp : (s.berth f).posted = some p)
include h hp

theorem issuePosted_berth :
    (s.issuePosted f).berth f = { s.berth f with posted := none, postingTimer := none } := by
  rw [issuePosted_rests h hp]
  split
  · rw [State.berth, discardPosted_face h]
    simp [Berth.discard, hp]
  · rw [State.berth, mapBerth_face_berth]
    exact congrArg (fun b : Berth => { b with posted := none, postingTimer := none }) (berth_of_side (requestEach_side ..))

/-- With an empty Door Map the posted open asks nothing of a door unit. -/
theorem issuePosted_empty (hm : s.map f = []) :
    ((s.issuePosted f).face f).doors = (s.face f).doors ∧ ((s.issuePosted f).face f).groups = (s.face f).groups := by
  rw [issuePosted_rests h hp, if_pos hm, discardPosted_face h]
  exact ⟨rfl, rfl⟩

/-- The door units of the Door Map that the masks select are given OPEN. -/
theorem issuePosted_opensEach (l : s.startQueueLaw f) : s.opensEach f .normal (fun j => j ∈ s.map f ∧
    (p.sections.getLsbD ((s.geo f).doors[j]).section_.val = true ∨ p.doorMask.getLsbD j.val = true))
    (s.mayLeaveLocked f) (s.issuePosted f) := by
  intro j _ hj hi
  have some : s.map f ≠ [] := List.ne_nil_of_mem hj.1
  have opened := requestEach_openedFrom .normal (s.selectMap f p.sections p.doorMask) l (mem_selectMap.2 hj) hi
  rw [issuePosted_rests h hp, if_neg some]
  simpa [State.door, ReqClass.request] using opened

end Issue

/-! ### The posted open taken by the grade -/

section Taken
variable (hp : (s.berth f).posted = some p) (hi : p.issueTime = none)
include hp hi

/-- A posted open with no issue time is not issued. -/
theorem issueIfDue_waits : s.issueIfDue f = s := by
  unfold State.issueIfDue
  simp [hp, hi]

theorem takeByGrade_serves (hg : (s.face f).align.grade = some .full ∨ (s.face f).align.grade = some .partial_) :
    s.takeByGrade f = s.setIssueTime f p := by
  unfold State.takeByGrade
  rcases hg with hg | hg <;> simp [hp, hi, hg]

theorem takeByGrade_keeps (hg : (s.face f).align.grade = some .noConsist) : s.takeByGrade f = s := by
  unfold State.takeByGrade
  simp [hp, hi, hg]

theorem takeByGrade_discards (hg : (s.face f).align.grade ≠ none) (hn : (s.face f).align.grade ≠ some .noConsist)
    (hs : ¬((s.face f).align.grade = some .full ∨ (s.face f).align.grade = some .partial_)) :
    s.takeByGrade f = s.discardPosted f .grade := by
  unfold State.takeByGrade
  simp only [hp, hi, Option.isSome_none, Bool.false_eq_true, if_false]
  split <;> simp_all

end Taken

theorem takeByGrade_none (hp : (s.berth f).posted = none) : s.takeByGrade f = s := by
  unfold State.takeByGrade
  simp [hp]

theorem issueIfDue_none (hp : (s.berth f).posted = none) : s.issueIfDue f = s := by
  unfold State.issueIfDue
  simp [hp]

/-- With its delay past, a posted open is issued at once. -/
theorem takeByGrade_issues (hp : (s.berth f).posted = some p)
    (hi : p.issueTime = none) (ht : (s.berth f).postingTimer = none)
    (hg : (s.face f).align.grade = some .full ∨ (s.face f).align.grade = some .partial_)
    (hd : (s.par f).postedDelay ≤ (s.msClock - p.postTime).toNat) :
    (s.takeByGrade f).issueIfDue f = (s.mapBerth f (fun b => { b with
      posted := some { p with issueTime := some s.msClock } })).issuePosted f := by
  rw [takeByGrade_serves hp hi hg, State.setIssueTime]
  simp only [show elapsedMs s.msClock p.postTime = (s.msClock - p.postTime).toNat from rfl, if_pos hd]
  unfold State.issueIfDue
  simp only [State.berth] at ht
  simp [State.berth, ht]

/-- Before its delay is past, a posted open is given its issue time, and the posting timer runs up to it. -/
theorem takeByGrade_delays (hp : (s.berth f).posted = some p)
    (hi : p.issueTime = none)
    (hg : (s.face f).align.grade = some .full ∨ (s.face f).align.grade = some .partial_)
    (hd : (s.msClock - p.postTime).toNat < (s.par f).postedDelay) :
    (s.takeByGrade f).issueIfDue f = s.mapBerth f (fun b => { b with
      posted := some { p with issueTime := some (p.postTime + BitVec.ofNat 32 (s.par f).postedDelay) }
      postingTimer := some ⟨s.msClock, (s.par f).postedDelay - (s.msClock - p.postTime).toNat⟩ }) := by
  rw [takeByGrade_serves hp hi hg, State.setIssueTime]
  simp only [show elapsedMs s.msClock p.postTime = (s.msClock - p.postTime).toNat from rfl, if_neg (Nat.not_le.2 hd)]
  unfold State.issueIfDue
  simp [State.berth, State.startTimer]

/-! ### The result of a stop, about to be taken -/

/-- A face that has stopped, its quiet condition settled, about to take its posted open. -/
def State.resultDue (f : Face) (c : BerthCause) (s : State) : State := (s.stoppedFor f c).quietOfMap f

section Due
variable (c : BerthCause)

theorem resultDue_face : ∃ r, (s.resultDue f c).face f = { (s.stoppedFor f c).face f with quiet := false, quietTimer := r } :=
  quietOfMap_face

theorem resultDue_handed : Handed f (s.stoppedFor f c) (s.resultDue f c) := quietOfMap_handed

theorem resultDue_outside : (s.resultDue f c).outside f = s.outside f :=
  (resultDue_handed c).outside.trans (stoppedFor_outside c)

theorem resultDue_berth : (s.resultDue f c).berth f = (s.berth f).stoppedWith (s.measureNow f) s.msClock := by
  obtain ⟨r, face⟩ := resultDue_face (s := s) (f := f) c
  rw [State.berth, face, stoppedFor_face]

theorem resultDue_align : ((s.resultDue f c).face f).align = s.alignment f (s.measureNow f) := by
  obtain ⟨r, face⟩ := resultDue_face (s := s) (f := f) c
  rw [face, stoppedFor_face]

theorem resultDue_mode : ((s.resultDue f c).face f).mode = (s.face f).mode := by
  obtain ⟨r, face⟩ := resultDue_face (s := s) (f := f) c
  rw [face, stoppedFor_face]

theorem resultDue_engine : ((s.resultDue f c).face f).engine = (s.face f).engine := by
  obtain ⟨r, face⟩ := resultDue_face (s := s) (f := f) c
  rw [face, stoppedFor_face]

theorem resultDue_doors : ((s.resultDue f c).face f).doors = (s.face f).doors := by
  obtain ⟨r, face⟩ := resultDue_face (s := s) (f := f) c
  rw [face, stoppedFor_face]

theorem resultDue_groups : ((s.resultDue f c).face f).groups = (s.face f).groups := by
  obtain ⟨r, face⟩ := resultDue_face (s := s) (f := f) c
  rw [face, stoppedFor_face]

theorem resultDue_config : (s.resultDue f c).config = s.config :=
  outside_eq_of State.config (fun _ => rfl) (resultDue_outside c)

theorem resultDue_clock : (s.resultDue f c).msClock = s.msClock :=
  outside_eq_of State.msClock (fun _ => rfl) (resultDue_outside c)

theorem resultDue_law (l : s.startQueueLaw f) : (s.resultDue f c).startQueueLaw f := by
  rw [startQueueLaw_iff] at l ⊢
  rwa [State.resultDue, quietOfMap_doorSide, stoppedFor_doorSide]

/-- The entry to STOPPED leaves of door units, groups and posted open what the taking of the posted open leaves. -/
theorem enterStopped_atDoors (h : (s.face f).engine.running = false) : ((s.enterStopped f c).face f).atDoors =
    ((((s.resultDue f c).takeByGrade f).issueIfDue f).face f).atDoors := by
  have taken : (s.stoppedFor f c).resultWritten f true =
      (((s.resultDue f c).takeByGrade f).issueIfDue f).reportAlignment f :=
    resultWritten_eq (by rw [stoppedFor_face]; exact h) true
  rw [enterStopped_eq, taken]
  have berth : ∀ x : State, ((x.recomputeClp f none).face f).berth = (x.face f).berth := fun x =>
    berth_of_side (recomputeClp_side ..)
  simp only [FaceState.atDoors, recomputeClp_doors, recomputeClp_groups, berth, reportAlignment_face]

end Due

end Sys2Proof.Machine
end

section
open Sys2Proof Sys2Proof.Machine

/-- Settles O24: the posted open taken by the grade of the stop, and issued at its time. -/
theorem stopAndPostedOpen : Obligations.StopAndPostedOpen := by
  refine ⟨fun f s m hs hb hm due => ?_, fun f s m p hs hp hm due l => ?_⟩
  · obtain ⟨powered, notices, rests⟩ := calm_iff.1 hs
    have stops := enterStopped_stops .settleTimer rests
    have acts : exec (.settleTimerExpiry f) s = s.event (State.enterStopped f .settleTimer) :=
      event_congr ((if_pos hb).trans (expiry_due _ hm due))
    obtain ⟨t, run, ht, out⟩ := event_calm (op := State.enterStopped f .settleTimer) powered (by simp [notices])
      (enterStopped_outside s f _) (by rw [stops.engine]; exact rests)
    have stopped := stops.of_face (s' := s) rfl rfl rfl ht
    let r := s.resultDue f .settleTimer
    have taken : (t.face f).atDoors = (((r.takeByGrade f).issueIfDue f).face f).atDoors :=
      (congrArg FaceState.atDoors ht).trans (enterStopped_atDoors .settleTimer rests)
    have restsDue : (r.face f).engine.running = false := by rw [resultDue_engine]; exact rests
    have posted : (r.berth f).posted = (s.berth f).posted := by rw [resultDue_berth]; rfl
    have timer : (r.berth f).postingTimer = (s.berth f).postingTimer := by rw [resultDue_berth]; rfl
    have grade : (r.face f).align.grade = (s.alignment f (s.measureNow f)).grade := by rw [resultDue_align]
    have left : ∀ x : State, (t.face f).atDoors = (x.face f).atDoors → (x.face f).doors = (r.face f).doors →
        (x.face f).groups = (r.face f).groups →
        t.berth f = x.berth f ∧ (t.face f).doors = (s.face f).doors ∧ (t.face f).groups = (s.face f).groups := fun x e hd hg =>
      ⟨congrArg (fun y => y.2.2) e, (congrArg Prod.fst e).trans (hd.trans (resultDue_doors _)),
        (congrArg (fun y => y.2.1) e).trans (hg.trans (resultDue_groups _))⟩
    refine ⟨t, acts.trans run, stopped.state, stopped.measure, stopped.stopTime, stopped.settleTimer, stopped.align,
      stopped.boarding, stopped.alighting, stopped.release, stopped.consist, stopped.beams, stopped.mode, out, fun hp => ?_,
      fun j => ⟨congrArg Prod.fst (stopped.counts j), congrArg Prod.snd (stopped.counts j)⟩, fun p hp hi ht => ?_⟩
    · have none : (r.berth f).posted = none := posted.trans hp
      rw [takeByGrade_none none, issueIfDue_none none] at taken
      obtain ⟨berth, doors, groups⟩ := left r taken rfl rfl
      exact ⟨by rw [berth, none], doors, groups⟩
    · have held : (r.berth f).posted = some p := posted.trans hp
      have quiet : (r.berth f).postingTimer = none := timer.trans ht
      intro a past delay m serves leaves still
      have clock : r.msClock = s.msClock := resultDue_clock _
      have par : r.par f = s.par f := par_of (resultDue_config _) f
      have serving : serves → (r.face f).align.grade = some .full ∨ (r.face f).align.grade = some .partial_ := by
        rw [grade]; exact id
      refine ⟨fun hn hg => ?_, fun hn hg => ?_, fun hs hd => ?_, fun hs hd => ?_⟩
      · rw [takeByGrade_keeps held hi (grade.trans hg), issueIfDue_waits held hi] at taken
        obtain ⟨berth, doors, groups⟩ := left r taken rfl rfl
        exact ⟨⟨by rw [berth, held], by rw [berth, quiet]⟩, doors, groups⟩
      · have face := discardPosted_face restsDue .grade
        have gone : ((r.discardPosted f .grade).berth f) = (r.berth f).discard := congrArg FaceState.berth face
        rw [takeByGrade_discards held hi (by rw [grade]; exact alignment_grade s f _) (by rw [grade]; exact hg)
          (by rw [grade]; exact hn), issueIfDue_none (by rw [gone, discard_posted])] at taken
        obtain ⟨berth, doors, groups⟩ := left _ taken (by rw [face]) (by rw [face])
        refine ⟨⟨by rw [berth, gone, discard_posted], ?_⟩, doors, groups⟩
        rw [berth, gone, Berth.discard, held]
        rfl
      · rw [takeByGrade_delays held hi (serving hs) (by rw [clock, par]; exact hd)] at taken
        obtain ⟨berth, doors, groups⟩ := left _ taken (by simp) (by simp)
        exact ⟨⟨doors, groups⟩, by rw [berth, par]; simp [State.berth, delay],
          by rw [berth, clock, par]; simp [State.berth, past, delay]⟩
      · rw [takeByGrade_issues held hi quiet (serving hs) (by rw [clock, par]; exact hd)] at taken
        let x : State := r.mapBerth f (fun b => { b with posted := some { p with issueTime := some r.msClock } })
        have xface : x.face f = { r.face f with
            berth := { r.berth f with posted := some { p with issueTime := some r.msClock } } } := mapFace_face ..
        have xrests : (x.face f).engine.running = false := by rw [xface]; exact restsDue
        have xposted : (x.berth f).posted = some { p with issueTime := some r.msClock } := by rw [State.berth, xface]
        have gone : t.berth f = { x.berth f with posted := none, postingTimer := none } :=
          (congrArg (fun y => y.2.2) taken).trans (issuePosted_berth xrests xposted)
        refine ⟨⟨by rw [gone], by rw [gone]⟩, fun l j hf hj hi => ?_⟩
        have config : x.config = s.config := (mapBerth_config ..).trans (resultDue_config _)
        have law : x.startQueueLaw f := by
          have due := resultDue_law .settleTimer l
          rw [startQueueLaw_iff] at due ⊢
          rwa [mapBerth_doorSide]
        have map : x.map f = a.map := by rw [State.map, xface]; exact congrArg Alignment.map (resultDue_align _)
        have mode : (x.face f).mode = m := by rw [xface]; exact resultDue_mode _
        have state : (x.berth f).state = .stopped := by
          rw [State.berth, xface]; exact (congrArg Berth.state (resultDue_berth _) :)
        have release : (x.berth f).release = (s.berth f).release := by
          rw [State.berth, xface]; exact (congrArg Berth.release (resultDue_berth _) :)
        have permitted : x.mayLeaveLocked f j = ((m.mode = .automatic ∨ m.mode = .supervised) ∧ (s.berth f).release = true
            ∨ m.latch = true ∨ m.mode = .local_ ∧ m.key = .localOpen) := by
          simp [State.mayLeaveLocked, mode, state, release, map, hj.1]
        have door : x.door f j = s.door f j := by
          rw [State.door, xface, resultDue_doors]
          rfl
        have opened := issuePosted_opensEach xrests xposted law j (by rw [isFitted_of config]; exact hf)
          (by rw [map, geo_of config]; exact hj) (by rw [isolated_of config]; exact hi)
        have same : t.door f j = (x.issuePosted f).door f j := congrArg (fun y => y.1[j]) taken
        rw [permitted, door] at opened
        rwa [same]
  · obtain ⟨powered, notices, rests⟩ := calm_iff.1 hs
    have handed := issuePosted_handed rests
    obtain ⟨t, run, ht, out⟩ := event_calm (op := State.issuePosted f) powered (by simp [notices])
      (issuePosted_outside s f) (by rw [handed.engine]; exact rests)
    have acts : exec (.postingTimerExpiry f) s = s.event (State.issuePosted f) := event_congr (expiry_due _ hm due)
    refine ⟨t, acts.trans run, (congrArg FaceState.berth ht).trans (issuePosted_berth rests hp), fun _ => ?_, fun hn => ?_,
      by rw [ht, handed.beams], by rw [ht, handed.mode], by rw [ht, handed.align], out⟩
    · exact (opensEach_of_face rfl rfl ht).2 (issuePosted_opensEach rests hp l)
    · rw [ht]
      exact issuePosted_empty rests hp hn

end

section
namespace Sys2Proof.Machine

/-! SUPPORT. DOOR COMMAND: the selection that its payload carries, and what each selection asks of the door units (R113, R126). -/

variable {s t u v w : State} {f g : Face} {j k : DoorIx} {x : Selection} {kind : Byte} {n : Nat}

/-! ### The payload -/

theorem readNat_be32 (h : n < 2 ^ 32) : readNat (be32 n) = n := by
  simp only [readNat, be32, b8, List.foldl_cons, List.foldl_nil, BitVec.toNat_ofNat]
  omega

/-- The payload of a DOOR COMMAND. -/
def commandPayload (f : Face) (a kind : Byte) (n : Nat) : List Byte := [faceCode f, a, kind] ++ be32 n

theorem commandPayload_mask (a : Byte) (h : n < 2 ^ 32) : intAt (commandPayload f a kind n) 3 4 = n := readNat_be32 h

/-- The selection that a DOOR COMMAND carries. -/
def commandSelection (kind : Byte) (n : Nat) : Selection :=
  ⟨if kind = 0 then .served else if kind = 1 then .sections else .explicit, BitVec.ofNat 32 n⟩

/-- The kinds and masks of a DOOR COMMAND on a face with a count of door units. -/
abbrev Selects (kind : Byte) (n limit : Nat) : Prop := kind = 0 ∨ kind = 1 ∧ n < 2 ^ 8 ∨ kind = 2 ∧ n < 2 ^ limit

theorem selectionOf_command {limit : Nat} (h : Selects kind n limit) :
    selectionOf kind.toNat n limit = some (commandSelection kind n) := by
  rcases h with rfl | ⟨rfl, h⟩ | ⟨rfl, h⟩
  · rfl
  · exact if_pos h
  · exact if_pos h

/-- A door unit that a selection names, its Door Map apart. -/
def State.flags (s : State) (f : Face) (kind : Byte) (n : Nat) (j : DoorIx) : Prop :=
  kind = 0 ∨ kind = 1 ∧ n.testBit ((s.geo f).doors[j]).section_.val = true ∨ kind = 2 ∧ n.testBit j.val = true

theorem testBit_mask (i : Nat) (h : i < 32) : (BitVec.ofNat 32 n).getLsbD i = n.testBit i := by
  rw [BitVec.getLsbD_ofNat, decide_eq_true h, Bool.true_and]

theorem command_masks {limit : Nat} (h : Selects kind n limit) (hk : kind ≠ 2) :
    (commandSelection kind n).sections = (if kind = 0 then 0xFF#8 else BitVec.ofNat 8 n) ∧
      (commandSelection kind n).doorMask = 0#32 := by
  rcases h with rfl | ⟨rfl, -⟩ | ⟨h, -⟩
  · exact ⟨rfl, rfl⟩
  · exact ⟨BitVec.setWidth_ofNat_of_le (by decide) n, rfl⟩
  · exact absurd h hk

/-- With the Door Map, SERVED and SECTIONS select the door units that they name. -/
theorem mem_command_map {limit : Nat} (h : Selects kind n limit) (hk : kind ≠ 2) :
    j ∈ s.selectMap f (commandSelection kind n).sections (commandSelection kind n).doorMask ↔
      j ∈ s.map f ∧ s.flags f kind n j := by
  rw [mem_selectMap]
  rcases h with rfl | ⟨rfl, h⟩ | ⟨h, -⟩
  · have all : ∀ i : Fin 8, (0xFF#8).getLsbD i.val = true := by decide
    simp [commandSelection, Selection.sections, State.flags, all]
  · have bit : ∀ i : Fin 8, ((BitVec.ofNat 32 n).setWidth 8).getLsbD i.val = n.testBit i.val := fun i => by
      rw [BitVec.getLsbD_setWidth, testBit_mask _ (by omega)]
      simp
    have sections : (commandSelection 1 n).sections = (BitVec.ofNat 32 n).setWidth 8 := rfl
    have doors : (commandSelection 1 n).doorMask = 0#32 := rfl
    rw [sections, doors, bit]
    simp [State.flags]
  · exact absurd h hk

/-- EXPLICIT selects the fitted door units of its mask. -/
theorem mem_command_explicit :
    j ∈ (s.fitted f).filter (fun j => (BitVec.ofNat 32 n).getLsbD j.val) ↔ s.isFitted f j = true ∧ n.testBit j.val = true := by
  rw [List.mem_filter, mem_fitted, testBit_mask _ j.isLt]

/-- The door units that a CLOSE reaches. -/
theorem mem_commandReach {limit : Nat} (h : Selects kind n limit) (hf : s.isFitted f j = true) (hj : s.flags f kind n j)
    (hm : kind = 0 → j ∈ s.map f) : j ∈ s.commandReach f (commandSelection kind n) := by
  rcases h with rfl | ⟨rfl, -⟩ | ⟨rfl, -⟩
  · exact hm rfl
  · have bit := testBit_mask (n := n) ((s.geo f).doors[j]).section_.val (by omega)
    have reach : s.commandReach f (commandSelection 1 n) =
        (s.fitted f).filter (fun j => s.inSections f j ((BitVec.ofNat 32 n).setWidth 8)) := rfl
    have named : n.testBit ((s.geo f).doors[j]).section_.val = true := by simpa [State.flags] using hj
    rw [reach, List.mem_filter, mem_fitted]
    refine ⟨hf, ?_⟩
    rw [State.inSections, BitVec.getLsbD_setWidth, bit, named]
    simp
  · exact mem_command_explicit.2 ⟨hf, by simpa [State.flags] using hj⟩

/-! ### The decision -/

section Decision
variable {limit : Nat} (hn : n < 2 ^ 32) (h : Selects kind n (s.geo f).n)
include hn h

theorem decideDoorCommand_eq (a : Byte) (ha : a.toNat < 2) : decideDoorCommand (commandPayload f a kind n) s =
    if (s.face f).mode.mode = .automatic || (s.face f).mode.mode = .local_ then refuse .wrongMode s
    else if a.toNat = 0 then s.commandOpen f (commandSelection kind n)
    else s.commandClose f (commandSelection kind n) := by
  have named : faceOf (byteAt (commandPayload f a kind n) 0) = some f := byteAt_faceCode f _
  have kinds : byteAt (commandPayload f a kind n) 2 = kind.toNat := rfl
  have motion : byteAt (commandPayload f a kind n) 1 = a.toNat := rfl
  rw [decideDoorCommand, withFace_named named]
  simp only [kinds, motion, commandPayload_mask a hn, selectionOf_command h, if_neg (Nat.not_le.2 ha)]

theorem decideDoorCommand_wrongMode (a : Byte) (ha : a.toNat < 2)
    (hm : (s.face f).mode.mode = .automatic ∨ (s.face f).mode.mode = .local_) :
    decideDoorCommand (commandPayload f a kind n) s = refuse .wrongMode s := by
  rw [decideDoorCommand_eq hn h a ha, if_pos (by simpa using hm)]

section Taken
variable (hm : (s.face f).mode.mode = .supervised ∨ (s.face f).mode.mode = .maintenance)
include hm

theorem decideDoorCommand_opens :
    decideDoorCommand (commandPayload f 0#8 kind n) s = s.commandOpen f (commandSelection kind n) := by
  rw [decideDoorCommand_eq hn h 0#8 (by decide), if_neg (by rcases hm with hm | hm <;> simp [hm])]
  rfl

theorem decideDoorCommand_closes :
    decideDoorCommand (commandPayload f 1#8 kind n) s = s.commandClose f (commandSelection kind n) := by
  rw [decideDoorCommand_eq hn h 1#8 (by decide), if_neg (by rcases hm with hm | hm <;> simp [hm])]
  rfl

end Taken
end Decision

/-! ### Openings and closings -/

theorem commandOpen_explicit : s.commandOpen f (commandSelection 2 n) =
    let r := s.requestAll f .open_ ((s.fitted f).filter (fun j => (BitVec.ofNat 32 n).getLsbD j.val))
    acceptedWith (commandBody false r.2) r.1 := rfl

theorem commandClose_explicit : s.commandClose f (commandSelection 2 n) =
    let r := s.requestAll f .close ((s.fitted f).filter (fun j => (BitVec.ofNat 32 n).getLsbD j.val))
    acceptedWith (commandBody false r.2) r.1 := rfl

/-- The reply payload of an opening taken with the Door Map. -/
def Opening.body : Opening → List Byte
  | .posted => commandBody true []
  | .issued rs => commandBody false rs
  | .nothing => commandBody false []

/-- SERVED and SECTIONS are taken with the Door Map. -/
theorem commandOpen_selects {limit : Nat} (h : Selects kind n limit) (hk : kind ≠ 2) : s.commandOpen f (commandSelection kind n) =
    let o := s.openSelection f (commandSelection kind n).sections (commandSelection kind n).doorMask .supervisory
    acceptedWith o.2.body o.1 := by
  have served : (commandSelection kind n).kind ≠ .explicit := by
    rcases h with rfl | ⟨rfl, -⟩ | ⟨h, -⟩
    · exact (by decide : SelKind.served ≠ .explicit)
    · exact (by decide : SelKind.sections ≠ .explicit)
    · exact absurd h hk
  unfold State.commandOpen
  split
  · contradiction
  · dsimp only
    cases (s.openSelection f (commandSelection kind n).sections (commandSelection kind n).doorMask .supervisory).2 <;> rfl

/-- At a STOPPED berth with a consist and a Door Map the opening is issued. -/
theorem openSelection_issued {a : BitVec 8} {m : BitVec 32} {src : Source} (hb : (s.berth f).state = .stopped)
    (hg : ¬s.postsNow f = true) (hm : s.map f ≠ []) :
    s.openSelection f a m src = ((s.requestAll f .open_ (s.selectMap f a m)).1,
      .issued (s.requestAll f .open_ (s.selectMap f a m)).2) := by
  rw [State.openSelection, if_neg hg, if_pos (by simp [hb, hm])]

/-- With no berth to open at, the opening does nothing. -/
theorem openSelection_nothing {a : BitVec 8} {m : BitVec 32} {src : Source} (hg : ¬s.postsNow f = true)
    (h : (s.berth f).state ≠ .stopped ∨ s.map f = []) : s.openSelection f a m src = (s, .nothing) := by
  rw [State.openSelection, if_neg hg, if_neg (by rcases h with h | h <;> simp [h])]

/-- An OPEN for each of several door units with the permission that holds at first. -/
theorem requestAll_opensEach {js : List DoorIx} {reached : DoorIx → Prop} (l : s.startQueueLaw f)
    (hj : ∀ j, s.isFitted f j = true → reached j → j ∈ js) :
    s.opensEach f .normal reached (s.mayLeaveLocked f) (s.requestAll f .open_ js).1 := by
  rw [requestAll_eq]
  exact fun j hf hr hi => requestEach_openedFrom .normal js l (hj j hf hr) hi

/-- A CLOSE for each of several door units with the emergency latch clear. -/
theorem requestAll_closesEach {js : List DoorIx} {reached : DoorIx → Prop} (l : s.startQueueLaw f)
    (hl : (s.face f).mode.latch = false) (hj : ∀ j, s.isFitted f j = true → reached j → j ∈ js) :
    s.closesEach f reached (s.requestAll f .close js).1 := by
  rw [requestAll_eq]
  exact fun j hf hr hi => requestEach_closedFrom js l (hj j hf hr) hi hl

/-- EXPLICIT for one door unit alone. -/
theorem fitted_single (hf : s.isFitted f j = true) :
    (s.fitted f).filter (fun k => (BitVec.ofNat 32 (2 ^ j.val)).getLsbD k.val) = [j] := by
  have only : ∀ k : DoorIx, (BitVec.ofNat 32 (2 ^ j.val)).getLsbD k.val = decide (k = j) := fun k => by
    rw [testBit_mask _ k.isLt, Nat.testBit_two_pow]
    simp [Fin.ext_iff, eq_comm]
  refine List.perm_singleton.1 ((List.perm_ext_iff_of_nodup ((fitted_nodup s f).filter _) (List.nodup_singleton j)).2 fun k => ?_)
  rw [List.mem_filter, only, List.mem_singleton, decide_eq_true_eq]
  exact ⟨And.right, fun e => ⟨e ▸ mem_fitted.2 hf, e⟩⟩

/-- A request refused or accepted of one door unit alone, as the reply carries it. -/
theorem commandBody_single (c : ResultCode) :
    commandBody false [(j, c)] = 0#8 :: (if c = .accept then [0#8] else [1#8, b8 j.val, c.code]) := by
  unfold commandBody
  by_cases h : c = .accept <;> simp [h, flag, b8]

/-- What a row that leaves its engine at rest had still to tell is dropped. -/
theorem exec_row_dropped {i : Instr} {r : RequestRule} {l : Link} {x : Frame} {c : ResultCode} {body : List Byte}
    (hr : requestRule i = some r) (hx : i.frame? = some (l, x)) (ha : r.owner.allows l = true)
    (hp : x.payload.length = r.needs) (h : s.ready l x = true) (hd : r.decide (s.popFrame l) = (w, ⟨c, body⟩))
    (ho : w.outside f = (s.popFrame l).outside f) (he : (w.face f).engine.running = false) :
    exec i s = .next (State.replied l x c body { w with notices := [] }) := by
  obtain ⟨-, notices, -⟩ := ready_iff.mp h
  have told := notices_of_outside (s.popFrame l) f (by simp [notices]) ho
  rw [exec_row hr hx ha hp h hd, drain_calm _ fun x hx => by rw [told x hx]; exact he]

/-- A posting by the supervisory centre, or a merging into the open that is posted. -/
theorem post_supervisory (a : BitVec 8) : s.post f a 0#32 .supervisory = s.mapBerth f (fun b => { b with
    posted := some (match b.posted with
      | none => ⟨a, 0#32, false, true, false, s.msClock, none⟩
      | some q => { q with sections := q.sections ||| a, fromSupervisory := true }) }) := by
  unfold State.post
  congr 1
  funext b
  cases b.posted <;> simp [Posted.create, Posted.merge]

end Sys2Proof.Machine
end

section
open Sys2Proof Sys2Proof.Machine

/-- Settles O49: the selection read from the payload, and what it asks decided on the face. -/
theorem doorCommandsOpenAndClose : Obligations.DoorCommandsOpenAndClose := by
  intro f g kind n s hs hn hk m b v po pc xo xc flagged opens
  obtain ⟨powered, notices, rests⟩ := calm_iff.1 hs
  have face : v.face f = s.face f := popFrame_face ..
  have berth : v.berth f = b := congrArg FaceState.berth face
  have config : v.config = s.config := popFrame_config ..
  have clock : v.msClock = s.msClock := by simp [v, State.popFrame]
  have told : v.notices = [] := (popFrame_notices ..).trans notices
  have still : (v.face f).engine.running = false := by rw [face]; exact rests
  have side : v.side f = s.side f := side_of_face face
  have map : v.map f = s.map f := by rw [State.map, face]; rfl
  have law : s.startQueueLaw f → v.startQueueLaw f := (law_of_face config (by cases f <;> rfl) face).2
  have selects : Selects kind n (v.geo f).n := by rw [geo_of config]; exact hk
  have flags : ∀ j, v.flags f kind n j = flagged j := fun j => by simp only [State.flags, geo_of config]; rfl
  have fitted : ∀ j, v.isFitted f j = s.isFitted f j := isFitted_of config f
  have permission : v.mayLeaveLocked f = s.mayLeaveLocked f := funext fun j => propext (mayLeaveLocked_of_side side)
  -- the rows, with what is left to be told dropped
  have opened : ∀ {w : State} {body : List Byte}, s.ready .sl xo = true → decideDoorCommand po v = (w, ⟨.accept, body⟩) →
      w.side f = v.side f →
      w.outside f = v.outside f → ∃ u : State, exec (.doorCommandOpen .sl g po) s = .next (u.replied .sl xo .accept body)
        ∧ u.face f = w.face f ∧ u.outside f = v.outside f := fun h hd hw ho =>
    exec_row_calm (i := .doorCommandOpen .sl g po) rfl rfl rfl rfl h hd ho (by rw [engine_of_side hw]; exact still)
  have closed : ∀ {w : State} {body : List Byte}, s.ready .sl xc = true → decideDoorCommand pc v = (w, ⟨.accept, body⟩) →
      w.side f = v.side f →
      w.outside f = v.outside f → ∃ u : State, exec (.doorCommandClose .sl g pc) s = .next (u.replied .sl xc .accept body)
        ∧ u.face f = w.face f ∧ u.outside f = v.outside f := fun h hd hw ho =>
    exec_row_calm (i := .doorCommandClose .sl g pc) rfl rfl rfl rfl h hd ho (by rw [engine_of_side hw]; exact still)
  have issues : ∀ {js : List DoorIx} {reached : DoorIx → Prop} {body : List Byte}, s.ready .sl xo = true →
      decideDoorCommand po v = ((v.requestAll f .open_ js).1, ⟨.accept, 0 :: body⟩) →
      (∀ j, v.isFitted f j = true → reached j → j ∈ js) → opens reached := fun h hd hj => by
    obtain ⟨u, run, hu, out⟩ := opened h hd (requestAll_side ..) (requestAll_outside ..)
    refine ⟨u, _, run, (side_of_face hu).trans ((requestAll_side ..).trans side), out, fun l => ?_⟩
    have each := requestAll_opensEach (law l) hj
    rw [permission] at each
    exact (opensEach_of_face config.symm face.symm hu).2 each
  refine ⟨fun hm => ⟨fun h => ?_, fun h => ?_⟩, fun hm h => ?_, fun hm h => ?_, fun j hm hf hk2 hn2 => ?_⟩
  · exact exec_row_quiet (i := .doorCommandOpen .sl g po) rfl rfl rfl rfl h
      (decideDoorCommand_wrongMode hn selects 0#8 (by decide) (by rw [face]; exact hm)) told
  · exact exec_row_quiet (i := .doorCommandClose .sl g pc) rfl rfl rfl rfl h
      (decideDoorCommand_wrongMode hn selects 1#8 (by decide) (by rw [face]; exact hm)) told
  · have decides := decideDoorCommand_opens hn selects (by rw [face]; exact hm)
    intro posts sections
    have posting : v.postsNow f = true ↔ posts := by rw [postsNow_iff, berth, face]
    have mapped : ∀ hk : kind ≠ 2, decideDoorCommand po v = _ := fun hk => decides.trans (commandOpen_selects selects hk)
    refine ⟨fun hk => ?_, fun hk hp hb hm => ?_, fun hk hp hb => ?_, fun hk hp => ?_⟩
    · subst hk
      exact issues h decides fun j hf hr => mem_command_explicit.2 ⟨hf, by simpa [flagged] using hr.2⟩
    · have open_ := mapped hk
      rw [openSelection_issued (by rw [berth]; exact hb) (by rw [posting]; exact hp) (by rw [map]; exact hm)] at open_
      refine issues h open_ fun j hf hr => (mem_command_map selects hk).2 ⟨by rw [map]; exact hr.1, by rw [flags]; exact hr.2⟩
    · have open_ := mapped hk
      rw [openSelection_nothing (by rw [posting]; exact hp) (by rw [berth, map]; exact hb)] at open_
      exact exec_row_quiet (i := .doorCommandOpen .sl g po) rfl rfl rfl rfl h open_ told
    · have open_ := mapped hk
      rw [openSelection_posts (posting.2 hp)] at open_
      obtain ⟨sections', doors'⟩ := command_masks selects hk
      rw [sections', doors', post_supervisory, clock] at open_
      exact exec_row_quiet (i := .doorCommandOpen .sl g po) rfl rfl rfl rfl h open_ (by simpa using told)
  · have decides := decideDoorCommand_closes hn selects (by rw [face]; exact hm)
    obtain ⟨u, run, hu, out⟩ := closed h decides (requestAll_side ..) (requestAll_outside ..)
    refine ⟨u, _, run, (side_of_face hu).trans ((requestAll_side ..).trans side), out, fun hl k => ?_, fun hl l => ?_⟩
    · rw [requestAll_eq, requestEach_close_latched (by rw [face]; exact hl)] at hu
      exact ⟨unit_of_face (hu.trans face) k, fun g => group_of_face (hu.trans face) g⟩
    · refine (closesEach_of_face config.symm face.symm hu).2 (requestAll_closesEach (law l) (by rw [face]; exact hl) fun j hf hr => ?_)
      exact mem_commandReach selects hf (by rw [flags]; exact hr.1) (by rw [map]; exact hr.2)
  · subst hk2 hn2
    have single : (v.fitted f).filter (fun k => (BitVec.ofNat 32 (2 ^ j.val)).getLsbD k.val) = [j] :=
      fitted_single (by rw [fitted]; exact hf)
    have asked : ∀ r, v.requestAll f r [j] = ((v.request f j r).1, [(j, (v.request f j r).2)]) := fun _ => rfl
    intro asks
    have opening : s.ready .sl xo = true → asks (.doorCommandOpen .sl g po) xo .open_ := fun h => by
      have decides := decideDoorCommand_opens hn selects (by rw [face]; exact hm)
      rw [commandOpen_explicit, single] at decides
      simp only [asked, commandBody_single] at decides
      exact exec_row_dropped (i := .doorCommandOpen .sl g po) rfl rfl rfl rfl h decides (request_outside ..)
        (by rw [engine_of_side (request_side ..)]; exact still)
    refine ⟨opening, fun h => ?_, fun h hd hi hn => ?_⟩
    · have decides := (decideDoorCommand_closes hn selects (by rw [face]; exact hm)).trans commandClose_explicit
      rw [single] at decides
      simp only [asked, commandBody_single] at decides
      exact exec_row_dropped (i := .doorCommandClose .sl g pc) rfl rfl rfl rfl h decides (request_outside ..)
        (by rw [engine_of_side (request_side ..)]; exact still)
    · have door : (v.door f j).state = some .locked ∨ (v.door f j).state = some .locking := by rwa [door_of_face face]
      have refused : v.request f j .open_ = (v, .noRelease) := by
        obtain ⟨st, state⟩ : ∃ st, (v.door f j).state = some st := by rcases door with h | h <;> exact ⟨_, h⟩
        exact (request_open .normal (by rw [isolated_of config]; exact hi) state).trans
          (takeOpen_refused door (by rw [permission]; exact hn))
      have done := opening h
      simp only [asks] at done
      rw [refused] at done
      simp only [reduceCtorEq, if_false] at done
      rw [show ({ v with notices := [] } : State) = v by rw [← told]] at done
      exact done

end

section
namespace Sys2Proof.Machine

/-! SUPPORT. The commands on a face: EMERGENCY CLEAR, BERTH ACK and FACE RESET (R88, R91, R134). -/

variable {s t u v w : State} {f g : Face} {j k : DoorIx}

/-! ### The latch cleared (R23, R134) -/

/-- With the latch clear and the handle back, resolution finds another state than RELEASED. -/
theorem resolvedState_back {i : DoorInputs} (hm : i.mrh = false) (b : Bool) : (resolvedState i b false).1 ≠ .released := by
  unfold resolvedState
  rw [hm]
  cases i.leafClosed <;> cases i.leafOpen <;> cases i.lockEngaged <;> cases b <;> simp

/-- A door unit whose handle is back, the latch being clear, enters the state found and does nothing else. -/
theorem resolve_back (hl : (s.face f).mode.latch = false) (hm : (s.input f j).mrh = false)
    (hn : s.noEntry f (s.groupOf f j) j) : ∃ st edit, s.resolve f j = s.enterTold f j st edit := by
  have found := resolvedState_back hm (s.isolated f j)
  have resolution : s.resolution f j = resolvedState (s.input f j) (s.isolated f j) false := by rw [resolution_eq, hl]
  have direct : (resolvedState (s.input f j) (s.isolated f j) false).1 ≠ .unlatching ∧
      (resolvedState (s.input f j) (s.isolated f j) false).1 ≠ .closeWait := by
    rcases resolvedState_cases (s.input f j) (s.isolated f j) false with ⟨e, -⟩ | e | e | e | ⟨c, e⟩ <;> rw [e] <;> simp
  refine ⟨(s.resolution f j).1, fun d => { d with cause := (s.resolution f j).2 }, ?_⟩
  rw [State.resolve, if_neg (by rw [resolution]; simp [found]), enter_direct (by rw [resolution]; exact direct.1)
    (by rw [resolution]; exact direct.2), told_free _ _ hn]
  refine emergencyIfLocked_stays ?_
  rw [State.opensLocked, latch_of_side (enterTold_side ..), hl]
  rfl

/-- Door units whose handles are back are resolved one by one, each from its own inputs. -/
theorem forEach_resolve_back (js : List DoorIx) (hl : (s.face f).mode.latch = false) (nodup : js.Nodup)
    (hm : ∀ j ∈ js, (s.input f j).mrh = false) (hn : ∀ j ∈ js, s.noEntry f (s.groupOf f j) j) :
    (∀ p, (forEach js (State.resolve f) s).group f p = s.group f p) ∧
    (∀ j ∈ js, (forEach js (State.resolve f) s).door f j = s.resolvedRec f j (s.input f j)) ∧
    ∀ k, k ∉ js → (forEach js (State.resolve f) s).unit f k = s.unit f k := by
  induction js generalizing s with
  | nil => exact ⟨fun _ => rfl, fun _ h => (by cases h), fun _ _ => rfl⟩
  | cons j js ih =>
    obtain ⟨hj, nodup⟩ := List.nodup_cons.1 nodup
    have back := hm j List.mem_cons_self
    obtain ⟨st, edit, told⟩ := resolve_back hl back (hn j List.mem_cons_self)
    have config : (s.resolve f j).config = s.config := resolve_config ..
    have side : (s.resolve f j).side f = s.side f := resolve_side ..
    have group : ∀ p, (s.resolve f j).group f p = s.group f p := fun p => by rw [told, enterTold_group]
    have unit : ∀ k, k ≠ j → (s.resolve f j).unit f k = s.unit f k := fun k hk => by rw [told, enterTold_unit _ _ _ _ hk]
    have input : ∀ k, (s.resolve f j).input f k = s.input f k := fun _ => input_of_side side
    obtain ⟨groups, records, others⟩ := ih (s := s.resolve f j) ((latch_of_side side).trans hl) nodup
      (fun k hk => by rw [input]; exact hm k (List.mem_cons_of_mem _ hk))
      (fun k hk e he => by
        rw [groupOf_of config, group] at he
        exact hn k (List.mem_cons_of_mem _ hk) e he)
    refine ⟨fun p => (groups p).trans (group p), fun k hk => ?_, fun k hk => ?_⟩
    · by_cases e : k = j
      · subst e
        have kept : (forEach js (State.resolve f) (s.resolve f k)).door f k = (s.resolve f k).door f k :=
          congrArg Prod.fst (others k hj)
        refine kept.trans (resolve_resolvedRec ?_).1
        rw [hl]
        exact fun h => resolvedState_back back _ h.1
      · have mem := (List.mem_cons.1 hk).resolve_left e
        refine (records k mem).trans ?_
        rw [input]
        exact resolvedRec_of config (latch_of_side side) (resolve_msClock ..) (congrArg Prod.fst (unit k e))
    · rw [List.mem_cons, not_or] at hk
      exact (others k hk.2).trans (unit k hk.1)

/-- A face whose latch is cleared, before its door units are resolved. -/
def State.unlatchedFace (f : Face) (s : State) : State := (s.mapMode f (fun m => { m with latch := false })).recomputeClp f none

theorem clearLatch_face : (s.clearLatch f).face f =
    (forEach ((s.unlatchedFace f).waitingReleased f) (State.resolve f) (s.unlatchedFace f)).face f := by
  simp [State.clearLatch, State.reportEmergency, State.unlatchedFace]

theorem clearLatch_side : (s.clearLatch f).side f = (s.mapMode f (fun m => { m with latch := false })).side f := by
  rw [side_of_face clearLatch_face, forEach_keeps (State.side f) _ (fun _ _ => resolve_side ..), State.unlatchedFace,
    recomputeClp_side]

theorem unlatchedFace_unit : (s.unlatchedFace f).unit f k = s.unit f k := by
  rw [State.unlatchedFace, recomputeClp_unit]
  simp [State.unit, State.door, State.sense]

theorem unlatchedFace_groups : ((s.unlatchedFace f).face f).groups = (s.face f).groups := by simp [State.unlatchedFace]

theorem unlatchedFace_latch : ((s.unlatchedFace f).face f).mode.latch = false := by
  rw [State.unlatchedFace, latch_of_side (recomputeClp_side ..)]
  simp

theorem unlatchedFace_input : (s.unlatchedFace f).input f k = s.input f k := by
  rw [State.unlatchedFace, input_of_side (recomputeClp_side ..)]
  simp [State.input]

theorem mem_waitingReleased : j ∈ (s.unlatchedFace f).waitingReleased f ↔
    s.isFitted f j = true ∧ (s.door f j).state = some .released ∧ (s.input f j).mrh = false := by
  have config : (s.unlatchedFace f).config = s.config := by simp [State.unlatchedFace]
  have door : (s.unlatchedFace f).door f j = s.door f j := congrArg Prod.fst unlatchedFace_unit
  simp [State.waitingReleased, mem_fitted, isFitted_of config, door, unlatchedFace_input]

theorem clearLatch_resolves (l : s.startQueueLaw f) :
    ((s.clearLatch f).face f).groups = (s.face f).groups ∧
    (∀ j, s.isFitted f j = true ∧ (s.door f j).state = some .released ∧ (s.input f j).mrh = false →
      (s.clearLatch f).door f j = (s.mapMode f (fun m => { m with latch := false })).resolvedRec f j (s.input f j)) ∧
    ∀ k, ¬(s.isFitted f k = true ∧ (s.door f k).state = some .released ∧ (s.input f k).mrh = false) →
      (s.clearLatch f).unit f k = s.unit f k := by
  let x := s.unlatchedFace f
  have config : x.config = s.config := by simp [x, State.unlatchedFace]
  have latch : (x.face f).mode.latch = false := unlatchedFace_latch
  have group : ∀ p, x.group f p = s.group f p := fun p => by rw [State.group, unlatchedFace_groups]; rfl
  have input : ∀ k, x.input f k = s.input f k := fun k => unlatchedFace_input
  have mem := fun {k} => (mem_waitingReleased (s := s) (f := f) (j := k)).1
  obtain ⟨groups, records, others⟩ := forEach_resolve_back (s := x) (f := f) (x.waitingReleased f) latch
    ((fitted_nodup ..).filter _) (fun k hk => by rw [input]; exact (mem hk).2.2) (fun k hk => by
      have released := (mem hk).2.1
      have free := (startQueueLaw_iff.1 l).free_of_state (j := k) (show (s.door f k).state ≠ _ by simp [released])
        (show (s.door f k).state ≠ _ by simp [released])
      rw [groupOf_of config]
      exact (noEntry_congr (by rw [group])).2 (free_iff.1 free))
  have face := clearLatch_face (s := s) (f := f)
  refine ⟨Vector.ext fun p hp => ?_, fun j hj => ?_, fun k hk => ?_⟩
  · rw [face]
    exact (groups ⟨p, hp⟩).trans (group ⟨p, hp⟩)
  · rw [door_of_face face, records j (mem_waitingReleased.2 hj), input]
    refine resolvedRec_of (by simp [x, State.unlatchedFace]) (by rw [latch]; simp) (by simp [x, State.unlatchedFace]) ?_
    exact (congrArg Prod.fst unlatchedFace_unit).trans (by simp [State.door, State.unit])
  · exact (unit_of_face face k).trans ((others k fun h => hk (mem h)).trans unlatchedFace_unit)

/-- With no door unit in RELEASED nothing is resolved. -/
theorem clearLatch_rests (h : ∀ j, s.isFitted f j = true → (s.door f j).state ≠ some .released) :
    ((s.clearLatch f).face f).doors = (s.face f).doors ∧ ((s.clearLatch f).face f).groups = (s.face f).groups := by
  have none : (s.unlatchedFace f).waitingReleased f = [] :=
    List.eq_nil_iff_forall_not_mem.2 fun j hj => by
      obtain ⟨fitted, released, -⟩ := mem_waitingReleased.1 hj
      exact h j fitted released
  rw [clearLatch_face, none]
  exact ⟨by simp [forEach, State.unlatchedFace], unlatchedFace_groups⟩

/-! ### BERTH ACK (R88) -/

theorem windowOccupied_iff : (s.beams f).windowOccupied = true ↔ ∃ i : Fin 25, (s.beams f).sw[i] = true := by
  simp [Beams.windowOccupied, Vector.any_eq_true, Fin.exists_iff]

/-- What BERTH ACK makes of a face whose berth is not EMPTY and whose engine rests. -/
structure Acknowledges (f : Face) (s t : State) : Prop where
  settles : (∃ i : Fin 25, (s.beams f).sw[i] = true) →
    (t.berth f).state = .settling ∧ (t.berth f).settleTimer = some ⟨s.msClock, (s.par f).stopSettle⟩
  empties : (∀ i : Fin 25, (s.beams f).sw[i] = false) → (t.berth f).state = .empty ∧ (t.berth f).consist = none
  doors : (t.face f).doors = (s.face f).doors
  mode : (t.face f).mode = (s.face f).mode
  engine : (t.face f).engine = (s.face f).engine

theorem ackBerth_acknowledges (he : (s.face f).engine.running = false) (hn : (s.berth f).state ≠ .empty) :
    Acknowledges f s (s.ackBerth f) := by
  unfold State.ackBerth
  by_cases h : (s.beams f).windowOccupied = true
  · rw [if_pos h]
    have moved := moveBerth_leaves hn .settling .berthAck (fun b => { b with
      measure := none, stopTime := none, approachTimer := none, settleTimer := some (s.startTimer (s.par f).stopSettle) })
    have berth := congrArg FaceState.berth moved
    refine ⟨fun _ => ⟨(congrArg Berth.state berth :), (congrArg Berth.settleTimer berth :)⟩, fun clear => ?_,
      moveBerth_doors (.inr hn) .., (congrArg FaceState.mode moved :), (congrArg FaceState.engine moved :)⟩
    obtain ⟨i, hi⟩ := windowOccupied_iff.1 h
    rw [clear i] at hi
    cases hi
  · rw [if_neg h]
    have moved := enterEmpty_side he hn .berthAck
    have berth : (s.enterEmpty f .berthAck).berth f = _ := (congrArg FaceState.berth moved :)
    exact ⟨fun some => absurd (windowOccupied_iff.2 some) h, fun _ =>
      ⟨by rw [berth, discard_state], by rw [berth, discard_consist]; rfl⟩,
      enterEmpty_doors he hn _, (congrArg FaceState.mode moved :), (congrArg FaceState.engine moved :)⟩

/-! ### FACE RESET (R91) -/

theorem emptyQueues_face : (s.emptyQueues f).face f =
    { s.face f with groups := (s.face f).groups.map (fun g => { g with queue := [] }) } := mapFace_face ..

/-- A face reset, before its door units are handed over again. -/
def State.cleared (f : Face) (s : State) : State :=
  let s1 := (s.mapEngine f (fun _ => Engine.start)).discardPosted f .faceReset
  let s2 := s1.mapBerth f (fun _ => Berth.resolved (s.beams f) (s.startTimer (s.par f).stopSettle))
  let s3 := if (s2.berth f).state = (s.berth f).state then s2 else s2.reportBerth f (s.berth f).state .faceReset
  (((s3.recomputeClp f none).clearAlign f).disarmAll f).emptyQueues f

theorem resetFace_eq : s.resetFace f =
    let now := Berth.resolved (s.beams f) (s.startTimer (s.par f).stopSettle)
    let t := forEach ((s.cleared f).fitted f) (State.afterFaceReset f) (s.cleared f)
    if (s.berth f).state = .empty && now.state ≠ .empty then t.revokePossession f 4 else t := by
  have now : ∀ x : State, ∀ b : Berth, ((x.mapBerth f (fun _ => b)).berth f) = b := fun x b => mapBerth_face_berth ..
  simp only [State.resetFace, State.cleared, now]

/-- The berth, the engine and the alignment result of a face reset; its door units, zones and groups follow apart. -/
def State.resetBerth (f : Face) (s : State) : State :=
  (((s.mapEngine f (fun _ => Engine.start)).discardPosted f .faceReset).mapBerth f
    (fun _ => Berth.resolved (s.beams f) (s.startTimer (s.par f).stopSettle)))

theorem resetBerth_face : (s.resetBerth f).face f = { s.face f with
    engine := Engine.start, berth := Berth.resolved (s.beams f) (s.startTimer (s.par f).stopSettle) } := by
  have started : ((s.mapEngine f (fun _ => Engine.start)).face f) = { s.face f with engine := Engine.start } := mapFace_face ..
  rw [State.resetBerth, State.mapBerth, mapFace_face, discardPosted_face (by rw [started]; rfl), started]

/-- The berth of a face reset, reported where its state changes. -/
def State.resetTold (f : Face) (s : State) : State :=
  if ((s.resetBerth f).berth f).state = (s.berth f).state then s.resetBerth f
  else (s.resetBerth f).reportBerth f (s.berth f).state .faceReset

theorem resetTold_face : (s.resetTold f).face f = (s.resetBerth f).face f := by
  unfold State.resetTold
  split
  · rfl
  · exact reportBerth_face ..

theorem cleared_eq : s.cleared f = ((((s.resetTold f).recomputeClp f none).clearAlign f).disarmAll f).emptyQueues f := rfl

theorem disarmAll_groups : ((s.disarmAll f).face f).groups = (s.face f).groups :=
  forEach_keeps (fun x => (x.face f).groups) _ (fun j x => disarmZone_groups x f j f) _ s

theorem cleared_side : (s.cleared f).side f = { s.side f with
    engine := Engine.start, berth := Berth.resolved (s.beams f) (s.startTimer (s.par f).stopSettle)
    align := Alignment.blank, quietTimer := none, quiet := false } := by
  have emptied : ∀ x : State, (x.emptyQueues f).side f = x.side f := fun x =>
    (congrArg FaceState.berthSide emptyQueues_face :)
  have reset : (s.resetTold f).side f = _ := congrArg FaceState.berthSide (resetTold_face.trans resetBerth_face)
  rw [cleared_eq, emptied, disarmAll_side, clearAlign_side, recomputeClp_side, reset]
  rfl

theorem cleared_doors : ((s.cleared f).face f).doors = (s.face f).doors := by
  rw [cleared_eq, emptyQueues_face]
  dsimp only
  rw [disarmAll_doors, clearAlign_face, recomputeClp_doors, resetTold_face, resetBerth_face]

theorem cleared_group (p : GroupIx) : (s.cleared f).group f p = { s.group f p with queue := [] } := by
  have groups : ((((s.resetTold f).recomputeClp f none).clearAlign f).disarmAll f).group f p = s.group f p := by
    rw [State.group, disarmAll_groups, clearAlign_face, recomputeClp_groups, resetTold_face, resetBerth_face]
    rfl
  rw [← groups, cleared_eq, State.group, emptyQueues_face]
  simp [State.group]

theorem cleared_outside : (s.cleared f).outside f = s.outside f := by
  simp [State.cleared, apply_ite (State.outside f), State.reportBerth]

theorem cleared_zone (h : s.isFitted f j = true) : ((s.cleared f).sense f j).zone = .idle := by
  have idle : (((((s.resetTold f).recomputeClp f none).clearAlign f).disarmAll f).sense f j).zone = .idle :=
    disarmAll_zone _ _ (by
      rw [isFitted_of (s := s)]
      · exact h
      · exact outside_eq_of (f := f) State.config (fun _ => rfl) (by
          simp [State.resetTold, State.resetBerth, apply_ite (State.outside f), State.reportBerth]))
  rw [cleared_eq, State.sense, emptyQueues_face]
  exact idle

/-- A door unit that is not in UNLATCHED or CLOSE_WAIT is not handed over again. -/
theorem afterFaceReset_rests (h : (s.door f j).state ≠ some .unlatched ∧ (s.door f j).state ≠ some .closeWait) :
    s.afterFaceReset f j = s := by
  unfold State.afterFaceReset
  split
  · next e => exact absurd e h.1
  · next e => exact absurd e h.2
  · rfl

theorem forEach_afterFaceReset_rests (js : List DoorIx)
    (h : ∀ j ∈ js, (s.door f j).state ≠ some .unlatched ∧ (s.door f j).state ≠ some .closeWait) :
    forEach js (State.afterFaceReset f) s = s := by
  induction js with
  | nil => rfl
  | cons j js ih =>
    show forEach js _ (s.afterFaceReset f j) = s
    rw [afterFaceReset_rests (h j List.mem_cons_self)]
    exact ih fun k hk => h k (List.mem_cons_of_mem _ hk)

/-- FACE RESET resolves the berth and clears the alignment result and the engine. -/
theorem resetFace_berth : (s.resetFace f).berth f = Berth.resolved (s.beams f) (s.startTimer (s.par f).stopSettle) ∧
    ((s.resetFace f).face f).align = Alignment.blank ∧ ((s.resetFace f).face f).engine = Engine.start := by
  let t := forEach ((s.cleared f).fitted f) (State.afterFaceReset f) (s.cleared f)
  have side : t.side f = (s.cleared f).side f := forEach_keeps (State.side f) _ (fun _ _ => afterFaceReset_side ..) _ _
  have cleared := side.trans cleared_side
  rw [resetFace_eq]
  dsimp only
  split
  · have revoked := revokePossession_side t f 4
    exact ⟨(congrArg FaceState.berth revoked :).trans (congrArg FaceState.berth cleared :),
      (congrArg FaceState.align revoked :).trans (congrArg FaceState.align cleared :),
      (congrArg FaceState.engine revoked :).trans (congrArg FaceState.engine cleared :)⟩
  · exact ⟨(congrArg FaceState.berth cleared :), (congrArg FaceState.align cleared :), (congrArg FaceState.engine cleared :)⟩

/-- Where no door unit is handed over again and no possession is lost, FACE RESET is that alone. -/
theorem resetFace_rests
    (h : ∀ j, s.isFitted f j = true → (s.door f j).state ≠ some .unlatched ∧ (s.door f j).state ≠ some .closeWait)
    (hp : (s.face f).mode.possession = false) : s.resetFace f = s.cleared f := by
  have config : (s.cleared f).config = s.config := outside_eq_of State.config (fun _ => rfl) cleared_outside
  have door : ∀ k, (s.cleared f).door f k = s.door f k := fun k => by rw [State.door, cleared_doors]; rfl
  have handed : forEach ((s.cleared f).fitted f) (State.afterFaceReset f) (s.cleared f) = s.cleared f :=
    forEach_afterFaceReset_rests _ fun j hj => by
      rw [mem_fitted, isFitted_of config] at hj
      rw [door]
      exact h j hj
  have mode : ((s.cleared f).face f).mode = (s.face f).mode := (congrArg FaceState.mode cleared_side :)
  rw [resetFace_eq, handed]
  dsimp only
  rw [revokePossession_none (by rw [mode]; exact hp), ite_self]

end Sys2Proof.Machine
end

section
open Sys2Proof Sys2Proof.Machine

/-- Settles O51: each command taken on its face, whose engine rests. -/
theorem faceCommands : Obligations.FaceCommands := by
  intro f g s hs p b v m timer
  obtain ⟨powered, notices, rests⟩ := calm_iff.1 hs
  have face : v.face f = s.face f := popFrame_face ..
  have berth : v.berth f = b := congrArg FaceState.berth face
  have config : v.config = s.config := popFrame_config ..
  have clock : v.msClock = s.msClock := by simp [v, State.popFrame]
  have told : v.notices = [] := (popFrame_notices ..).trans notices
  have still : (v.face f).engine.running = false := by rw [face]; exact rests
  have beams : v.beams f = s.beams f := congrArg FaceState.beams face
  have due : v.startTimer (v.par f).stopSettle = timer := by rw [State.startTimer, clock, par_of config]
  have fitted : ∀ j, v.isFitted f j = s.isFitted f j := isFitted_of config f
  have door : ∀ k, v.door f k = s.door f k := fun k => door_of_face face
  have law : s.startQueueLaw f → v.startQueueLaw f := (law_of_face config (by cases f <;> rfl) face).2
  have named : faceOf (byteAt p 0) = some f := byteAt_faceCode f []
  have locked : v.allLocked f = s.allLocked f := by simp only [State.allLocked, fitted_of config, door]
  have mapped : (v.mapMode f (fun x => { x with latch := false })).face f =
      (s.mapMode f (fun x => { x with latch := false })).face f := by
    rw [State.mapMode, mapFace_face, State.mapMode, mapFace_face, face]
  have stays : m.eoi = false → m.latch = false → decideEmergencyClear p v = (v, ⟨.accept, []⟩) := fun he hl => by
    rw [decideEmergencyClear, withFace_named named, face, if_neg (by simp [show (s.face f).mode.eoi = false from he]),
      if_neg (by simp [show (s.face f).mode.latch = false from hl])]; rfl
  have clears : m.eoi = false → m.latch = true → decideEmergencyClear p v = (v.clearLatch f, ⟨.accept, []⟩) := fun he hl => by
    rw [decideEmergencyClear, withFace_named named, face, if_neg (by simp [show (s.face f).mode.eoi = false from he]),
      if_pos hl]; rfl
  refine ⟨fun h => ?_, fun h => ⟨fun hb => ?_, fun hb hn => ?_, fun hb hr ha => ?_⟩, fun h => ⟨fun hl => ?_, fun hl hd => ?_⟩,
    fun h => ⟨fun he => ?_, fun he hl => ?_, fun he => ?_, fun he hl l => ?_⟩⟩
  · have decides : decideFaceReset p v = (v.resetFace f, ⟨.accept, []⟩) := by
      rw [decideFaceReset, withFace_named named]; rfl
    obtain ⟨reset, align, engine⟩ := resetFace_berth (s := v) (f := f)
    obtain ⟨u, run, hu, out⟩ := exec_row_calm (i := .faceReset .sl g p) rfl rfl rfl rfl h decides (resetFace_outside ..)
      (by rw [engine]; rfl)
    refine ⟨u, run, ?_, by rw [hu, align], by rw [hu, engine], out, fun hd hp => ?_⟩
    · rw [beams, due] at reset
      exact (congrArg FaceState.berth hu).trans reset
    · have rest := resetFace_rests (s := v) (f := f) (fun j hj => by rw [door]; exact hd j (by rw [← fitted]; exact hj))
        (by rw [face]; exact hp)
      rw [rest] at hu
      exact ⟨by rw [hu, cleared_doors, face], fun j hj => by rw [State.sense, hu]; exact cleared_zone (by rw [fitted]; exact hj),
        fun p => (group_of_face hu p).trans ((cleared_group p).trans (by rw [group_of_face face]))⟩
  · have decides : decideBerthAck p v = (v, ⟨.berthState, []⟩) := by
      rw [decideBerthAck, withFace_named named, berth, if_pos hb]; rfl
    exact exec_row_quiet (i := .berthAck .sl g p) rfl rfl rfl rfl h decides told
  · have rest : v.atRest f = false := by
      rw [State.atRest, berth, locked]
      simpa using hn
    have decides : decideBerthAck p v = (v, ⟨.faceBusy, []⟩) := by
      rw [decideBerthAck, withFace_named named, berth, if_neg (by simp [hb]), rest]; rfl
    exact exec_row_quiet (i := .berthAck .sl g p) rfl rfl rfl rfl h decides told
  · have rest : v.atRest f = true := by
      rw [State.atRest, berth, locked, hr, ha]
      rfl
    have decides : decideBerthAck p v = (v.ackBerth f, ⟨.accept, []⟩) := by
      rw [decideBerthAck, withFace_named named, berth, if_neg (by simp [hb]), rest]; rfl
    have acks := ackBerth_acknowledges still (by rw [berth, hb]; decide)
    obtain ⟨u, run, hu, out⟩ := exec_row_calm (i := .berthAck .sl g p) rfl rfl rfl rfl h decides (ackBerth_outside ..)
      (by rw [acks.engine]; exact still)
    have left : u.berth f = (v.ackBerth f).berth f := congrArg FaceState.berth hu
    refine ⟨u, run, ?_, ?_, by rw [hu, acks.doors, face], by rw [hu, acks.mode, face], out⟩
    · rw [left, ← beams]
      have settles := acks.settles
      rw [clock, par_of config] at settles
      exact settles
    · rw [left, ← beams]
      exact acks.empties
  · have decides : decideEvacuate p v = (v, ⟨.accept, []⟩) := by
      rw [decideEvacuate, withFace_named named, face, if_pos hl]; rfl
    exact exec_row_quiet (i := .evacuate .sl g p) rfl rfl rfl rfl h decides told
  · have decides : decideEvacuate p v = (v.setLatch f 1, ⟨.accept, []⟩) := by
      rw [decideEvacuate, withFace_named named, face, if_neg (by simp [show (s.face f).mode.latch = false from hl])]; rfl
    obtain ⟨mode, kept, -, engine, clp, opens⟩ := setLatch_rests 1 still
    obtain ⟨u, run, hu, out⟩ := exec_row_calm (i := .evacuate .sl g p) rfl rfl rfl rfl h decides (setLatch_outside ..)
      (by rw [engine]; exact still)
    obtain ⟨value, emergency⟩ := clp (by simpa [v, State.popFrame] using hd)
    refine ⟨u, run, by rw [hu, mode, face], by rw [hu, value], by rw [hu, emergency], ?_, out, fun l => ⟨?_, ?_⟩⟩
    · exact (congrArg FaceState.berth hu).trans (kept.trans berth)
    · exact emergencyOpens_of config (fun k => unit_of_face face k) hu (opens (law l)).1
    · exact emergencyLaw_of_face hu (opens (law l)).2
  · have decides : decideEmergencyClear p v = (v, ⟨.eoiActive, []⟩) := by
      rw [decideEmergencyClear, withFace_named named, face, if_pos he]; rfl
    exact exec_row_quiet (i := .emergencyClear .sl g p) rfl rfl rfl rfl h decides told
  · exact exec_row_quiet (i := .emergencyClear .sl g p) rfl rfl rfl rfl h (stays he hl) told
  · have side := side_of_face mapped
    have mode : ((s.mapMode f (fun x => { x with latch := false })).side f).mode = { m with latch := false } :=
      congrArg FaceState.mode (mapMode_side ..)
    cases hl : m.latch with
    | true =>
      have cleared : (v.clearLatch f).side f = (s.mapMode f (fun x => { x with latch := false })).side f :=
        clearLatch_side.trans side
      have engine : ((v.clearLatch f).face f).engine = (s.face f).engine :=
        (congrArg FaceState.engine (cleared.trans (mapMode_side ..)) :)
      obtain ⟨u, run, hu, out⟩ := exec_row_calm (i := .emergencyClear .sl g p) rfl rfl rfl rfl h (clears he hl)
        (clearLatch_outside ..) (by rw [engine]; exact rests)
      have left := (side_of_face hu).trans cleared
      refine ⟨u, run, (congrArg FaceState.mode left :).trans mode, left, out, fun hr => ?_⟩
      obtain ⟨doors, groups⟩ := clearLatch_rests (s := v) (f := f) fun j hj => by
        rw [door]
        exact hr j (by rw [← fitted]; exact hj)
      exact ⟨by rw [hu, doors, face], by rw [hu, groups, face]⟩
    | false =>
      have same : { m with latch := false } = m := by rw [← hl]
      have unchanged : (s.mapMode f (fun x => { x with latch := false })).face f = s.face f := by
        rw [State.mapMode, mapFace_face]
        exact congrArg (fun x => { s.face f with mode := x }) same
      exact ⟨v, exec_row_quiet (i := .emergencyClear .sl g p) rfl rfl rfl rfl h (stays he hl) told, by rw [face, same],
        (side_of_face face).trans (side_of_face unchanged).symm, rfl, fun _ => ⟨by rw [face], by rw [face]⟩⟩
  · intro w waits
    have cleared : (v.clearLatch f).side f = (s.mapMode f (fun x => { x with latch := false })).side f :=
      clearLatch_side.trans (side_of_face mapped)
    have engine : ((v.clearLatch f).face f).engine = (s.face f).engine :=
      (congrArg FaceState.engine (cleared.trans (mapMode_side ..)) :)
    obtain ⟨u, run, hu, -⟩ := exec_row_calm (i := .emergencyClear .sl g p) rfl rfl rfl rfl h (clears he hl)
      (clearLatch_outside ..) (by rw [engine]; exact rests)
    obtain ⟨groups, records, others⟩ := clearLatch_resolves (law l)
    have input : ∀ j, v.input f j = s.input f j := fun j => by rw [State.input, face]; rfl
    have waiting : ∀ j, (v.isFitted f j = true ∧ (v.door f j).state = some .released ∧ (v.input f j).mrh = false) ↔ waits j :=
      fun j => by rw [fitted, door, input]
    refine ⟨u, run, by rw [hu, groups, face], fun j hj => ?_, fun j hj => ?_⟩
    · rw [door_of_face hu, records j ((waiting j).2 hj), input]
      exact resolvedRec_of (by simp [w, config]) (by rw [mapped]) (by simp [w, clock]) (door_of_face mapped)
    · exact (unit_of_face hu j).trans ((others j fun h => hj ((waiting j).1 h)).trans (unit_of_face face j))

end

section
namespace Sys2Proof.Machine

/-! SUPPORT. ISOLATE, RESTORE, DOOR RESET and ACK GAP (R25, R26, R54, R133). -/

variable {s t u v w x : State} {f g : Face} {j k : DoorIx}

/-! ### Door units named by a payload -/

/-- The payload that names a door unit. -/
abbrev doorPayload (f : Face) (j : DoorIx) : List Byte := [faceCode f, b8 j.val]

/-- A payload that names no face, or no fitted door unit of the face, is refused. -/
theorem withDoor_refused {a b : Byte} (h : faceOf a.toNat = none ∨ ∃ k, faceOf a.toNat = some k ∧ (s.geo k).n ≤ b.toNat)
    (d : Face → DoorIx → State → State × Reply) : withDoor [a, b] d s = refuse .badField s := by
  have first : byteAt [a, b] 0 = a.toNat := rfl
  have second : byteAt [a, b] 1 = b.toNat := rfl
  unfold withDoor
  rw [first, second]
  rcases h with h | ⟨k, h, hn⟩
  · rw [h]
  · rw [h]
    split
    · next a j hf hj =>
      cases hf
      have value : j.val = b.toNat := by
        unfold ixOf at hj
        split at hj
        · cases hj; rfl
        · cases hj
      rw [if_neg]
      simp [State.isFitted, value, hn]
    · rfl

theorem unlessCommit_taken (h : s.commit = none) (d : State → State × Reply) : unlessCommit d s = d s := by
  simp [unlessCommit, h]

/-! ### The isolated flag (R25) -/

/-- A change of the isolated flag, reported. -/
def State.isolating (f : Face) (j : DoorIx) (b : Bool) (s : State) : State := (s.setIsolated f j b).reportDoor f j

section Isolating
variable {b : Bool}

@[simp] theorem isolating_face : (s.isolating f j b).face g = s.face g := by
  have kept : (s.setIsolated f j b).face g = s.face g := by cases g <;> rfl
  simp [State.isolating, State.reportDoor, kept]

theorem isolating_notices : (s.isolating f j b).notices = s.notices :=
  report_keeps State.notices (fun _ l _ => by cases l <;> rfl) ..

theorem isolating_outside : (s.isolating f j b).outside f = (s.setIsolated f j b).outside f := reportDoor_outside ..

theorem isolating_config : (s.isolating f j b).config = s.config.setIso f (put (s.iso f) j b) :=
  outside_eq_of State.config (fun _ => rfl) isolating_outside

theorem isolating_msClock : (s.isolating f j b).msClock = s.msClock :=
  outside_eq_of (s := s.setIsolated f j b) State.msClock (fun _ => rfl) isolating_outside

theorem isolating_geo : (s.isolating f j b).geo g = s.geo g := by
  cases f <;> cases g <;> simp only [State.geo, isolating_config] <;> rfl

theorem isolating_par : (s.isolating f j b).par g = s.par g := by
  cases f <;> cases g <;> simp only [State.par, isolating_config] <;> rfl

theorem isolating_groupOf : (s.isolating f j b).groupOf f k = s.groupOf f k := by simp only [State.groupOf, isolating_geo]

theorem isolating_sectionActive : (s.isolating f j b).sectionActive f k = s.sectionActive f k := by
  simp only [State.sectionActive, isolating_geo]

theorem isolating_isolated : (s.isolating f j b).isolated f j = b := by
  cases f <;> simp [State.isolated, State.iso, isolating_config, WorkingCopy.setIso]

theorem isolating_door : (s.isolating f j b).door f k = s.door f k := by simp [State.door]

theorem isolating_group (p : GroupIx) : (s.isolating f j b).group f p = s.group f p := by simp [State.group]

theorem isolating_input : (s.isolating f j b).input f k = s.input f k := by simp [State.input]

theorem isolating_noEntry {p : GroupIx} : (s.isolating f j b).noEntry f p k ↔ s.noEntry f p k :=
  noEntry_congr (by rw [isolating_group])

theorem isolating_opensLocked : (s.isolating f j false).opensLocked f j =
    ((s.face f).mode.latch && s.sectionActive f j) := by
  rw [State.opensLocked, isolating_isolated, isolating_sectionActive, isolating_face]
  simp

end Isolating

/-- A LOCKED door unit that is given an EMERGENCY OPEN starts toward open (R24, R133). -/
theorem emergencyIfLocked_enters (hd : (s.door f j).state = some .locked) (h : s.opensLocked f j = true) :
    s.emergencyIfLocked f j = s.enter f j .unlatching (DoorRec.startOpen .emergency) := by
  obtain ⟨⟨latch, isolated⟩, active⟩ : ((s.face f).mode.latch = true ∧ s.isolated f j = false) ∧ s.sectionActive f j = true := by
    simpa [State.opensLocked] using h
  simp [State.emergencyIfLocked, State.request, State.takeOpen, latch, isolated, active, hd, permits_of_latch]

/-- A row whose engine rests, after a change of the configuration: what is left to be told is dropped. -/
theorem exec_row_from {i : Instr} {r : RequestRule} {l : Link} {y : Frame} {c : ResultCode} {body : List Byte}
    (hr : requestRule i = some r) (hx : i.frame? = some (l, y)) (ha : r.owner.allows l = true)
    (hp : y.payload.length = r.needs) (h : s.ready l y = true) (hd : r.decide (s.popFrame l) = (w, ⟨c, body⟩))
    (hv : v.notices = []) (ho : w.outside f = v.outside f) (he : (w.face f).engine.running = false) : ∃ u : State,
      exec i s = .next (u.replied l y c body) ∧ u.face f = w.face f ∧ u.outside f = v.outside f := by
  have told := notices_of_outside v f (by simp [hv]) ho
  refine ⟨w.drain, exec_row hr hx ha hp h hd, ?_, (drain_outside _ f told).trans ho⟩
  rw [drain_calm _ fun n hn => by rw [told n hn]; exact he]
  cases f <;> rfl

/-! ### ACK GAP (R54) -/

theorem recomputeClp_sense (o : Option DoorIx) : (s.recomputeClp f o).sense f k = s.sense f k := by
  unfold State.recomputeClp
  split
  · dsimp only
    split <;> simp [State.sense]
  · rfl

theorem recomputeClp_ring (o : Option DoorIx) : ((s.recomputeClp f o).face f).ring = (s.face f).ring := by
  unfold State.recomputeClp
  split
  · dsimp only
    split <;> simp
  · rfl

theorem completeRecord_sense (e : Episode) (o : EpisodeOutcome) : (s.completeRecord f e o).sense f k = s.sense f k := by
  unfold State.completeRecord
  split
  · rfl
  · simp [State.sense]

/-- A zone that is left with an episode open is in the new state, with its episode over. -/
theorem leaveZone_sense {e : Episode} (he : (s.sense f j).episode = some e) (z : Zone) (o : EpisodeOutcome) :
    (s.leaveZone f j z o).sense f j = { s.sense f j with zone := z, clearing := none, episode := none } := by
  unfold State.leaveZone
  simp only [he]
  rw [recomputeClp_sense, State.reportGap, sense_of_face (report_face ..), mapSense_sense, State.putZone, mapSense_sense,
    completeRecord_sense]

/-- The record of its episode is completed in the ring slot that the zone kept. -/
theorem leaveZone_ring {e : Episode} (he : (s.sense f j).episode = some e) (z : Zone) (o : EpisodeOutcome) :
    ((s.leaveZone f j z o).face f).ring = ((s.completeRecord f e o).face f).ring := by
  unfold State.leaveZone
  simp only [he]
  rw [recomputeClp_ring, State.reportGap, report_face]
  simp [State.putZone]

end Sys2Proof.Machine
end

section
open Sys2Proof Sys2Proof.Machine

/-- Settles O50: each request decided for its door unit, on a face whose engine rests. -/
theorem doorMaintenanceRequests : Obligations.DoorMaintenanceRequests := by
  intro f j g s hs hf p v d
  obtain ⟨powered, notices, rests⟩ := calm_iff.1 hs
  have face : ∀ k, v.face k = s.face k := popFrame_face s .sl
  have config : v.config = s.config := popFrame_config ..
  have clock : v.msClock = s.msClock := by simp [v, State.popFrame]
  have told : v.notices = [] := (popFrame_notices ..).trans notices
  have still : (v.face f).engine.running = false := by rw [face]; exact rests
  have door : v.door f j = d := door_of_face (face f)
  have fitted : v.isFitted f j = true := by rw [isFitted_of config]; exact hf
  have isolated : v.isolated f j = s.isolated f j := isolated_of config f j
  have served : v.served f j = s.served f j := by simp only [State.served, State.map, face]
  have commit : s.commit = none → v.commit = none := fun h => (popFrame_commit ..).trans h
  have iso : v.iso f = s.iso f := by cases f <;> simp only [State.iso, config]
  have isolating_kept : ∀ b k, (v.isolating f j b).face k = s.face k := fun b k => isolating_face.trans (face k)
  have isolating_set : ∀ b, (v.isolating f j b).config = s.config.setIso f (put (s.iso f) j b) := fun b => by
    rw [isolating_config, config, iso]
  refine ⟨fun h hc => ?_, fun h hc => ?_, fun h => ?_, fun a b h hb => ?_, fun h => ?_⟩
  · have decides : decideIsolate p v = if (v.door f j).state ≠ some .locked then refuse .notLocked v
        else if v.served f j then refuse .served v
        else if v.isolated f j then accepted v else accepted (v.isolating f j true) := by
      rw [decideIsolate, withDoor_of_isFitted fitted, unlessCommit_taken (commit hc)]
      rfl
    rw [door, served, isolated] at decides
    refine ⟨fun _ hl => ?_, fun hl hv => ?_, fun hl hv hi => ?_, fun hl hv hi => ⟨v.isolating f j true, ?_, isolating_set _,
      isolating_kept _⟩⟩
    · rw [if_pos hl] at decides
      exact exec_row_quiet (i := .isolate .sl g p) rfl rfl rfl rfl h decides told
    · rw [if_neg (not_not.2 hl), if_pos hv] at decides
      exact exec_row_quiet (i := .isolate .sl g p) rfl rfl rfl rfl h decides told
    · rw [if_neg (not_not.2 hl), if_neg (by simp [hv]), if_pos hi] at decides
      exact exec_row_quiet (i := .isolate .sl g p) rfl rfl rfl rfl h decides told
    · rw [if_neg (not_not.2 hl), if_neg (by simp [hv]), if_neg (by simp [hi])] at decides
      exact exec_row_quiet (i := .isolate .sl g p) rfl rfl rfl rfl h decides (isolating_notices.trans told)
  · have decides : decideRestore p v = if v.isolated f j then accepted ((v.isolating f j false).emergencyIfLocked f j)
        else accepted v := by
      rw [decideRestore, withDoor_of_isFitted fitted, unlessCommit_taken (commit hc)]
      rfl
    rw [isolated] at decides
    intro restored opens
    let x := v.isolating f j false
    have xdoor : x.door f j = d := isolating_door.trans door
    have xclock : x.msClock = s.msClock := isolating_msClock.trans clock
    have xpar : x.par f = s.par f := isolating_par.trans (par_of config f)
    have xgroupOf : x.groupOf f j = s.groupOf f j := isolating_groupOf.trans (groupOf_of config f j)
    have xgroup : ∀ q, x.group f q = s.group f q := fun q => (isolating_group q).trans (group_of_face (face f) q)
    have xopens : x.opensLocked f j = ((s.face f).mode.latch && s.sectionActive f j) := by
      rw [isolating_opensLocked, face, sectionActive_of config]
    have base : x.outside f = (v.mapConfig (fun _ => restored)).outside f := by
      rw [isolating_outside, State.setIsolated, State.mapConfig, State.mapConfig, config, iso]
    -- the door unit that is given an EMERGENCY OPEN
    have emergency : s.isolated f j = true → opens → ∃ u : State,
        exec (.restore .sl g p) s = .next (u.replied .sl ⟨0x33#8, g, p⟩ .accept [])
          ∧ u.face f = (x.enter f j .unlatching (DoorRec.startOpen .emergency)).face f
          ∧ OnlyDoor f j (v.mapConfig (fun _ => restored)) u := fun hi ho => by
      obtain ⟨latch, locked, active⟩ := ho
      have enters : x.emergencyIfLocked f j = x.enter f j .unlatching (DoorRec.startOpen .emergency) :=
        emergencyIfLocked_enters (by rw [xdoor]; exact locked) (by rw [xopens, latch, active]; rfl)
      rw [if_pos hi, enters] at decides
      obtain ⟨out, side, unit⟩ := enter_onlyDoor (s := x) (f := f) (j := j) .unlatching (DoorRec.startOpen .emergency)
      have same : x.face f = (v.mapConfig (fun _ => restored)).face f := isolating_face.trans (by cases f <;> rfl)
      have config' : x.config = (v.mapConfig (fun _ => restored)).config := isolating_set _
      have kept : (x.enter f j .unlatching (DoorRec.startOpen .emergency)).side f = v.side f :=
        side.trans (side_of_face isolating_face)
      obtain ⟨u, run, hu, out'⟩ := exec_row_from (i := .restore .sl g p) (v := v.mapConfig (fun _ => restored)) rfl rfl rfl rfl h
        decides told (out.trans base) (by rw [engine_of_side kept]; exact still)
      refine ⟨u, run, hu, out', (side_of_face hu).trans (side.trans (side_of_face same)), fun k hk hn => ?_⟩
      rw [groupOf_of config'.symm] at hn
      exact (unit_of_face hu k).trans ((unit k hk ((noEntry_of_face same).2 hn)).trans (unit_of_face same k))
    refine ⟨fun hi => ?_, fun hi ho => ⟨x, ?_, isolating_set _, isolating_kept _⟩, fun hi ho hl => ?_, fun hi ho hl hn => ?_⟩
    · rw [if_neg (by simp [hi])] at decides
      exact exec_row_quiet (i := .restore .sl g p) rfl rfl rfl rfl h decides told
    · have stays : x.emergencyIfLocked f j = x := by
        by_cases hd : d.state = some .locked
        · refine emergencyIfLocked_stays ?_
          rw [xopens, Bool.eq_false_iff]
          intro both
          obtain ⟨latch, active⟩ := Bool.and_eq_true_iff.1 both
          exact ho ⟨latch, hd, active⟩
        · exact emergencyIfLocked_other (by rw [xdoor]; exact hd)
      rw [if_pos hi, stays] at decides
      exact exec_row_quiet (i := .restore .sl g p) rfl rfl rfl rfl h decides (isolating_notices.trans told)
    · obtain ⟨u, run, hu, only⟩ := emergency hi ho
      have locked : (x.input f j).lockEngaged = true := by rw [isolating_input, State.input, face]; exact hl
      rw [enter_locked_in locked] at hu
      refine ⟨u, run, ?_, ?_, only⟩
      · rw [door_of_face hu, enterTold_removeEntry_door, xdoor, xclock, xpar]
        rfl
      · rw [← xgroupOf]
        exact (noEntry_of_face hu).2 (told_noEntry _ _)
    · intro group e q unlatched
      obtain ⟨u, run, hu, only⟩ := emergency hi ho
      have free : x.noEntry f (x.groupOf f j) j := by
        rw [xgroupOf]
        exact isolating_noEntry.2 ((noEntry_of_face (face f)).2 hn)
      obtain ⟨-, starts⟩ := startsOpening_of_face hu (enter_startsOpening .emergency free)
      obtain ⟨settles, waits, granted⟩ := starts (by rw [isolating_input, State.input, face]; exact hl)
      rw [xpar, xgroupOf, xgroup, xdoor, xclock] at settles waits granted
      exact ⟨u, run, only, fun hs => (settles hs).symm, fun hs hw => (waits hs hw).symm, fun hs hh hg => (granted hs hh hg).symm⟩

  · have decides : decideDoorReset p v = if d.state = some .fault then accepted (v.resolve f j) else refuse .notFaulted v := by
      rw [decideDoorReset, withDoor_of_isFitted fitted, door]
    refine ⟨fun _ hd => ?_, fun hd => ?_⟩
    · rw [if_neg hd] at decides
      exact exec_row_quiet (i := .doorReset .sl g p) rfl rfl rfl rfl h decides told
    · rw [if_pos hd] at decides
      intro found
      obtain ⟨u, run, hu, out⟩ := exec_row_calm (i := .doorReset .sl g p) rfl rfl rfl rfl h decides (resolve_outside ..)
        (by rw [engine_of_side (resolve_side ..)]; exact still)
      obtain ⟨record, free⟩ := resolve_resolvedRec (s := v) (f := f) (j := j) (by rw [door, hd]; simp)
      have input : v.input f j = s.input f j := by rw [State.input, face]; rfl
      have resolved : u.door f j = s.resolvedRec f j (s.input f j) := by
        rw [door_of_face hu, record, input]
        exact resolvedRec_of config (by rw [face]) clock door
      refine ⟨u, run, fun hfault => ?_, fun _ => resolved, ?_, ?_⟩
      · rw [resolved, State.resolvedRec, if_neg (by simp [found] at hfault; simp [hfault]),
          if_neg (by simp [found] at hfault; simp [hfault])]
        exact ⟨congrArg some hfault, rfl⟩
      · rw [← groupOf_of config]
        exact (noEntry_of_face hu).2 free
      · exact OnlyDoor.of_face ⟨resolve_outside .., resolve_side .., fun k hk hn => resolve_unit hk hn⟩ hu out
  · have decides : decideAckGap [a, b] v = (v, ⟨.badField, []⟩) :=
      withDoor_refused (hb.imp_right fun ⟨k, hk, hn⟩ => ⟨k, hk, by rw [geo_of config]; exact hn⟩) _
    exact exec_row_quiet (i := .ackGap .sl g [a, b]) rfl rfl rfl rfl h decides told
  · have decides : decideAckGap p v = if (v.sense f j).zone = .latched then accepted (v.leaveZone f j .watch .acknowledged)
        else refuse .notLatched v := by
      rw [decideAckGap, withDoor_of_isFitted fitted]
    have sense : v.sense f j = s.sense f j := sense_of_face (face f)
    rw [sense] at decides
    -- a LATCHED zone is left
    have left : ∀ e : Episode, (s.sense f j).zone = .latched → (s.sense f j).episode = some e → ∃ u : State,
        exec (.ackGap .sl g p) s = .next (u.replied .sl ⟨0x35#8, g, p⟩ .accept [])
        ∧ u.sense f j = { s.sense f j with zone := .watch, clearing := none, episode := none }
        ∧ (u.face f).ring = ((v.completeRecord f e .acknowledged).face f).ring
        ∧ (u.face f).doors = (s.face f).doors ∧ (u.face f).groups = (s.face f).groups
        ∧ u.outside f = v.outside f ∧ u.side f = s.side f := fun e hz he => by
      rw [if_pos hz] at decides
      obtain ⟨u, run, hu, out⟩ := exec_row_calm (i := .ackGap .sl g p) rfl rfl rfl rfl h decides (leaveZone_outside ..)
        (by rw [engine_of_side (leaveZone_side ..)]; exact still)
      have open_ : (v.sense f j).episode = some e := by rw [sense]; exact he
      exact ⟨u, run, by rw [sense_of_face hu, leaveZone_sense open_, sense], by rw [hu, leaveZone_ring open_],
        by rw [hu, leaveZone_doors, face], by rw [hu, leaveZone_groups, face], out,
        (side_of_face hu).trans ((leaveZone_side ..).trans (side_of_face (face f)))⟩
    refine ⟨fun hz => ?_, fun e i hz he hi => ?_, fun e hz he hi => ?_⟩
    · rw [if_neg hz] at decides
      exact exec_row_quiet (i := .ackGap .sl g p) rfl rfl rfl rfl h decides told
    · obtain ⟨u, run, sensed, ring, rest⟩ := left e hz he
      refine ⟨u, run, sensed, ring.trans ?_, rest⟩
      simp only [State.completeRecord, hi, mapFace_face, face, clock]
      rfl
    · obtain ⟨u, run, sensed, ring, rest⟩ := left e hz he
      refine ⟨u, run, sensed, ring.trans ?_, rest⟩
      simp only [State.completeRecord, hi, face]

end

section
namespace Sys2Proof.Machine

/-! SUPPORT. Positions that are fitted anew or are no longer fitted, and the geometry writes (R5, R64 to R66, R72). -/

variable {s t u v w x : State} {f g : Face} {j k : DoorIx} {q : Geometry}

/-! ### Resolution of several door units -/

theorem enterState_unit (st : DoorState) (edit : DoorRec → DoorRec) (e : k ≠ j) :
    (s.enterState f j st edit).unit f k = s.unit f k := by
  simp only [State.enterState, senseZone_unit _ _ _ e, State.senseDeferral, mapSense_unit _ _ _ e, State.senseTracker]
  (repeat' split) <;> simp only [mapSense_unit _ _ _ e, State.reportDoor, report_unit, mapDoor_unit _ _ _ e]

theorem resolveOne_unit (e : k ≠ j) : (s.resolveOne f j).unit f k = s.unit f k := by
  rw [State.resolveOne, tell_unit, enterState_unit _ _ e]

theorem forEach_resolveOne_unit (js : List DoorIx) (h : k ∉ js) : (forEach js (State.resolveOne f) s).unit f k = s.unit f k := by
  induction js generalizing s with
  | nil => rfl
  | cons j js ih =>
    rw [List.mem_cons, not_or] at h
    exact (ih h.2).trans (resolveOne_unit h.1)

theorem emergencyIfLocked_calm (h : (s.face f).mode.latch = false) : s.emergencyIfLocked f j = s :=
  emergencyIfLocked_stays (by rw [State.opensLocked, h]; rfl)

theorem forEach_emergencyIfLocked_calm (js : List DoorIx) (h : (s.face f).mode.latch = false) :
    forEach js (State.emergencyIfLocked f) s = s := by
  induction js with
  | nil => rfl
  | cons j js ih =>
    show forEach js _ (s.emergencyIfLocked f j) = s
    rw [emergencyIfLocked_calm h]
    exact ih

theorem forEach_resolveOne_side (js : List DoorIx) : (forEach js (State.resolveOne f) s).side g = s.side g :=
  forEach_keeps (State.side g) _ (fun _ _ => by simp [State.resolveOne]) _ _

/-- Without the emergency latch, resolution asks nothing of the door units. -/
theorem resolveNew_calm (js : List DoorIx) (h : (s.face f).mode.latch = false) :
    s.resolveNew f js = (forEach js (State.resolveOne f) s).recomputeClp f none := by
  rw [resolveNew_eq]
  refine forEach_emergencyIfLocked_calm js ?_
  rw [latch_of_side (recomputeClp_side ..), latch_of_side (forEach_resolveOne_side js)]
  exact h

theorem resolveNew_unit_calm (js : List DoorIx) (h : (s.face f).mode.latch = false) (hk : k ∉ js) :
    (s.resolveNew f js).unit f k = s.unit f k := by
  rw [resolveNew_calm js h, recomputeClp_unit, forEach_resolveOne_unit js hk]

/-- Resolution leaves CLP computed (R120). -/
theorem resolveNew_clpTrue (js : List DoorIx) : (s.resolveNew f js).clpTrue f := by
  rw [resolveNew_eq]
  exact (forEach_tended (fun _ _ => emergencyIfLocked_tended) js _).clp (recomputeClp_true _)

/-! ### Positions that lose their records -/

theorem unfit_unit_self : (s.unfit f j).unit f j = (DoorRec.blank, DoorSense.blank) := by
  have door : (s.unfit f j).door f j = DoorRec.blank := by simp [State.unfit, State.door]
  have sense : (s.unfit f j).sense f j = DoorSense.blank := mapSense_sense ..
  rw [State.unit, door, sense]
  rfl

theorem unfit_unit (e : k ≠ j) : (s.unfit f j).unit f k = s.unit f k := by
  rw [State.unfit, mapSense_unit _ _ _ e, mapDoor_unit _ _ _ e]

theorem unfit_side : (s.unfit f j).side g = s.side g := by simp [State.unfit]

theorem forEach_unfit_unit (js : List DoorIx) : (forEach js (State.unfit f) s).unit f k =
    if k ∈ js then (DoorRec.blank, DoorSense.blank) else s.unit f k := by
  induction js generalizing s with
  | nil => rfl
  | cons j js ih =>
    refine (ih (s := s.unfit f j)).trans ?_
    by_cases hk : k ∈ js
    · rw [if_pos hk, if_pos (List.mem_cons_of_mem _ hk)]
    · rw [if_neg hk]
      by_cases e : k = j
      · subst e
        rw [if_pos List.mem_cons_self, unfit_unit_self]
      · rw [if_neg (by simp [e, hk]), unfit_unit e]

/-! ### The geometry write -/

theorem regeo_face : (s.regeo f q).face g = s.face g := mapConfig_face ..

theorem refit_outside : (s.refit f q).outside f = (s.regeo f q).outside f := forEach_unfit_outside ..

theorem setGeometry_outside_regeo : (s.setGeometry f q).outside f = (s.regeo f q).outside f := by
  rw [setGeometry_eq]
  split
  · exact (resolveNew_outside ..).trans refit_outside
  · exact refit_outside

theorem refit_side : (s.refit f q).side g = s.side g :=
  (forEach_keeps (State.side g) _ (fun _ _ => unfit_side) _ _).trans (side_of_face regeo_face)

theorem setGeometry_side : (s.setGeometry f q).side g = s.side g := by
  rw [setGeometry_eq]
  split
  · exact (resolveNew_side ..).trans refit_side
  · exact refit_side

/-- What a geometry write makes of the door units where the latch is clear. -/
theorem setGeometry_unit (hl : (s.face f).mode.latch = false) (hk : s.isFitted f k = true) :
    (s.setGeometry f q).unit f k = if k.val < q.n then s.unit f k else (DoorRec.blank, DoorSense.blank) := by
  have refit : (s.refit f q).unit f k = if k.val < q.n then s.unit f k else (DoorRec.blank, DoorSense.blank) := by
    have gone : k ∈ s.refitted f q ↔ ¬k.val < q.n := by rw [mem_refitted, regeo_isFitted, hk]; simp
    rw [State.refit, forEach_unfit_unit, unit_of_face regeo_face]
    by_cases h : k.val < q.n
    · rw [if_pos h, if_neg (fun m => gone.1 m h)]
    · rw [if_neg h, if_pos (gone.2 h)]
  have old : k ∉ s.newly f q := by simp [State.newly, mem_fitted, hk]
  rw [setGeometry_eq]
  split
  · rw [resolveNew_unit_calm _ (by rw [latch_of_side refit_side]; exact hl) old, refit]
  · exact refit

theorem setGeometry_clp (h : s.scanDone = true) : (s.setGeometry f q).clpTrue f := by
  rw [setGeometry_eq, if_pos h]
  exact resolveNew_clpTrue _

/-- A geometry write that passes its checks is taken. -/
theorem tryGeometry_taken (hl : s.config.geometryLock = false) (hw : s.writable f = true) (hq : q.valid = true) :
    s.tryGeometry f q = accepted (s.setGeometry f q) := by
  simp [State.tryGeometry, hl, hw, hq]

theorem intAt_be16 {a : Byte} {n : Nat} (h : n < 2 ^ 16) : intAt (a :: be16 n) 1 2 = n := by
  simp only [intAt, be16, b8, List.drop_succ_cons, List.drop_zero, List.take, readNat, List.foldl_cons, List.foldl_nil,
    BitVec.toNat_ofNat]
  omega

end Sys2Proof.Machine
end

section
open Sys2Proof Sys2Proof.Machine

/-- Settles O43: the geometry write taken whole, and the lock. -/
theorem geometryIsWrittenAndLocked : Obligations.GeometryIsWrittenAndLocked := by
  constructor
  · intro f g s hs hc hlock hb ha keeps
    obtain ⟨powered, notices, rests⟩ := calm_iff.1 hs
    let v := s.popFrame .sl
    have face : ∀ k, v.face k = s.face k := popFrame_face s .sl
    have config : v.config = s.config := popFrame_config ..
    have told : v.notices = [] := (popFrame_notices ..).trans notices
    have scan : v.scanDone = s.scanDone := by simp [v, State.popFrame]
    have commit : v.commit = none := (popFrame_commit ..).trans hc
    have locked : v.config.geometryLock = false := by rw [config]; exact hlock
    have writable : v.writable f = true := by
      have all : v.allLocked f = s.allLocked f := by
        simp only [State.allLocked, fitted_of config, show ∀ k, v.door f k = s.door f k from fun k => door_of_face (face f)]
      rw [State.writable, all, ha, State.berth, face, show (s.face f).berth.state = .empty from hb]
      rfl
    -- the write, once it is decided
    have writes : ∀ {i : Instr} {r : RequestRule} {y : Frame} (q : Geometry), requestRule i = some r → i.frame? = some (.sl, y) →
        r.owner.allows .sl = true → y.payload.length = r.needs → s.ready .sl y = true →
        r.decide v = (v.setGeometry f q, ⟨.accept, []⟩) →
        ∃ u : State, exec i s = .next (u.replied .sl y .accept []) ∧ keeps u q := fun {i r y} q hr hx ho hp h hd => by
      let w := v.setGeometry f q
      have out : w.outside f = (v.regeo f q).outside f := setGeometry_outside_regeo
      have ends : w.drain = { w with notices := [] } := drain_calm _ fun n hn => by
        rw [notices_of_outside (v.regeo f q) f (by rw [show (v.regeo f q).notices = [] from told]; simp) out n hn]
        rw [engine_of_side setGeometry_side, face]
        exact rests
      have latch : (s.face f).mode.latch = false → (v.face f).mode.latch = false := by rw [face]; exact id
      have fitted : ∀ j, v.isFitted f j = s.isFitted f j := isFitted_of config f
      refine ⟨{ w with notices := [] }, by rw [exec_row hr hx ho hp h hd, ends], ?_, fun k hk => ?_, fun hl j hf hj => ?_,
        fun hl j hf hj => ?_, fun hs => ?_⟩
      · have written : w.config = (v.regeo f q).config := outside_eq_of State.config (fun _ => rfl) out
        have iso : v.iso f = s.iso f := by cases f <;> simp only [State.iso, config]
        refine written.trans ?_
        rw [State.regeo, mapConfig_config, config, iso]
      · exact (face_of_outside out hk).trans (regeo_face.trans (face k))
      · have kept := setGeometry_unit (q := q) (latch hl) (by rw [fitted]; exact hf)
        rw [if_pos hj] at kept
        exact kept.trans (unit_of_face (face f) j)
      · have lost := setGeometry_unit (q := q) (latch hl) (by rw [fitted]; exact hf)
        rwa [if_neg (Nat.not_lt.2 hj)] at lost
      · have done : w.scanDone = true := by
          rw [outside_eq_of State.scanDone (fun _ => rfl) out]
          exact scan.trans hs
        exact setGeometry_clp (scan.trans hs) done
    refine ⟨fun p q h hp hlen hread hvalid => ?_, fun t h50 h600 hspaced h => ?_⟩
    · refine writes (i := .writeGeometry .sl g p) q rfl rfl rfl hlen h ?_
      show decideWriteGeometry p v = _
      rw [decideWriteGeometry, withFace_named hp, hread]
      exact (unlessCommit_taken commit _).trans (tryGeometry_taken locked writable hvalid)
    · refine writes (i := .writeTolerance .sl g _) _ rfl rfl rfl rfl h ?_
      show decideWriteTolerance (faceCode f :: be16 t) v = _
      have named : faceOf (byteAt (faceCode f :: be16 t) 0) = some f := byteAt_faceCode f (be16 t)
      have ok : toleranceOk t = true := by simp [toleranceOk, h50, h600]
      rw [decideWriteTolerance, intAt_be16 (by omega), withFace_named named]
      simp only [ok, unlessCommit_taken commit, locked, writable, hspaced, geo_of config, Bool.not_true, Bool.false_eq_true, if_false]
      rfl
  · intro g s u lock unlock writes
    have told : s.notices = [] → u.notices = [] := fun h => (popFrame_notices ..).trans h
    have commit : u.commit = s.commit := popFrame_commit ..
    have maint : u.maint = s.maint := by simp [u, State.popFrame]
    refine ⟨fun h => ?_, fun h => ?_, fun v hp hn => ?_⟩
    · have quiet := told (ready_iff.mp h).2.1
      by_cases hc : s.commit.isSome = true
      · rw [if_pos hc]
        exact exec_row_quiet (i := .lockGeometry .sl g []) rfl rfl rfl rfl h (if_pos (by rw [commit]; exact hc)) quiet
      · rw [if_neg hc]
        exact exec_row_quiet (i := .lockGeometry .sl g []) rfl rfl rfl rfl h (if_neg (by rw [commit]; exact hc)) quiet
    · have quiet := told (ready_iff.mp h).2.1
      by_cases hc : s.commit.isSome = true
      · rw [if_pos hc]
        exact exec_row_quiet (i := .unlockGeometry .sl g []) rfl rfl rfl rfl h (if_pos (by rw [commit]; exact hc)) quiet
      · rw [if_neg hc]
        have taken : decideUnlock u = if u.maint then accepted (u.mapConfig (fun c => { c with geometryLock := false }))
            else refuse .notPermitted u := if_neg (by rw [commit]; exact hc)
        rw [maint] at taken
        by_cases hm : s.maint = true
        · rw [if_pos hm] at taken ⊢
          exact exec_row_quiet (i := .unlockGeometry .sl g []) rfl rfl rfl rfl h taken quiet
        · rw [if_neg hm] at taken ⊢
          exact exec_row_quiet (i := .unlockGeometry .sl g []) rfl rfl rfl rfl h taken quiet
    · exact event_quiet (op := fun x => { x with maint := v }) hp hn

end

section
namespace Sys2Proof.Machine

/-! SUPPORT. What a start leaves in the units of the faces (R27, R39, R59, R91, R95, R122, R127, R136, R152). -/

variable {s : State} {f g : Face} {o : Option KeyPos} {cause : ResetCause} {r : StartReadings}

/-! ### The first reading of the keyswitch -/

/-- A mode unit after the first reading of its keyswitch: only AUTO makes a change (R127, R136). -/
def ModeUnit.firstReading (m : ModeUnit) : Option KeyPos → ModeUnit
  | none => m
  | some .auto => { m with
    keyRead := true
    key := .auto
    saved := none
    mode := m.saved.getD .maintenance
    generation := m.generation + 1 }
  | some pos => { m with keyRead := true, key := pos }

/-- A face whose keyswitch is still to be read, with nothing posted and no release (R127, R136). -/
structure Unread (f : Face) (s : State) : Prop where
  key : (s.face f).mode.keyRead = false
  posted : (s.face f).berth.posted = none
  release : (s.face f).berth.release = false

theorem enterMaintenance_face (hp : (s.face f).berth.posted = none) (hr : (s.face f).berth.release = false) :
    (s.enterMaintenance f).face f = s.face f := by
  have same : { (s.face f).berth with release := false } = (s.face f).berth := by rw [← hr]
  have cleared : (s.clearRelease f).face f = s.face f := by
    rw [State.clearRelease, State.mapBerth, mapFace_face, same]
  rw [State.enterMaintenance, State.discardPosted, State.berth, cleared, hp]
  exact cleared

/-- The first reading changes the mode unit alone: there is nothing posted to discard, and no release to clear. -/
theorem firstKey_face (h : Unread f s) :
    (s.firstKey f o).face f = { s.face f with mode := (s.face f).mode.firstReading o } := by
  match o with
  | none => rfl
  | some .auto =>
    simp only [State.firstKey, State.keyAccepted, h.key, Bool.false_eq_true, if_false, if_true, State.keyEntersAuto, reportMode_face]
    split
    · rw [enterMaintenance_face (by simpa using h.posted) (by simpa using h.release)]
      simp [State.mapMode, ModeUnit.firstReading]
    · simp [State.mapMode, ModeUnit.firstReading]
  | some .localOpen => simp [State.firstKey, State.keyAccepted, h.key, State.mapMode, ModeUnit.firstReading]
  | some .localClose => simp [State.firstKey, State.keyAccepted, h.key, State.mapMode, ModeUnit.firstReading]

theorem firstKey_outside : (s.firstKey f o).outside f = s.outside f := by
  cases o with
  | none => rfl
  | some pos => exact keyAccepted_outside ..

/-! ### The start -/

theorem startValues_face : (s.startValues cause r).face f =
    faceAtStart s.nvAfterCut.load ((s.startValues cause r).par f) (startReadings r f) := by cases f <;> rfl

theorem startValues_unread : Unread f (s.startValues cause r) := by
  constructor <;> rw [startValues_face]
  · rfl
  · simp only [faceAtStart, Berth.resolved]; split <;> rfl
  · simp only [faceAtStart, Berth.resolved]; split <;> rfl

/-- A face after a start: its start values, with the first reading of the keyswitch taken. -/
def faceStarted (x : Loaded) (p : Params) (r : FaceReadings) : FaceState :=
  { faceAtStart x p r with mode := (faceAtStart x p r).mode.firstReading r.key }

theorem start_face : (s.start cause r).face f =
    faceStarted s.nvAfterCut.load ((s.startValues cause r).par f) (startReadings r f) := by
  rw [faceStarted, ← startValues_face]
  have first : ((s.startValues cause r).firstKey .f0 r.f0.key).face .f1 = (s.startValues cause r).face .f1 :=
    face_of_outside firstKey_outside (by decide)
  cases f with
  | f0 => exact (face_of_outside firstKey_outside (by decide)).trans (firstKey_face startValues_unread)
  | f1 =>
    have unread : Unread .f1 (s.startValues cause r) := startValues_unread
    refine (firstKey_face ⟨?_, ?_, ?_⟩).trans ?_ <;> rw [first]
    exacts [unread.key, unread.posted, unread.release, rfl]

theorem start_of {β : Type} (p : State → β) (h : ∀ g (x : State), p (x.outside g) = p x) :
    p (s.start cause r) = p (s.startValues cause r) :=
  (outside_eq_of p (h .f1) firstKey_outside).trans (outside_eq_of p (h .f0) firstKey_outside)

/-- A start tells the engines, which are idle, nothing. -/
theorem start_drain : (s.start cause r).drain = { s.start cause r with notices := [] } :=
  drain_calm _ fun n _ => by rw [start_face]; rfl

/-- Power-on and the RESET pin are starts. -/
theorem exec_start {c : Instr} (h : c = .powerOn r ∨ c = .resetPin r ∧ s.powered = true) :
    ∃ cause, exec c s = .next { s.start cause r with notices := [] } := by
  obtain rfl | ⟨rfl, powered⟩ := h
  · exact ⟨.power, congrArg _ start_drain⟩
  · exact ⟨.pin, by rw [← start_drain]; exact congrArg _ (if_pos powered)⟩

/-- What a start leaves outside the faces, and in each face. -/
theorem exec_start_face {c : Instr} (h : c = .powerOn r ∨ c = .resetPin r ∧ s.powered = true) : ∃ t, exec c s = .next t ∧
    t.scanDone = false ∧ t.ilLost = true ∧ t.silence = none ∧ t.msClock = 0 ∧ ∃ x : Loaded, x.invalid = t.configInvalid ∧
      ∀ f, t.face f = faceStarted x (t.par f) (startReadings r f) := by
  obtain ⟨cause, runs⟩ := exec_start h
  have kept {β : Type} (p : State → β) (h : ∀ g (x : State), p (x.outside g) = p x) := start_of (s := s) (cause := cause) (r := r) p h
  refine ⟨_, runs, kept State.scanDone fun _ _ => rfl, kept State.ilLost fun _ _ => rfl, kept State.silence fun _ _ => rfl,
    kept State.msClock fun _ _ => rfl, s.nvAfterCut.load, (kept State.configInvalid fun _ _ => rfl).symm, fun f => ?_⟩
  have par : (s.start cause r).par f = (s.startValues cause r).par f := par_of (kept State.config fun _ _ => rfl) f
  have face : ({ s.start cause r with notices := [] } : State).face f = (s.start cause r).face f := by cases f <;> rfl
  have par' : ({ s.start cause r with notices := [] } : State).par f = (s.start cause r).par f := by cases f <;> rfl
  rw [face, par', par, start_face]

/-! ### The start values of a face -/

/-- The mode unit at start, with the first reading of EOI (R132, R136). -/
def ModeUnit.alerted (start : Mode) (eoi : Bool) : ModeUnit := { ModeUnit.start start with latch := eoi, eoi := eoi }

theorem faceStarted_mode (x : Loaded) (p : Params) (r : FaceReadings) :
    (faceStarted x p r).mode = (ModeUnit.alerted (x.startMode p) r.eoi).firstReading r.key := rfl

theorem faceStarted_blank {s : State} {x : Loaded} {p : Params} {r : FaceReadings} (h : s.face f = faceStarted x p r) :
    (∀ j, s.door f j = DoorRec.blank) ∧ (∀ j, s.sense f j = DoorSense.blank) ∧ ∀ g, s.group f g = Group.blank := by
  refine ⟨fun j => ?_, fun j => ?_, fun g => ?_⟩
  · simp [State.door, h, faceStarted, faceAtStart, FaceState.start]
  · simp [State.sense, h, faceStarted, faceAtStart, FaceState.start]
  · simp [State.group, h, faceStarted, faceAtStart, FaceState.start]

theorem firstReading_kept (m : ModeUnit) : (m.firstReading o).latch = m.latch ∧ (m.firstReading o).eoi = m.eoi ∧
    (m.firstReading o).possession = m.possession := by
  match o with
  | none | some .auto | some .localOpen | some .localClose => exact ⟨rfl, rfl, rfl⟩

/-- A first reading other than AUTO leaves the face in LOCAL (R136). -/
theorem firstReading_local (m : ModeUnit) (h : o ≠ some .auto) : (m.firstReading o).mode = m.mode ∧
    (m.firstReading o).saved = m.saved ∧ (m.firstReading o).key = o.getD m.key ∧
    (m.firstReading o).generation = m.generation := by
  match o with
  | none | some .localOpen | some .localClose => exact ⟨rfl, rfl, rfl, rfl⟩
  | some .auto => exact absurd rfl h

end Sys2Proof.Machine
end

section
namespace Sys2Proof.Machine

/-! SUPPORT. What the first complete scan finds of the door units of a face (R4, R24, R27). -/

variable {s t : State} {f g : Face} {j k : DoorIx}

/-- The record of a door unit in the state that resolution finds (R7, R24). -/
def State.foundRec (s : State) (f : Face) (j : DoorIx) : DoorRec :=
  ({ s.door f j with cause := (s.resolution f j).2 } : DoorRec).enter (s.resolution f j).1 s.msClock (s.par f)

/-- The record of a door unit after the emergency form: one found LOCKED in an active section starts toward open (R24). -/
def State.emergencyForm (s : State) (f : Face) (j : DoorIx) (d : DoorRec) : DoorRec :=
  if d.state = some .locked ∧ s.opensLocked f j = true then (d.startOpen .emergency).enter .unlatching s.msClock (s.par f) else d

/-- What resolution and the emergency form make of a record is the record of R24. -/
theorem emergencyForm_foundRec : s.emergencyForm f j (s.foundRec f j) = s.resolvedRec f j (s.input f j) := by
  unfold State.resolvedRec State.emergencyForm State.foundRec
  dsimp only
  rw [resolution_eq]
  rcases resolvedState_cases (s.input f j) (s.isolated f j) (s.face f).mode.latch with ⟨e, -⟩ | e | e | e | ⟨c, e⟩ <;> rw [e]
  case inl =>
    refine if_congr ?_ rfl rfl
    simp [DoorRec.enter, State.opensLocked, and_assoc]
  all_goals
    rw [if_neg (by simp [DoorRec.enter]), if_neg (by simp)]
    rfl

theorem emergencyForm_of {d : DoorRec} (ho : t.outside f = s.outside f) (hs : t.side f = s.side f) :
    t.emergencyForm f j d = s.emergencyForm f j d := by
  have config : t.config = s.config := outside_eq_of State.config (fun _ => rfl) ho
  have clock : t.msClock = s.msClock := outside_eq_of State.msClock (fun _ => rfl) ho
  have opens : t.opensLocked f j = s.opensLocked f j := by
    rw [State.opensLocked, latch_of_side hs, isolated_of config, sectionActive_of config]
    rfl
  simp only [State.emergencyForm, opens, clock, par_of config]

theorem foundRec_of (ho : t.outside f = s.outside f) (hs : t.side f = s.side f) (hd : t.door f j = s.door f j) :
    t.foundRec f j = s.foundRec f j := by
  have config : t.config = s.config := outside_eq_of State.config (fun _ => rfl) ho
  have clock : t.msClock = s.msClock := outside_eq_of State.msClock (fun _ => rfl) ho
  simp only [State.foundRec, resolution_eq, input_of_side hs, isolated_of config, latch_of_side hs, clock, par_of config, hd]

/-! ### The states found -/

theorem resolveOne_outside : (s.resolveOne f j).outside f = s.outside f := by simp [State.resolveOne]

theorem resolveOne_side : (s.resolveOne f j).side g = s.side g := by simp [State.resolveOne]

theorem resolveOne_door_self : (s.resolveOne f j).door f j = s.foundRec f j := by
  simp [State.resolveOne, State.door, State.foundRec]

theorem forEach_resolveOne_door (js : List DoorIx) (nodup : js.Nodup) :
    (forEach js (State.resolveOne f) s).door f k = if k ∈ js then s.foundRec f k else s.door f k := by
  induction js generalizing s with
  | nil => rfl
  | cons j js ih =>
    obtain ⟨hj, nodup⟩ := List.nodup_cons.1 nodup
    refine (ih (s := s.resolveOne f j) nodup).trans ?_
    by_cases e : k = j
    · subst e
      rw [if_neg hj, if_pos List.mem_cons_self, resolveOne_door_self]
    · rw [resolveOne_door_other e, foundRec_of resolveOne_outside resolveOne_side (resolveOne_door_other e)]
      simp [e]

theorem forEach_resolveOne_groups (js : List DoorIx) :
    ((forEach js (State.resolveOne f) s).face f).groups = (s.face f).groups :=
  forEach_keeps (fun x : State => (x.face f).groups) _ (fun _ _ => by simp [State.resolveOne]) _ _

/-! ### The emergency form -/

/-- No door unit of the face waits in a Start Queue. -/
def State.unqueued (s : State) (f : Face) : Prop := ∀ p, (s.group f p).queue = []

theorem noEntry_of_unqueued (h : s.unqueued f) (p : GroupIx) : s.noEntry f p k := fun e he => by
  rw [h p] at he
  exact absurd he List.not_mem_nil

theorem unqueued_of_groups (h : (t.face f).groups = (s.face f).groups) (hu : s.unqueued f) : t.unqueued f := fun p => by
  rw [State.group, h]
  exact hu p

/-- The emergency form of a door unit that holds no entry moves that door unit alone. -/
theorem emergencyIfLocked_form (hu : s.unqueued f) (hl : (s.door f j).state = some .locked → (s.input f j).lockEngaged = true) :
    (s.emergencyIfLocked f j).door f j = s.emergencyForm f j (s.door f j) ∧
      ((s.emergencyIfLocked f j).face f).groups = (s.face f).groups := by
  unfold State.emergencyForm
  by_cases hd : (s.door f j).state = some .locked
  · cases ho : s.opensLocked f j
    · rw [emergencyIfLocked_stays ho, if_neg (by simp)]
      exact ⟨rfl, rfl⟩
    · have groups : ((s.enterTold f j .unlatching (DoorRec.startOpen .emergency)).face f).groups = (s.face f).groups :=
        enterTold_groups ..
      have free := removeEntry_free (noEntry_of_unqueued (k := j) (unqueued_of_groups groups hu) _)
      rw [emergencyIfLocked_opens hd (hl hd) ho, if_pos ⟨hd, rfl⟩]
      exact ⟨enterTold_removeEntry_door .., by rw [free]; exact groups⟩
  · rw [emergencyIfLocked_other hd, if_neg (fun h => hd h.1)]
    exact ⟨rfl, rfl⟩

theorem forEach_emergencyIfLocked_form (js : List DoorIx) (nodup : js.Nodup) (hu : s.unqueued f)
    (hl : ∀ k ∈ js, (s.door f k).state = some .locked → (s.input f k).lockEngaged = true) :
    (∀ k, (forEach js (State.emergencyIfLocked f) s).door f k =
        if k ∈ js then s.emergencyForm f k (s.door f k) else s.door f k) ∧
      ((forEach js (State.emergencyIfLocked f) s).face f).groups = (s.face f).groups := by
  induction js generalizing s with
  | nil => exact ⟨fun k => rfl, rfl⟩
  | cons j js ih =>
    obtain ⟨hj, nodup⟩ := List.nodup_cons.1 nodup
    obtain ⟨door, groups⟩ := emergencyIfLocked_form hu (hl j List.mem_cons_self)
    set v := s.emergencyIfLocked f j with hv
    have side : v.side f = s.side f := emergencyIfLocked_side ..
    have other : ∀ k, k ≠ j → v.door f k = s.door f k := fun k e =>
      congrArg Prod.fst (emergencyIfLocked_unit e (noEntry_of_unqueued hu _))
    obtain ⟨doors, groups'⟩ := ih (s := v) nodup (unqueued_of_groups groups hu) fun k hk => by
      rw [other k (fun e => hj (e ▸ hk)), input_of_side side]
      exact hl k (List.mem_cons_of_mem _ hk)
    refine ⟨fun k => (doors k).trans ?_, groups'.trans groups⟩
    by_cases e : k = j
    · subst e
      rw [if_neg hj, if_pos List.mem_cons_self, door]
    · rw [other k e, emergencyForm_of (emergencyIfLocked_outside ..) side]
      simp [e]

/-! ### The scan of a face -/

/-- The door units that are resolved get the record of R24, and the power groups stay. -/
theorem resolveNew_finds (js : List DoorIx) (nodup : js.Nodup) (hu : s.unqueued f) :
    (∀ k, (s.resolveNew f js).door f k = if k ∈ js then s.resolvedRec f k (s.input f k) else s.door f k) ∧
      ((s.resolveNew f js).face f).groups = (s.face f).groups := by
  set w := forEach js (State.resolveOne f) s with hw
  set v := w.recomputeClp f none with hv
  have found : ∀ k, v.door f k = if k ∈ js then s.foundRec f k else s.door f k := fun k =>
    (congrArg Prod.fst (recomputeClp_unit (s := w) (f := f) (k := k) none)).trans (forEach_resolveOne_door js nodup)
  have groups : (v.face f).groups = (s.face f).groups := (recomputeClp_groups ..).trans (forEach_resolveOne_groups js)
  have side : v.side f = s.side f := (recomputeClp_side ..).trans (forEach_resolveOne_side js)
  have outside : v.outside f = s.outside f :=
    (recomputeClp_outside ..).trans (forEach_keeps (State.outside f) _ (fun _ _ => resolveOne_outside) _ _)
  obtain ⟨doors, groups'⟩ := forEach_emergencyIfLocked_form (s := v) js nodup (unqueued_of_groups groups hu) fun k hk hd => by
    rw [found k, if_pos hk] at hd
    rw [input_of_side side]
    replace hd : (s.resolution f k).1 = .locked := Option.some.inj hd
    rw [resolution_eq] at hd
    rcases resolvedState_cases (s.input f k) (s.isolated f k) (s.face f).mode.latch with ⟨-, h⟩ | e | e | e | ⟨c, e⟩
    · exact h
    all_goals rw [e] at hd; simp at hd
  refine ⟨fun k => (doors k).trans ?_, groups'.trans groups⟩
  rw [found k, emergencyForm_of outside side]
  by_cases hk : k ∈ js
  · simp only [hk, if_true, emergencyForm_foundRec]
  · simp only [hk, if_false]

end Sys2Proof.Machine
end

section
namespace Sys2Proof.Machine

/-! SUPPORT. The first complete scan, face by face (R4, R27, R122). -/

variable {s t u : State} {f g : Face} {j k : DoorIx} {v : Vector DoorInputs 64}

/-- The first complete scan leaves alone what is outside both faces. -/
theorem firstScan_of {β : Type} (p : State → β) (h : ∀ g (x : State), p (x.outside g) = p x) :
    p (s.firstScan v) = p (s.setInputs v).markScanned := by
  rw [firstScan_eq]
  exact (outside_eq_of p (h .f1) (resolveNew_outside ..)).trans (outside_eq_of p (h .f0) (resolveNew_outside ..))

theorem firstScan_config : (s.firstScan v).config = s.config :=
  (firstScan_of State.config fun _ _ => rfl).trans (by simp only [State.markScanned, State.setInputs])

theorem firstScan_configInvalid : (s.firstScan v).configInvalid = s.configInvalid :=
  (firstScan_of State.configInvalid fun _ _ => rfl).trans (by simp only [State.markScanned, State.setInputs])

/-- Of the resolution of both faces, that of a face is done to it as it stood. -/
theorem resolveNew_both (js : Face → List DoorIx) : ∃ u : State,
    ((s.resolveNew .f0 (js .f0)).resolveNew .f1 (js .f1)).face f = (u.resolveNew f (js f)).face f ∧ u.face f = s.face f ∧
      u.config = s.config ∧ u.configInvalid = s.configInvalid ∧ u.msClock = s.msClock ∧ u.scanDone = s.scanDone := by
  have away : (s.resolveNew .f0 (js .f0)).outside .f0 = s.outside .f0 := resolveNew_outside ..
  cases f with
  | f0 => exact ⟨s, face_of_outside (resolveNew_outside ..) (by decide), rfl, rfl, rfl, rfl, rfl⟩
  | f1 =>
    exact ⟨s.resolveNew .f0 (js .f0), rfl, face_of_outside away (by decide), outside_eq_of State.config (fun _ => rfl) away,
      outside_eq_of State.configInvalid (fun _ => rfl) away, outside_eq_of State.msClock (fun _ => rfl) away,
      outside_eq_of State.scanDone (fun _ => rfl) away⟩

/-- What the first complete scan does to a face is the resolution of its fitted door units, with the inputs of the scan. -/
theorem firstScan_face : ∃ u : State, (s.firstScan v).face f = (u.resolveNew f (s.fitted f)).face f ∧
    u.face f = { s.face f with inputs := Vector.ofFn (fun j : Fin 32 => v[fieldPosition f j]) } ∧
    u.config = s.config ∧ u.configInvalid = s.configInvalid ∧ u.msClock = s.msClock ∧ u.scanDone = true := by
  obtain ⟨u, resolved, face, config, invalid, clock, scanned⟩ :=
    resolveNew_both (s := (s.setInputs v).markScanned) (f := f) (s.setInputs v).markScanned.fitted
  have same : (s.setInputs v).markScanned.config = s.config := by simp only [State.markScanned, State.setInputs]
  refine ⟨u, ?_, ?_, config.trans same, invalid.trans ?_, clock.trans ?_, scanned⟩
  · rw [firstScan_eq, resolved, fitted_of same]
  · rw [face, markScanned_face, setInputs_face]
  all_goals simp only [State.markScanned, State.setInputs]

/-- Before the first complete scan no door unit waits in a Start Queue (R27, R30). -/
theorem unqueued_of_law (hs : s.scanDone = false) (law : s.startQueueLaw f) : s.unqueued f := fun p =>
  List.eq_nil_iff_forall_not_mem.2 fun e he => by
    obtain ⟨-, -, -, held⟩ := (law.1 p).2.2 e he
    have stateless := (law.2 e.door).2.2.2 hs
    rcases held with ⟨-, h, -⟩ | ⟨-, h, -⟩ <;> rw [stateless] at h <;> cases h

theorem computeClp_of_face (h : t.face f = s.face f) (hc : t.config = s.config) (hi : t.configInvalid = s.configInvalid) :
    t.computeClp f = s.computeClp f :=
  computeClp_of (fitted_of hc f) hi (fun k => by rw [door_of_face h]) (fun k => by rw [sense_of_face h]) (by rw [h])
    (by rw [State.berth, h]; rfl)

/-- What a face holds after the first complete scan. -/
structure Scanned (v : Vector DoorInputs 64) (f : Face) (s t : State) : Prop where
  input : ∀ j, t.input f j = v[fieldPosition f j]
  clp : t.clpTrue f
  door : ∀ j, t.door f j = if s.isFitted f j then s.resolvedRec f j v[fieldPosition f j] else s.door f j
  groups : (t.face f).groups = (s.face f).groups
  side : t.side f = { s.side f with inputs := (t.face f).inputs }

theorem firstScan_scanned (hs : s.scanDone = false) (law : s.startQueueLaw f) : Scanned v f s (s.firstScan v) := by
  obtain ⟨u, face, start, config, invalid, clock, scanned⟩ := firstScan_face (s := s) (v := v) (f := f)
  have groups : (u.face f).groups = (s.face f).groups := by rw [start]
  obtain ⟨doors, kept⟩ := resolveNew_finds (s := u) (f := f) (s.fitted f) (fitted_nodup ..)
    (unqueued_of_groups groups (unqueued_of_law hs law))
  have side : (s.firstScan v).side f = u.side f := (side_of_face face).trans (resolveNew_side ..)
  have input : ∀ j, u.input f j = v[fieldPosition f j] := fun j => by simp [State.input, start]
  refine ⟨fun j => (input_of_side side).trans (input j), fun _ => ?_, fun j => ?_, ?_, ?_⟩
  · have kept : (u.resolveNew f (s.fitted f)).outside f = u.outside f := resolveNew_outside ..
    have done : (u.resolveNew f (s.fitted f)).scanDone = true := (outside_eq_of State.scanDone (fun _ => rfl) kept).trans scanned
    have config' : (s.firstScan v).config = (u.resolveNew f (s.fitted f)).config :=
      (firstScan_config.trans config.symm).trans (outside_eq_of State.config (fun _ => rfl) kept).symm
    have invalid' : (s.firstScan v).configInvalid = (u.resolveNew f (s.fitted f)).configInvalid :=
      (firstScan_configInvalid.trans invalid.symm).trans (outside_eq_of State.configInvalid (fun _ => rfl) kept).symm
    rw [face, resolveNew_clpTrue _ done]
    exact (computeClp_of_face face config' invalid').symm
  · rw [door_of_face face, doors, input]
    simp only [mem_fitted]
    have door : u.door f j = s.door f j := by simp [State.door, start]
    rw [door, resolvedRec_of config (by rw [start]) clock door]
  · rw [face, kept, groups]
  · have inputs : ((s.firstScan v).face f).inputs = (u.face f).inputs := (congrArg FaceState.inputs side :)
    rw [side, inputs, State.side, State.side, start]
    rfl

end Sys2Proof.Machine
end


section
namespace Sys2Proof.Machine

variable {s : State} {v : Vector DoorInputs 64}

/-- With both engines at rest the first complete scan ends there (log 10). -/
theorem exec_firstScan (hs : s.scanDone = false) (hc : ∀ f, s.calm f = true) (law : ∀ f, s.startQueueLaw f) :
    exec (.firstCompleteScan v) s = .next { s.firstScan v with notices := [] } := by
  have ends : (s.firstScan v).drain = { s.firstScan v with notices := [] } := drain_calm _ fun n _ => by
    have kept : ((s.firstScan v).face n.face).engine = (s.face n.face).engine :=
      (congrArg FaceState.engine (firstScan_scanned hs (law n.face)).side :)
    rw [kept]
    exact (calm_iff.1 (hc n.face)).2.2
  show State.event (fun s => if s.scanDone then s else s.firstScan v) s = _
  rw [State.event, if_pos (calm_iff.1 (hc .f0)).1, hs, if_neg (by decide), ends]

end Sys2Proof.Machine
end

section
open Sys2Proof Sys2Proof.Machine

/-- Settles O8: the units and the mode after a start, and the first complete scan. -/
theorem startResetsTheFaces : Obligations.StartResetsTheFaces := by
  refine ⟨fun c r s h => ?_, fun c r s h => ?_, fun v s hs hc law => ?_⟩
  · obtain ⟨t, runs, scan, lost, silence, clock, x, -, face⟩ := exec_start_face h
    refine ⟨t, runs, scan, lost, silence, fun f => ?_⟩
    obtain ⟨door, sense, group⟩ := faceStarted_blank (face f)
    have berth : t.berth f = Berth.resolved (t.face f).beams ⟨t.msClock, (t.par f).stopSettle⟩ := by
      rw [State.berth, face, clock]
      rfl
    refine ⟨fun j => ?_, group, ?_, ?_, ?_, ?_, ?_, berth, ?_, ?_, ?_⟩
    · rw [door, sense]
      exact ⟨rfl, rfl, rfl, rfl, rfl, rfl⟩
    all_goals rw [face]; rfl
  · obtain ⟨t, runs, -, -, -, -, x, invalid, face⟩ := exec_start_face h
    refine ⟨t, runs, fun f => ?_⟩
    have first : x.startMode (t.par f) = if t.configInvalid then .maintenance
        else if (t.par f).startSupervised then .supervised else .automatic := by rw [← invalid]; rfl
    have mode := congrArg FaceState.mode (face f)
    rw [faceStarted_mode, first] at mode
    dsimp only
    rw [mode]
    obtain ⟨latch, eoi, possession⟩ := firstReading_kept (o := (startReadings r f).key) (ModeUnit.alerted _ (startReadings r f).eoi)
    refine ⟨latch, eoi, possession, fun auto => ?_, fun other => ?_⟩
    · rw [auto]
      exact ⟨rfl, rfl, rfl, rfl⟩
    · exact firstReading_local _ other
  · refine ⟨_, exec_firstScan hs hc law, firstScan_of State.scanDone fun _ _ => rfl, ?_, fun l => ?_, fun f => ?_⟩
    · have kept {β : Type} (p : State → β) (h : ∀ g (x : State), p (x.outside g) = p x) :=
        firstScan_of (s := s) (v := v) p h
      have same : ((s.firstScan v).commit, (s.firstScan v).nv, (s.firstScan v).msClock, (s.firstScan v).usClock,
          (s.firstScan v).silence, (s.firstScan v).ilLost, (s.firstScan v).maint)
            = (s.commit, s.nv, s.msClock, s.usClock, s.silence, s.ilLost, s.maint) :=
        (kept (fun x => (x.commit, x.nv, x.msClock, x.usClock, x.silence, x.ilLost, x.maint)) fun _ _ => rfl).trans
          (by simp only [State.markScanned, State.setInputs])
      exact congrArg₂ (fun a b => (a, b)) firstScan_config (congrArg₂ (fun a b => (a, b)) firstScan_configInvalid same)
    · refine (firstScan_of (fun x => (x.link l).rxSide) fun _ _ => ?_).trans ?_ <;> cases l <;>
        simp only [State.link, State.markScanned, State.setInputs, State.outside, LinkState.rxSide]
    · obtain ⟨input, clp, door, groups, side⟩ := firstScan_scanned (v := v) hs (law f)
      have scanned : (s.firstScan v).scanDone = true := firstScan_of State.scanDone fun _ _ => rfl
      have face : ({ s.firstScan v with notices := [] } : State).face f = (s.firstScan v).face f := by cases f <;> rfl
      refine ⟨fun j => ?_, ?_, fun j => ?_, fun g => ?_, ?_, ?_, ?_, ?_, ?_⟩
      · exact (congrArg (fun x : FaceState => x.inputs[j]) face).trans (input j)
      · rw [face, clp scanned]
        exact (computeClp_of_face face rfl rfl).symm
      · exact (door_of_face face).trans (door j)
      · rw [State.group, face, groups]; rfl
      · rw [face]; exact (congrArg FaceState.mode side :)
      · rw [State.berth, face]; exact (congrArg FaceState.berth side :)
      · rw [face]; exact (congrArg FaceState.align side :)
      · rw [face]; exact (congrArg FaceState.beams side :)
      · rw [face]; exact (congrArg FaceState.engine side :)

end

section
namespace Sys2Proof.Machine

/-! SUPPORT. A state in which a posted open that no program awaits opens a door unit that a program follows. -/

namespace OpenedWhileFollowed

/-- The OPEN of the program, with a hold of 10 ms and no chain. -/
def opening : Descriptor := { OpenedThenClosed.opening with hold := 10, chain := false }

/-- Door unit 1 is OBSTRUCTED and followed by the OPEN of a program; the posted open of a DOOR RELEASE, which names it too, is due. -/
def state : State := { OpenedThenClosed.state with
  config := { OpenedThenClosed.state.config with
    descriptors := Vector.ofFn fun i : Fin 96 => if i = 0 then some opening else none }
  pending := [] }

/-- The state of the engine after the posting timer has run out. -/
def after : Option EngineState :=
  match exec (.postingTimerExpiry .f0) state with
  | .next t => some (t.face .f0).engine.state
  | _ => none

end OpenedWhileFollowed
end Sys2Proof.Machine
end

section
open Sys2Proof.Machine

/-- Refutes O38: the statement keeps the engine as it is at the issue of a posted open that it does not await. There the issue of the
posted open of a release brings a followed door unit from OBSTRUCTED to OPEN, the target of the program's OPEN, which settles it;
none is pending, and the engine goes from ACTING to HOLDING (R143, R146). -/
theorem not_actingProgramFollowsItsDoors : ¬ Obligations.ActingProgramFollowsItsDoors := by
  intro h
  have law : OpenedWhileFollowed.state.startQueueLaw .f0 := by
    unfold State.startQueueLaw
    decide
  have current : OpenedWhileFollowed.state.currentDescriptor .f0 = some OpenedWhileFollowed.opening := by decide
  have after : OpenedWhileFollowed.after = some .holding := by decide
  obtain ⟨-, issues, -⟩ := h .f0 OpenedWhileFollowed.opening OpenedWhileFollowed.state rfl rfl law rfl rfl current (by decide)
  obtain ⟨-, -, unawaited⟩ := issues ⟨0, 0⟩ ⟨0xFF#8, 0, true, false, false, 0, some 0⟩ rfl rfl (by decide)
  obtain ⟨w, t, -, ht, -, face⟩ := unawaited rfl
  have acting : (t.face .f0).engine.state = .acting := by rw [face]; rfl
  rw [OpenedWhileFollowed.after, ht] at after
  simp [acting] at after

end

section
namespace Sys2Proof.Machine

/-! SUPPORT. The fields of a reply read back from its bytes: codes, flags, counts and times (R165, R167). -/

variable {α β : Type}

/-! ### Numbers -/

theorem readNat_be16_mod (n : Nat) : readNat (be16 n) = n % 65536 := by
  simp only [readNat, be16, b8, List.foldl_cons, List.foldl_nil, BitVec.toNat_ofNat]
  omega

theorem readNat_be32_mod (n : Nat) : readNat (be32 n) = n % 4294967296 := by
  simp only [readNat, be32, b8, List.foldl_cons, List.foldl_nil, BitVec.toNat_ofNat]
  omega

theorem b8_toNat (n : Nat) : (b8 n).toNat = n % 256 := BitVec.toNat_ofNat ..

theorem b8_small {n : Nat} (h : n < 256) : (b8 n).toNat = n := by rw [b8_toNat, Nat.mod_eq_of_lt h]

/-- A time in two bytes saturates at the largest value of its field. -/
theorem readNat_sat16 (n : Nat) : readNat (be16 (sat16 n)) = min n 65535 := by
  rw [readNat_be16_mod, sat16]; omega

theorem readNat_sat32 (n : Nat) : readNat (be32 (sat32 n)) = min n 4294967295 := by
  rw [readNat_be32_mod, sat32]; omega

/-- The number that a signed 16-bit field carries: two's complement, and 0x8000 where the value is absent. -/
def signed16 (o : Option Int) : Nat := (o.map (fun z => (z % 65536).toNat)).getD 0x8000

theorem opt16i_eq (o : Option Int) : opt16i o = be16 (signed16 o) := by cases o <;> rfl

theorem readNat_signed16 (o : Option Int) : readNat (be16 (signed16 o)) = (o.map (fun z => (z % 65536).toNat)).getD 0x8000 := by
  refine (readNat_be16_mod _).trans (Nat.mod_eq_of_lt ?_)
  cases o with
  | none => decide
  | some z => show (z % 65536).toNat < 65536; omega

/-- A 32-bit reading, and its absent marker. -/
theorem readNat_opt32 {w : Option (BitVec 32)} : readNat (opt32 (w.map BitVec.toNat)) = (w.map BitVec.toNat).getD 0xFFFFFFFF := by
  cases w with
  | none => rfl
  | some x => exact readNat_be32 x.isLt

theorem timeLeft_eq_remaining (t : Option Timer) (now : Ms) : timeLeft t now = remaining t now := by cases t <;> rfl

/-- The time that remains on a timer, in two bytes and in four. -/
theorem readNat_timer16 (t : Option Timer) (now : Ms) :
    readNat (be16 (sat16 (timeLeft t now))) = min (remaining t now) 65535 := by
  rw [readNat_sat16, timeLeft_eq_remaining]

theorem readNat_timer32 (t : Option Timer) (now : Ms) :
    readNat (be32 (sat32 (timeLeft t now))) = min (remaining t now) 4294967295 := by
  rw [readNat_sat32, timeLeft_eq_remaining]

theorem readNat_errors (w : BitVec 16) : readNat (be16 w.toNat) = w.toNat :=
  (readNat_be16_mod _).trans (Nat.mod_eq_of_lt w.isLt)

/-- The time since a reading, and the absent marker where there is none. -/
theorem readNat_since (o : Option α) (now since : Ms) : readNat (opt32 (o.map (fun _ => elapsedMs now since))) =
    if o = none then 4294967295 else (now - since).toNat := by
  cases o with
  | none => exact (readNat_be32 (n := 4294967295) (by decide)).trans (if_pos rfl).symm
  | some _ => exact readNat_be32 (now - since).isLt

/-- A count of members. -/
theorem countP_toNat (p : α → Bool) (l : List α) : (b8 (l.countP p)).toNat = (l.filter p).length % 256 := by
  rw [b8_toNat, List.countP_eq_length_filter]

/-! ### Codes and indices -/

theorem flag_toNat (b : Bool) : (flag b).toNat = if b then 1 else 0 := by cases b <;> rfl

/-- A code that is the place of its value in a list, and the absent marker. -/
theorem opt8_codeIn [DecidableEq β] {c : α → Byte} {i : α → β} {l : List β} (h : ∀ a, (c a).toNat = codeIn l (some (i a)))
    (o : Option α) : (opt8 (o.map c)).toNat = codeIn l (o.map i) := by
  cases o with
  | none => rfl
  | some a => exact h a

theorem opt8_codeIn_id [DecidableEq α] {c : α → Byte} {l : List α} (h : ∀ a, (c a).toNat = codeIn l (some a)) (o : Option α) :
    (opt8 (o.map c)).toNat = codeIn l o := (opt8_codeIn (i := id) h o).trans (by rw [Option.map_id, id])

/-- An index, and the absent marker. -/
theorem opt8_index {n : Nat} (hn : n ≤ 256) (o : Option (Fin n)) :
    (opt8 (o.map (fun i => b8 i.val))).toNat = (o.map Fin.val).getD 0xFF := by
  cases o with
  | none => rfl
  | some i => exact b8_small (i.isLt.trans_le hn)

theorem opt8_index_of {n : Nat} (hn : n ≤ 256) (i : α → Fin n) (o : Option α) :
    (opt8 (o.map (fun a => b8 (i a).val))).toNat = ((o.map i).map Fin.val).getD 0xFF := by
  rw [← opt8_index hn, Option.map_map]
  rfl

theorem mode_code (m : Mode) : m.code.toNat = codeIn [Mode.automatic, .supervised, .local_, .maintenance] (some m) := by
  cases m <;> rfl

theorem key_code (k : KeyPos) : (keyCode k).toNat = codeIn [KeyPos.auto, .localOpen, .localClose] (some k) := by cases k <;> rfl

theorem berthState_code (b : BerthState) : b.code.toNat = codeIn berthStates (some b) := by cases b <;> rfl

theorem grade_code (g : Grade) : g.code.toNat = codeIn grades (some (some g)) := by cases g <;> rfl

theorem engineState_code (e : EngineState) :
    e.code.toNat = codeIn [EngineState.idle, .waiting, .acting, .holding, .halted] (some e) := by cases e <;> rfl

theorem phase_code (p : Phase) : p.code.toNat = codeIn [Phase.wait, .act, .hold] (some p) := by cases p <;> rfl

theorem doorState_code (d : DoorState) : d.code.toNat = codeIn doorStates (some d) := by cases d <;> rfl

theorem faultCause_code (c : FaultCause) : c.code.toNat = codeIn faultCauses (some (some c)) := by cases c <;> rfl

theorem reqClass_code (c : ReqClass) : c.code.toNat = codeIn [ReqClass.normal, .emergency] (some c) := by cases c <;> rfl

theorem tracker_code (t : Tracker) : t.code.toNat = codeIn trackers (some t) := by cases t <;> rfl

theorem zone_code (z : Zone) : z.code.toNat = codeIn [Zone.idle, .watch, .occupied, .clearing, .latched] (some z) := by
  cases z <;> rfl

theorem orientation_code (o : Orientation) : o.code.toNat = codeIn [Orientation.forward, .reversed] (some o) := by
  cases o <;> rfl

theorem matchOutcome_code (o : MatchOutcome) : o.code =
    b8 (codeIn [MatchOutcome.matched, .noDoorUnit, .unavailable, .conflict, .withheld] (some o)) := by cases o <;> rfl

/-! ### Flags -/

theorem packFlags_eq (bs : List Bool) : packFlags bs = b8 (bitsValue bs) := by
  refine congrArg b8 ?_
  induction bs with
  | nil => rfl
  | cons b bs ih => rw [List.foldr_cons, ih]; rfl

theorem bitsValue_lt (bs : List Bool) : bitsValue bs < 2 ^ bs.length := by
  induction bs with
  | nil => decide
  | cons b bs ih =>
    rw [List.length_cons, Nat.pow_succ, bitsValue]
    split <;> omega

/-- A byte of flags is the number that they make, the first at bit 0. -/
theorem packFlags_toNat {bs : List Bool} (h : bs.length ≤ 8) : (packFlags bs).toNat = bitsValue bs := by
  rw [packFlags_eq]
  exact b8_small ((bitsValue_lt bs).trans_le (Nat.pow_le_pow_right (by decide) h))

/-- Flags added up at their places, counted from a first place, are the number that they make. -/
theorem foldl_flags {n : Nat} (v : Fin n → Bool) (a c : Nat) :
    (List.finRange n).foldl (fun m i => if v i then m + 2 ^ (c + i.val) else m) a = a + 2 ^ c * bitsValue (List.ofFn v) := by
  induction n generalizing a c with
  | zero => simp [bitsValue]
  | succ n ih =>
    have rest := ih (fun i => v i.succ) (if v 0 then a + 2 ^ c else a) (c + 1)
    have places : ∀ i : Fin n, c + (i.val + 1) = c + 1 + i.val := fun i => by omega
    rw [List.finRange_succ, List.foldl_cons, List.foldl_map, List.ofFn_succ, bitsValue]
    simp only [Fin.val_zero, Fin.val_succ, Nat.add_zero, places]
    rw [rest, Nat.pow_succ]
    split <;> ring

theorem maskOf_eq {n : Nat} (v : Vector Bool n) : maskOf v = bitsValue v.toList := by
  have flags := foldl_flags (fun i : Fin n => v[i]) 0 0
  have list : List.ofFn (fun i : Fin n => v[i]) = v.toList := by
    refine List.ext_getElem (by simp) fun i _ _ => ?_
    simp
  rw [list] at flags
  simpa [maskOf] using flags

/-- The beam levels in the order of R170. -/
theorem beams_bits (b : Beams) : b.bits = bitsValue (b.ab1 :: b.ab2 :: b.sw.toList) := by
  rw [Beams.bits, maskOf_eq, bitsValue, bitsValue]
  cases b.ab1 <;> cases b.ab2 <;> simp <;> omega

theorem beams_bits_lt (b : Beams) : b.bits < 4294967296 := by
  rw [beams_bits]
  refine (bitsValue_lt _).trans_le ?_
  simp

/-! ### Blocks of one length -/

theorem byteAt_drop (p : List Byte) (a i : Nat) : byteAt p (a + i) = byteAt (p.drop a) i := by
  simp [byteAt, List.getD_eq_getElem?_getD]

theorem intAt_drop (p : List Byte) (a i k : Nat) : intAt p (a + i) k = intAt (p.drop a) i k := by
  simp [intAt, List.drop_drop]

/-- Behind the first `k` of several blocks of one length stand the others. -/
theorem drop_flatMap {g : α → List Byte} {c : Nat} (h : ∀ x, (g x).length = c) (k : Nat) (xs : List α) :
    (xs.flatMap g).drop (c * k) = (xs.drop k).flatMap g := by
  induction k generalizing xs with
  | zero => rfl
  | succ k ih =>
    cases xs with
    | nil => simp
    | cons x xs =>
      rw [List.flatMap_cons, Nat.mul_succ, Nat.add_comm, ← List.drop_drop, List.drop_left' (h x), ih, List.drop_succ_cons]

theorem length_flatMap {g : α → List Byte} {c : Nat} (h : ∀ x, (g x).length = c) (xs : List α) :
    (xs.flatMap g).length = c * xs.length := by
  simp [List.length_flatMap, h, Nat.mul_comm]

end Sys2Proof.Machine
end

section
namespace Sys2Proof.Machine

/-! SUPPORT. GET STATUS: its decision, and where the fields of its three replies stand (R170). -/

variable {s : State} {f : Face} {l : Link} {g : Byte} {x : Frame}

/-! ### The decision -/

theorem popFrame_faceStatus (s : State) (l : Link) : (s.popFrame l).faceStatus f = s.faceStatus f := by
  cases l <;> cases f <;> rfl

theorem popFrame_doorStatus (s : State) (l : Link) (j : DoorIx) : (s.popFrame l).doorStatus f j = s.doorStatus f j := by
  cases l <;> cases f <;> rfl

theorem popFrame_berthStatus (s : State) (l k : Link) (n : Nat) : (s.popFrame l).berthStatus k f n = s.berthStatus k f n := by
  cases l <;> cases f <;> rfl

/-- GET STATUS of a length and face that are right, by what its scope and index name. -/
theorem exec_getStatus {i : Instr} {scope index : Byte} {body : List Byte}
    (hr : requestRule i = some ⟨.both, 3, decideGetStatus l [scope, faceCode f, index]⟩)
    (hx : i.frame? = some (l, ⟨0x09#8, g, [scope, faceCode f, index]⟩))
    (h : s.ready l ⟨0x09#8, g, [scope, faceCode f, index]⟩ = true)
    (hd : decideGetStatus l [scope, faceCode f, index] (s.popFrame l) = acceptedWith body (s.popFrame l)) :
    exec i s = .next ((s.popFrame l).replied l ⟨0x09#8, g, [scope, faceCode f, index]⟩ .accept body) :=
  exec_row_quiet hr hx rfl rfl h hd (by rw [popFrame_notices]; exact (ready_iff.1 h).2.1)

theorem decideGetStatus_face (n : Nat) :
    decideGetStatus l [0, faceCode f, b8 n] (s.popFrame l) = acceptedWith (s.faceStatus f) (s.popFrame l) := by
  simp only [decideGetStatus, byteAt, List.getD_cons_succ, List.getD_cons_zero, faceOf_faceCode, popFrame_faceStatus]
  rfl

theorem decideGetStatus_door {j : DoorIx} (h : s.isFitted f j = true) :
    decideGetStatus l [1, faceCode f, b8 j.val] (s.popFrame l) = acceptedWith (s.doorStatus f j) (s.popFrame l) := by
  have fitted : (s.popFrame l).isFitted f j = true := by rw [isFitted_of (popFrame_config s l)]; exact h
  have index : ixOf 32 (b8 j.val).toNat = some j := by
    rw [b8_small (by omega)]
    simp [ixOf]
  simp only [decideGetStatus, byteAt, List.getD_cons_succ, List.getD_cons_zero, faceOf_faceCode, index, popFrame_doorStatus]
  exact if_pos fitted

theorem decideGetStatus_berth {n : Nat} (h1 : 1 ≤ n) (h2 : n ≤ 48) :
    decideGetStatus l [2, faceCode f, b8 n] (s.popFrame l) = acceptedWith (s.berthStatus l f n) (s.popFrame l) := by
  simp only [decideGetStatus, byteAt, List.getD_cons_succ, List.getD_cons_zero, faceOf_faceCode, b8_small (show n < 256 by omega),
    popFrame_berthStatus]
  exact if_pos (by simp [h1, h2])

/-- An accepted GET STATUS clears the overrun flags of its link (R157). -/
theorem replied_overruns (u : State) (p body : List Byte) :
    ((u.replied l ⟨0x09#8, g, p⟩ .accept body).link l).linkOverrun = false ∧
      ((u.replied l ⟨0x09#8, g, p⟩ .accept body).link l).reportOverrun = false := by
  unfold State.replied State.sendReply State.clearOverruns State.send
  simp only [decide_true, Bool.and_self, if_true]
  split <;> simp

/-! ### The reply of a face -/

/-- The four slots of a Start History, in their order. -/
theorem toList_four {α : Type} (v : Vector α 4) : v.toList = [v[0], v[1], v[2], v[3]] := by
  refine List.ext_getElem (by simp) fun i hi _ => ?_
  have : i < 4 := by simpa using hi
  interval_cases i <;> simp

/-- The bytes of a power group, its Start History written out. -/
theorem groupBytes_eq (k : GroupIx) :
    let y := s.group f k
    let age (t : Option Timer) : List Byte := opt16 (t.map (fun t => sat16 (elapsedMs s.msClock t.start)))
    s.groupBytes f k = [b8 ((s.geo f).members k), b8 y.queue.length] ++ age y.history[0] ++ age y.history[1] ++ age y.history[2]
      ++ age y.history[3] ++ [b8 (min (timeLeft y.spacing s.msClock) 255)] := by
  simp only [State.groupBytes, toList_four, List.flatMap_cons, List.flatMap_nil, List.append_nil, List.append_assoc]

theorem groupBytes_length (k : GroupIx) : (s.groupBytes f k).length = 11 := by rw [groupBytes_eq]; rfl

/-- The number of door units of a power group. -/
theorem members_eq (k : GroupIx) : (s.geo f).members k = ((s.fitted f).filter (fun j => s.groupOf f j = k)).length := by
  rw [Geometry.members, List.countP_eq_length_filter, State.fitted, List.filter_filter]
  refine congrArg List.length (List.filter_congr fun j _ => ?_)
  exact Bool.and_comm ..

theorem members_le (k : GroupIx) : (s.geo f).members k ≤ 32 := by
  simpa [Geometry.members] using List.countP_le_length (p := fun j : Fin 32 => j.val < (s.geo f).n && (s.geo f).doors[j].group = k)
    (l := List.finRange 32)

/-- The fields of a face reply in their order, its power groups and their queues apart. -/
def faceFields (s : State) (f : Face) : List (List Byte) :=
  let x := s.face f
  let e := x.engine
  let now := s.msClock
  [[x.mode.mode.code, x.mode.generation, opt8 (x.mode.saved.map Mode.code), keyCode x.mode.key,
      flag x.mode.possession, flag x.mode.latch, flag x.mode.eoi,
      flag x.clp.value, x.clp.causes, b8 x.clp.notLocked, b8 x.clp.zones,
      x.berth.state.code, opt8 (x.align.grade.map Grade.code), b8 x.align.map.length, flag x.quiet],
    be16 (sat16 (timeLeft x.quietTimer now)), be16 x.boarding, be16 x.alighting,
    [opt8 (x.newest.map (fun i => b8 i.val)), e.state.code, opt8 (e.current.map (fun i => b8 i.val)), e.phase.code],
    be32 (sat32 (timeLeft e.limitTimer now)), be16 (sat16 (timeLeft e.holdTimer now)),
    [b8 (e.followed.countP (fun x => x.2)), b8 (e.followed.countP (fun x => !x.2)), flag e.awaiting], be16 e.errors.toNat,
    [opt8 (e.context.map (fun c => b8 c.1.val)), opt8 (e.context.map (fun c => c.2.code)), flag e.ended,
      opt8 (e.armed.map (fun i => b8 i.val))]]

/-- A face reply: its fields, its power groups, and their queues. -/
theorem faceStatus_eq : s.faceStatus f = (faceFields s f).flatten ++ ((List.finRange 4).flatMap (s.groupBytes f) ++
    (List.finRange 4).flatMap (fun k => (s.group f k).queue.flatMap (entryBytes s.msClock))) := by
  unfold State.faceStatus engineBytes faceFields
  simp only [List.flatten_cons, List.flatten_nil, List.append_nil, List.append_assoc, List.cons_append, List.nil_append]

/-- From offset 40 a face reply holds its power groups, 11 bytes each, and then their queues. -/
theorem faceStatus_groups : (s.faceStatus f).drop 40 = (List.finRange 4).flatMap (s.groupBytes f) ++
    (List.finRange 4).flatMap (fun k => (s.group f k).queue.flatMap (entryBytes s.msClock)) := by
  rw [faceStatus_eq]
  exact List.drop_left' rfl

/-- The bytes of a power group stand 11 bytes apart. -/
theorem faceStatus_group (k : GroupIx) : ∃ rest, (s.faceStatus f).drop (40 + 11 * k.val) = s.groupBytes f k ++ rest := by
  have split : (List.finRange 4).drop k.val = k :: (List.finRange 4).drop (k.val + 1) := by
    rw [List.drop_eq_getElem_cons (by simp)]
    simp
  have inside : 11 * k.val ≤ ((List.finRange 4).flatMap (s.groupBytes f)).length := by
    rw [length_flatMap groupBytes_length, List.length_finRange]; omega
  rw [← List.drop_drop, faceStatus_groups, List.drop_append_of_le_length inside, drop_flatMap groupBytes_length, split,
    List.flatMap_cons, List.append_assoc]
  exact ⟨_, rfl⟩

theorem faceStatus_queues : (s.faceStatus f).drop 84 =
    (List.finRange 4).flatMap (fun k => (s.group f k).queue.flatMap (entryBytes s.msClock)) := by
  rw [show 84 = 40 + 11 * (List.finRange 4).length by simp, ← List.drop_drop, faceStatus_groups,
    List.drop_left' (length_flatMap groupBytes_length _)]

/-- A saturated age, and the absent marker of an empty slot. -/
theorem readNat_age (o : Option Timer) (now : Ms) : readNat (opt16 (o.map (fun t => sat16 (elapsedMs now t.start)))) =
    (o.map (fun t => min (now - t.start).toNat 65535)).getD 65535 := by
  cases o with
  | none => exact readNat_be16_mod 65535
  | some t => exact readNat_sat16 _

/-- The fields of a power group (R40). -/
theorem faceStatus_group_fields (k : GroupIx) :
    let F := s.faceStatus f
    let at_ := 40 + 11 * k.val
    let y := s.group f k
    byteAt F at_ = ((s.fitted f).filter (fun j => s.groupOf f j = k)).length
    ∧ byteAt F (at_ + 1) = y.queue.length % 256
    ∧ (∀ i : Fin 4, intAt F (at_ + 2 + 2 * i.val) 2 =
        ((y.history[i]).map (fun t => min (s.msClock - t.start).toNat 65535)).getD 65535)
    ∧ byteAt F (at_ + 10) = min (remaining y.spacing s.msClock) 255 := by
  intro F at_ y
  obtain ⟨rest, hd⟩ := faceStatus_group (s := s) (f := f) k
  rw [groupBytes_eq] at hd
  have byte : ∀ i, byteAt F (at_ + i) = byteAt (F.drop at_) i := fun i => byteAt_drop ..
  refine ⟨?_, ?_, fun i => ?_, ?_⟩
  · rw [show at_ = at_ + 0 from rfl, byte, hd, ← members_eq]
    exact b8_small (by have := members_le (s := s) (f := f) k; omega)
  · rw [byte, hd]; exact b8_toNat _
  · rw [Nat.add_assoc, intAt_drop, hd]
    match i with
    | 0 => exact readNat_age ..
    | 1 => exact readNat_age ..
    | 2 => exact readNat_age ..
    | 3 => exact readNat_age ..
  · rw [byte, hd, ← timeLeft_eq_remaining]
    exact b8_small (by omega)

/-- An entry of a Start Queue as sent. -/
theorem entryBytes_eq (now : Ms) (e : Entry) : entryBytes now e =
    [b8 e.door.val, b8 (bitsValue [e.motion = .close, e.cls = .emergency])] ++ be16 (min (now - e.enqueued).toNat 65535) := by
  rw [entryBytes, packFlags_eq]
  rfl

/-! ### The reply of a berth -/

/-- The fields of a berth reply in their order, the signed ones in two bytes. -/
def berthFields (s : State) (f : Face) : List (List Byte) :=
  let b := s.berth f
  let a := (s.face f).align
  [[b.state.code], consistBytes b.consist, [b8 b.flat.length],
    opt32 (b.ab1Time.map (fun t => t.1.toNat)), opt32 (b.ab1Time.map (fun t => t.2.toNat)), opt32 (b.ab2Time.map BitVec.toNat),
    opt16 (b.speed.map Prod.fst), be16 (signed16 (b.predicted.map Prod.fst)), [b.satByte],
    be16 (signed16 (b.measure.bind Measure.head)),
    [opt8 (b.measure.map Measure.flags), opt8 ((b.measure.bind Measure.bridged).map (fun i => b8 i.val))],
    opt32 (b.stopTime.map BitVec.toNat), [flag b.release], postedBytes b.posted,
    be32 (s.beams f).bits, be32 (sat32 (timeLeft b.runningTimer s.msClock)),
    [opt8 (a.grade.map Grade.code), b8 a.candidates, b8 a.map.length]]

/-- A berth reply: its fields, the Door Map, and the rows that the link carries. -/
theorem berthStatus_eq (n : Nat) :
    let rows := ((s.berthRows f).drop (n - 1)).take (rowLimit l)
    s.berthStatus l f n = (berthFields s f).flatten ++
      ((s.face f).align.map.map (fun j => b8 j.val) ++ ([b8 n, b8 rows.length] ++ rows.flatten)) := by
  intro rows
  unfold State.berthStatus berthFields
  simp only [List.flatten_cons, List.flatten_nil, List.append_nil, List.append_assoc, opt16i_eq, List.cons_append, List.nil_append]
  rfl

/-- A unit of a consist as sent, in one of its four places. -/
theorem consistBytes_unit (o : Option Consist) (k : Fin 4) (rest : List Byte) :
    let unit := ((o.map Consist.units).getD [])[k.val]?
    byteAt (consistBytes o ++ rest) (1 + 2 * k.val) = ((unit.map Prod.fst).map Fin.val).getD 0xFF ∧
    byteAt (consistBytes o ++ rest) (2 + 2 * k.val) = codeIn [Orientation.forward, .reversed] (unit.map Prod.snd) := by
  let us := (o.map Consist.units).getD []
  have placed : ∀ k : Fin 4, byteAt (consistBytes o ++ rest) (1 + 2 * k.val) = (opt8 (us[k.val]?.map (fun u => b8 u.1.val))).toNat ∧
      byteAt (consistBytes o ++ rest) (2 + 2 * k.val) = (opt8 (us[k.val]?.map (fun u => u.2.code))).toNat := fun k => by
    match k with
    | 0 => exact ⟨rfl, rfl⟩
    | 1 => exact ⟨rfl, rfl⟩
    | 2 => exact ⟨rfl, rfl⟩
    | 3 => exact ⟨rfl, rfl⟩
  obtain ⟨profile, orientation⟩ := placed k
  rw [profile, orientation]
  cases us[k.val]? with
  | none => exact ⟨rfl, rfl⟩
  | some u => exact ⟨opt8_index (by decide) (some u.1), orientation_code u.2⟩

/-- A reading held with another, and the absent marker. -/
theorem readNat_opt32_map {α : Type} (o : Option α) (p : α → BitVec 32) :
    readNat (opt32 (o.map (fun a => (p a).toNat))) = ((o.map p).map BitVec.toNat).getD 0xFFFFFFFF := by
  rw [← readNat_opt32, Option.map_map]
  rfl

/-- The fields of a posted open as sent, and the markers where none is held (log 16). -/
theorem postedBytes_fields (o : Option Posted) (rest : List Byte) :
    let P := postedBytes o ++ rest
    byteAt P 0 = ((o.map (fun p => bitsValue [p.fromRelease, p.fromSupervisory, p.fromProgram])).getD 0) ∧
    byteAt P 1 = ((o.map (fun p => p.sections.toNat)).getD 255) ∧
    intAt P 2 4 = ((o.map Posted.doorMask).map BitVec.toNat).getD 0xFFFFFFFF ∧
    intAt P 6 4 = ((o.map Posted.postTime).map BitVec.toNat).getD 0xFFFFFFFF ∧
    intAt P 10 4 = ((o.bind Posted.issueTime).map BitVec.toNat).getD 0xFFFFFFFF := by
  intro P
  refine ⟨?_, ?_, readNat_opt32_map o Posted.doorMask, readNat_opt32_map o Posted.postTime, readNat_opt32⟩
  · cases o with
    | none => rfl
    | some p => exact packFlags_toNat (by simp)
  · cases o with
    | none => rfl
    | some p => exact b8_small p.sections.isLt

/-- The saturation flags as sent. -/
theorem satByte_eq (b : Berth) :
    b.satByte.toNat = (match b.speed, b.predicted with | some v, some p => bitsValue [v.2, p.2] | _, _ => 255) := by
  unfold Berth.satByte
  cases b.speed with
  | none => rfl
  | some v =>
    cases b.predicted with
    | none => rfl
    | some p => exact packFlags_toNat (by simp)

/-- The window flags as sent. -/
theorem opt8_windowFlags (o : Option Measure) : (opt8 (o.map Measure.flags)).toNat =
    (o.map (fun r => bitsValue [r.beyond, r.short, r.bridged.isSome, r.invalid])).getD 255 := by
  cases o with
  | none => rfl
  | some r => exact packFlags_toNat (by simp)

theorem readNat_opt16_speed (o : Option (Nat × Bool)) :
    readNat (opt16 (o.map Prod.fst)) = (o.map (fun v => v.1 % 65536)).getD 65535 := by
  cases o with
  | none => exact readNat_be16_mod 65535
  | some v => exact readNat_be16_mod _

theorem runningTimer_eq (b : Berth) : b.runningTimer = if b.approachTimer.isSome then b.approachTimer else b.settleTimer := by
  unfold Berth.runningTimer
  cases b.approachTimer <;> rfl

/-- A row of the Match Table as sent. -/
theorem rowBytes_eq (r : MatchRow) : rowBytes r = [b8 r.index, b8 r.unit, b8 r.car, b8 r.door] ++ be32 (r.x % 4294967296).toNat
    ++ [b8 (codeIn [MatchOutcome.matched, .noDoorUnit, .unavailable, .conflict, .withheld] (some r.outcome)),
      b8 ((r.named.map Fin.val).getD 0xFF)] := by
  rw [rowBytes, matchOutcome_code]
  cases r.named <;> rfl

/-- The rows of the Flattened Door List as sent, numbered from 1. -/
theorem flatRows_eq (es : List FlatEntry) : es.zipIdx.map (fun p => flatBytes (p.2 + 1) p.1) =
    (List.range es.length).zipWith (fun k r => [b8 (k + 1), b8 r.unit, b8 r.car, b8 r.door] ++ be32 r.d ++ [255, 255]) es := by
  refine List.ext_getElem (by simp) fun i _ _ => ?_
  simp [flatBytes]

/-- The rows of a berth reply, each with its bytes written out. -/
theorem berthRows_eq : s.berthRows f = (match (s.face f).align.table with
    | some t => t.map (fun r => [b8 r.index, b8 r.unit, b8 r.car, b8 r.door] ++ be32 (r.x % 4294967296).toNat
        ++ [b8 (codeIn [MatchOutcome.matched, .noDoorUnit, .unavailable, .conflict, .withheld] (some r.outcome)),
          b8 ((r.named.map Fin.val).getD 0xFF)])
    | none => (List.range (s.berth f).flat.length).zipWith
        (fun k r => [b8 (k + 1), b8 r.unit, b8 r.car, b8 r.door] ++ be32 r.d ++ [255, 255]) (s.berth f).flat) := by
  unfold State.berthRows
  cases (s.face f).align.table with
  | some t => exact List.map_congr_left fun r _ => rowBytes_eq r
  | none => exact flatRows_eq _

/-- The beam levels as sent. -/
theorem readNat_beams (b : Beams) : readNat (be32 b.bits) = bitsValue (b.ab1 :: b.ab2 :: b.sw.toList) := by
  rw [readNat_be32 (beams_bits_lt b), beams_bits]

theorem rowLimit_eq (l : Link) : rowLimit l = (match l with | .sl => 15 | .il => 14) := by cases l <;> rfl

end Sys2Proof.Machine
end

section
open Sys2Proof Sys2Proof.Machine

/-- Settles O41: the decision is read off the scope, and each field from the bytes at its place in the order of R170. -/
theorem getStatusAnswersAndClearsOverruns : Obligations.GetStatusAnswersAndClearsOverruns := by
  intro l f g s x u
  refine ⟨fun n h => exec_getStatus rfl rfl h (decideGetStatus_face n),
    fun j hj h => exec_getStatus rfl rfl h (decideGetStatus_door hj),
    fun n h1 h2 h => exec_getStatus rfl rfl h (decideGetStatus_berth h1 h2),
    fun body n => replied_overruns u _ body, ?_⟩
  intro now elapsed flagged index signed word modes zones phases F w e
  refine ⟨?_, fun j => ?_, fun n => ?_⟩
  · have groups := fun k => faceStatus_group_fields (s := s) (f := f) k
    have queues := faceStatus_queues (s := s) (f := f)
    rw [show entryBytes s.msClock = _ from funext (entryBytes_eq _)] at queues
    have layout : F = _ := faceStatus_eq
    rw [← show F = s.faceStatus f from rfl, layout] at groups queues
    rw [layout]
    refine ⟨mode_code _, rfl, opt8_codeIn_id mode_code _, key_code _, flag_toNat _, flag_toNat _, flag_toNat _, flag_toNat _,
      packFlags_toNat (by simp), b8_toNat _, b8_toNat _, berthState_code _, opt8_codeIn grade_code _, b8_toNat _, flag_toNat _,
      readNat_timer16 .., readNat_be16_mod _, readNat_be16_mod _, opt8_index (by decide) _, engineState_code _,
      opt8_index (by decide) _, phase_code _, readNat_timer32 .., readNat_timer16 .., countP_toNat .., countP_toNat .., flag_toNat _,
      readNat_errors _, opt8_index_of (by decide) Prod.fst _, opt8_codeIn (i := Prod.snd) (fun c : Fin 96 × Phase => phase_code c.2) _, flag_toNat _, opt8_index (by decide) _,
      groups, queues⟩
  · intro D d y i
    exact ⟨rfl, opt8_codeIn_id doorState_code _, flag_toNat _, opt8_codeIn faultCause_code _, b8_toNat _, flag_toNat _,
      opt8_codeIn_id reqClass_code _, readNat_since .., flag_toNat _, tracker_code _, readNat_be16_mod _, readNat_be16_mod _,
      flag_toNat _, readNat_timer16 .., zone_code _, readNat_timer16 .., opt8_index (by decide) _, packFlags_toNat (by simp)⟩
  · intro T b us flat h m rows carried
    have layout : T = _ := berthStatus_eq n
    rw [layout]
    obtain ⟨sources, sections, doorMask, postTime, issueTime⟩ := postedBytes_fields b.posted (T.drop 51)
    rw [layout] at sources sections doorMask postTime issueTime
    refine ⟨berthState_code _, b8_toNat _, fun k => ?_, b8_toNat _, readNat_opt32_map _ Prod.fst, readNat_opt32_map _ Prod.snd,
      readNat_opt32, readNat_opt16_speed _, readNat_signed16 _, satByte_eq b, readNat_signed16 _, opt8_windowFlags _,
      opt8_index (by decide) _, readNat_opt32, flag_toNat _, ?_, ?_, ?_, ?_, ?_, ?_, ?_, opt8_codeIn grade_code _,
      b8_toNat _, b8_toNat _, ?_, ?_⟩
    · have places : 2 + 2 * k.val = 1 + (1 + 2 * k.val) ∧ 3 + 2 * k.val = 1 + (2 + 2 * k.val) := ⟨by omega, by omega⟩
      rw [places.1, places.2, byteAt_drop _ 1 (1 + _), byteAt_drop _ 1 (2 + _)]
      exact consistBytes_unit b.consist k _
    · exact sources
    · exact sections
    · exact doorMask
    · exact postTime
    · exact issueTime
    · exact readNat_beams _
    · exact (readNat_timer32 ..).trans (by rw [runningTimer_eq])
    · exact List.take_left' (List.length_map ..)
    · have sent : ((s.berthRows f).drop (n - 1)).take (rowLimit l) = carried :=
        congrArg₂ (fun k rs => (rs.drop (n - 1)).take k) (rowLimit_eq l) berthRows_eq
      rw [← List.drop_drop]
      exact (List.drop_left' (List.length_map ..)).trans
        (congrArg (fun rs : List (List Byte) => [b8 n, b8 rs.length] ++ rs.flatten) sent)
end

section
namespace Sys2Proof.Machine

/-! SUPPORT. What the requests of an action leave to be told: nothing that moves an engine which has taken their results as the
door units then stand (R139, R143). -/

variable {s t u v w : State} {f : Face} {j k : DoorIx} {p : GroupIx} {x st : DoorState}

/-- A notice that moves no engine of the face which follows door units to `x`, those at `x` being settled. -/
def Notice.idle (f : Face) (x : DoorState) (s : State) : Notice → Prop
  | .door g k st => g = f ∧ st ≠ .fault ∧ st ≠ .released ∧ st ≠ .obstructed ∧ (st = x → (s.door f k).state = some x)
  | .quiet g | .clp g => g = f
  | .holdEnds _ => False

/-- Every notice is idle, and no door unit that a grant can still move stands at `x`. -/
structure Heard (f : Face) (x : DoorState) (s : State) : Prop where
  entries : ∀ p, ∀ e ∈ (s.group f p).queue, s.groupOf f e.door = p ∧ (s.door f e.door).state ≠ some x
  notices : ∀ n ∈ s.notices, n.idle f x s

theorem Notice.idle.of {n : Notice} (h : n.idle f x s) (hd : ∀ k, (t.door f k).state = (s.door f k).state) : n.idle f x t := by
  cases n with
  | door g k st =>
    obtain ⟨face, fault, released, obstructed, target⟩ := h
    exact ⟨face, fault, released, obstructed, fun e => (hd k).trans (target e)⟩
  | quiet | clp | holdEnds => exact h

/-- A step that leaves the states, adds no entry and tells nothing. -/
theorem Heard.of (h : Heard f x s) (hc : t.config = s.config) (hd : ∀ k, (t.door f k).state = (s.door f k).state)
    (hq : ∀ p, ∀ e ∈ (t.group f p).queue, e ∈ (s.group f p).queue) (hn : t.notices = s.notices) : Heard f x t where
  entries p e he := by rw [groupOf_of hc, hd]; exact h.entries p e (hq p e he)
  notices n he := (h.notices n (hn ▸ he)).of hd

theorem law_entries (l : s.startQueueLaw f) (hx : x = .locked ∨ x = .standOpen) :
    ∀ p, ∀ e ∈ (s.group f p).queue, s.groupOf f e.door = p ∧ (s.door f e.door).state ≠ some x := fun p e he => by
  obtain ⟨-, -, rules⟩ := l.1 p
  obtain ⟨-, group, -, states⟩ := rules e he
  refine ⟨group, fun at_ => ?_⟩
  rcases hx with rfl | rfl <;> rcases states with ⟨-, h, -⟩ | ⟨-, h, -⟩ <;> rw [h] at at_ <;> cases at_

theorem law_heard (l : s.startQueueLaw f) (hx : x = .locked ∨ x = .standOpen) (hn : s.notices = []) : Heard f x s where
  entries := law_entries l hx
  notices n he := by rw [hn] at he; cases he

/-! ### What an entered state tells -/

/-- From `s` to `t` nothing but changes of CLP have been told. -/
def TellsClp (f : Face) (s t : State) : Prop := ∀ n ∈ t.notices, n ∈ s.notices ∨ n = .clp f

theorem TellsClp.refl : TellsClp f s s := fun _ h => .inl h

theorem TellsClp.of_eq (h : t.notices = s.notices) : TellsClp f s t := fun _ hn => .inl (h ▸ hn)

theorem TellsClp.trans (h : TellsClp f s t) (h' : TellsClp f t u) : TellsClp f s u := fun n hn =>
  (h' n hn).elim (h n) .inr

@[simp] theorem report_notices (c : ReportClass) (k : ReportKind) (g : Face) (o : Option Nat) (d : List Byte) :
    (s.report c k g o d).notices = s.notices := report_keeps State.notices (fun _ l _ => by cases l <;> rfl) ..

theorem recomputeClp_tells (o : Option DoorIx) : TellsClp f s (s.recomputeClp f o) := by
  unfold State.recomputeClp
  split
  · dsimp only
    split
    · exact .of_eq (by simp)
    · intro n hn
      simpa using hn
  · exact .refl

theorem leaveZone_tells (z : Zone) (o : EpisodeOutcome) : TellsClp f s (s.leaveZone f j z o) := by
  unfold State.leaveZone
  refine TellsClp.trans (.of_eq ?_) (recomputeClp_tells _)
  split
  · simp [State.putZone]
  · simp only [State.reportGap, report_notices, mapSense_notices, State.putZone]
    unfold State.completeRecord
    split <;> simp

theorem occupyZone_tells : TellsClp f s (s.occupyZone f j) := by
  unfold State.occupyZone
  refine TellsClp.trans (.of_eq ?_) (recomputeClp_tells _)
  simp only [State.reportGap, report_notices, mapSense_notices, State.putZone]
  split <;> simp [State.onset]

theorem senseZone_tells (st : DoorState) : TellsClp f s (s.senseZone f j st) := by
  have disarms : TellsClp f s (s.disarmZone f j) := by
    unfold State.disarmZone
    split
    · exact .refl
    · exact leaveZone_tells _ _
  have arms : TellsClp f s (s.armZone f j) := by
    unfold State.armZone
    split
    · split
      · exact occupyZone_tells
      · exact TellsClp.trans (.of_eq (by simp [State.putZone])) (recomputeClp_tells _)
    · exact .refl
  cases st
  case opening | reversing => exact disarms
  case closing => exact arms
  all_goals exact .refl

theorem enterState_tells (st : DoorState) (edit : DoorRec → DoorRec) : TellsClp f s (s.enterState f j st edit) := by
  unfold State.enterState
  refine TellsClp.trans (.of_eq ?_) (senseZone_tells st)
  simp only [State.senseDeferral, mapSense_notices, State.senseTracker]
  (repeat' split) <;> simp [State.reportDoor]

/-- A door unit that enters a state tells that, after changes of CLP. -/
theorem enterTold_notices (st : DoorState) (edit : DoorRec → DoorRec) {n : Notice}
    (h : n ∈ (s.enterTold f j st edit).notices) : n ∈ s.notices ∨ n = .clp f ∨ n = .door f j st := by
  rw [State.enterTold, tell_notices, List.mem_append, List.mem_singleton] at h
  rcases h with h | h
  · exact (((enterState_tells st edit).trans (recomputeClp_tells _)) n h).imp_right .inl
  · exact .inr (.inr h)

/-! ### Operations on the door units -/

theorem state_of_unit (h : t.unit f k = s.unit f k) : (t.door f k).state = (s.door f k).state :=
  congrArg (fun a => a.1.state) h

/-- A state that an action brings: none of those that settle a door unit with an error. -/
def DoorState.clean : DoorState → Bool
  | .fault | .released | .obstructed => false
  | .locked | .unlatching | .unlatched | .opening | .standOpen | .closeWait | .closing | .reversing | .recloseHold
  | .locking => true

/-- A door unit not at `x` enters a state: all that is told stays idle. -/
theorem enterTold_idle (h : ∀ n ∈ s.notices, n.idle f x s) (hj : (s.door f j).state ≠ some x) (hs : st.clean = true)
    (edit : DoorRec → DoorRec) : ∀ n ∈ (s.enterTold f j st edit).notices, n.idle f x (s.enterTold f j st edit) := by
  intro n hn
  have fault : st ≠ .fault := fun e => by simp [e, DoorState.clean] at hs
  have released : st ≠ .released := fun e => by simp [e, DoorState.clean] at hs
  have obstructed : st ≠ .obstructed := fun e => by simp [e, DoorState.clean] at hs
  rcases enterTold_notices st edit hn with hn | rfl | rfl
  · have old := h n hn
    cases n with
    | door g k st' =>
      obtain ⟨face, clean⟩ := old
      refine ⟨face, clean.1, clean.2.1, clean.2.2.1, fun e => ?_⟩
      have at_ := clean.2.2.2 e
      have other : k ≠ j := fun e => hj (e ▸ at_)
      rw [state_of_unit (enterTold_unit _ _ _ _ other)]
      exact at_
    | quiet | clp | holdEnds => exact old
  · exact rfl
  · exact ⟨rfl, fault, released, obstructed, fun e => by rw [enterTold_door, ← e]; rfl⟩

theorem enterTold_heard (h : Heard f x s) (hj : (s.door f j).state ≠ some x) (hs : st.clean = true) (hx : st ≠ x)
    (edit : DoorRec → DoorRec) : Heard f x (s.enterTold f j st edit) where
  entries p e he := by
    rw [enterTold_group] at he
    obtain ⟨group, state⟩ := h.entries p e he
    refine ⟨by rw [enterTold_groupOf]; exact group, ?_⟩
    by_cases other : e.door = j
    · rw [other, enterTold_door]
      exact fun e => hx (Option.some.inj e)
    · rw [state_of_unit (enterTold_unit _ _ _ _ other)]
      exact state
  notices := enterTold_idle h.notices hj hs edit

theorem mapGroup_heard (h : Heard f x s) {g : Group → Group}
    (hg : ∀ e ∈ (g (s.group f p)).queue, e ∈ (s.group f p).queue ∨ s.groupOf f e.door = p ∧ (s.door f e.door).state ≠ some x) :
    Heard f x (s.mapGroup f p g) where
  entries q e he := by
    rw [groupOf_of (s := s) (by simp), show (s.mapGroup f p g).door f e.door = s.door f e.door by simp [State.door]]
    by_cases hq : q = p
    · subst hq
      rw [mapGroup_group] at he
      exact (hg e he).elim (h.entries q e) id
    · rw [mapGroup_group_other _ _ _ _ hq] at he
      exact h.entries q e he
  notices n hn := (h.notices n (by simpa using hn)).of fun k => by simp [State.door]

theorem recordStart_heard (h : Heard f x s) : Heard f x (s.recordStart f p) := mapGroup_heard h fun _ he => .inl he

section Target
variable (hx : x = .locked ∨ x = .standOpen)
include hx

theorem obstruct_heard (h : Heard f x s) : Heard f x (s.obstruct f j) := by
  unfold State.obstruct
  split
  · next closing =>
    refine recordStart_heard (enterTold_heard h ?_ (by rfl) ?_ _)
    · rw [closing]; rcases hx with rfl | rfl <;> nofun
    · rcases hx with rfl | rfl <;> nofun
  · exact h

theorem enterClosing_heard (h : Heard f x s) (hj : (s.door f j).state ≠ some x) : Heard f x (s.enterClosing f j) := by
  have closing : Heard f x (s.enterTold f j .closing id) :=
    enterTold_heard h hj (by rfl) (by rcases hx with rfl | rfl <;> nofun) _
  unfold State.enterClosing
  dsimp only
  split
  · exact obstruct_heard hx closing
  · exact closing

theorem grantOnce_heard (h : Heard f x s) : Heard f x (s.grantOnce f p) := by
  rcases grantOnce_cases (s := s) (f := f) p with he | ⟨e, rest, hq, -, he⟩ <;> rw [he]
  · exact h
  · have taken : Heard f x (s.takeHead f p rest) :=
      mapGroup_heard (recordStart_heard (mapGroup_heard h fun _ he => .inl (hq ▸ List.mem_cons_of_mem _ he))) fun _ he => .inl he
    have state : ((s.takeHead f p rest).door f e.door).state ≠ some x := by
      rw [takeHead_door]
      exact (h.entries p e (hq ▸ List.mem_cons_self)).2
    split
    · exact enterTold_heard taken state (by rfl) (by rcases hx with rfl | rfl <;> nofun) _
    · exact enterClosing_heard hx taken state

theorem evalGrants_heard (h : Heard f x s) : Heard f x (s.evalGrants f p) :=
  grantOnce_heard hx (grantOnce_heard hx (grantOnce_heard hx (grantOnce_heard hx h)))

theorem placeEntry_heard (h : Heard f x s) (hj : (s.door f j).state ≠ some x) (m : Motion) (c : ReqClass) :
    Heard f x (s.placeEntry f j m c) := by
  have placed : Heard f x (s.mapGroup f (s.groupOf f j) (fun y => { y with queue := joinQueue ⟨j, m, c, s.msClock⟩ y.queue })) :=
    mapGroup_heard h fun e he => (DoorSide.mem_joinQueue.1 he).elim (fun e => .inr (e ▸ ⟨rfl, hj⟩)) .inl
  unfold State.placeEntry State.evalIfHead
  dsimp only
  split
  · exact evalGrants_heard hx placed
  · exact placed

theorem openEntry_heard (h : Heard f x s) (hj : (s.door f j).state ≠ some x) : Heard f x (s.openEntry f j) := by
  have states : ∀ k, ((s.mapDoor f j (fun d => { d with timer := none })).door f k).state = (s.door f k).state := fun k => by
    by_cases e : k = j
    · subst e; simp
    · rw [mapDoor_door_other _ _ _ _ e]
  exact placeEntry_heard hx (h.of (by simp) states (fun p e he => by simpa [State.group] using he) (by simp))
    (by rw [states]; exact hj) _ _

theorem closeEntry_heard (h : Heard f x s) (hj : (s.door f j).state ≠ some x) : Heard f x (s.closeEntry f j) :=
  placeEntry_heard hx (h.of (by simp) (fun k => by simp [State.door]) (fun p e he => by simpa [State.group] using he) (by simp))
    (by simpa [State.door] using hj) _ _

theorem enterUnlatched_heard (h : Heard f x s) (hj : (s.door f j).state ≠ some x) : Heard f x (s.enterUnlatched f j) := by
  have target : DoorState.unlatched ≠ x := by rcases hx with rfl | rfl <;> nofun
  have told := enterTold_heard h hj (by rfl) target id
  unfold State.enterUnlatched
  dsimp only
  split
  · refine openEntry_heard hx told ?_
    rw [enterTold_door]
    exact fun e => target (Option.some.inj e)
  · exact told

theorem decideDeferral_heard (h : Heard f x s) (hj : (s.door f j).state ≠ some x) : Heard f x (s.decideDeferral f j) := by
  unfold State.decideDeferral
  dsimp only
  split
  · exact closeEntry_heard hx h hj
  · exact h.of (by simp) (fun k => by simp [State.door]) (fun p e he => by simpa [State.group] using he) (by simp)

/-- A door unit not at `x` enters a state and loses its entry. -/
theorem enterTold_removeEntry_heard (h : Heard f x s) (hj : (s.door f j).state ≠ some x) (hs : st.clean = true)
    (edit : DoorRec → DoorRec) : Heard f x ((s.enterTold f j st edit).removeEntry f j) := by
  have filtered : Heard f x ((s.enterTold f j st edit).mapGroup f (s.groupOf f j)
      (fun y => { y with queue := y.queue.filter (fun e => e.door ≠ j) })) := by
    refine ⟨fun p e he => ?_, fun n hn => (enterTold_idle h.notices hj hs edit n (by simpa using hn)).of fun k => by simp [State.door]⟩
    obtain ⟨mem, other⟩ : e ∈ (s.group f p).queue ∧ e.door ≠ j := by
      by_cases hp : p = s.groupOf f j
      · subst hp
        simpa using he
      · rw [mapGroup_group_other _ _ _ _ hp, enterTold_group] at he
        exact ⟨he, fun own => hp (own ▸ (h.entries p e he).1.symm)⟩
    obtain ⟨group, state⟩ := h.entries p e mem
    refine ⟨by rw [groupOf_of (s := s) (by simp)]; exact group, ?_⟩
    rw [state_of_unit (mapGroup_unit ..), state_of_unit (enterTold_unit _ _ _ _ other)]
    exact state
  unfold State.removeEntry
  rw [enterTold_groupOf]
  dsimp only
  split
  · exact evalGrants_heard hx filtered
  · exact filtered

theorem enter_heard (h : Heard f x s) (hj : (s.door f j).state ≠ some x) (hs : st.clean = true) (edit : DoorRec → DoorRec) :
    Heard f x (s.enter f j st edit) := by
  have first := enterTold_removeEntry_heard hx h hj hs edit
  have door := enterTold_removeEntry_door (s := s) (f := f) (j := j) st edit
  have own : st ≠ x → (((s.enterTold f j st edit).removeEntry f j).door f j).state ≠ some x := fun hne => by
    rw [door]
    exact fun e => hne (Option.some.inj e)
  cases st
  case unlatching =>
    rw [State.enter]
    split
    · exact first
    · exact enterUnlatched_heard hx first (own (by rcases hx with rfl | rfl <;> nofun))
  case closeWait => exact decideDeferral_heard hx first (own (by rcases hx with rfl | rfl <;> nofun))
  all_goals exact first

end Target

/-! ### Requests of an action -/

theorem mapDoor_heard (h : Heard f x s) {g : DoorRec → DoorRec} (hg : ∀ d, (g d).state = d.state) :
    Heard f x (s.mapDoor f j g) := by
  refine h.of (by simp) (fun k => ?_) (fun p e he => by simpa [State.group] using he) (by simp)
  by_cases e : k = j
  · subst e; rw [mapDoor_door, hg]
  · rw [mapDoor_door_other _ _ _ _ e]

/-- What an OPEN leaves to be told moves no engine that follows door units to OPEN. -/
theorem takeOpen_heard (h : Heard f .standOpen s) : Heard f .standOpen (s.takeOpen f j .normal).1 := by
  have enters : ∀ {a st : DoorState} (e : DoorRec → DoorRec), (s.door f j).state = some a → a ≠ .standOpen → st.clean = true →
      Heard f .standOpen (s.enter f j st e) := fun e ha hne hs =>
    enter_heard (.inr rfl) h (by rw [ha]; exact fun e => hne (Option.some.inj e)) hs e
  unfold State.takeOpen
  split <;> try dsimp only
  case h_1 | h_2 | h_3 => exact h
  case h_4 hd | h_5 hd =>
    split
    · dsimp only
      exact enters _ hd nofun (by rfl)
    · exact h
  case h_6 | h_7 | h_8 | h_9 | h_14 => exact mapDoor_heard h (by intro; rfl)
  case h_10 hd | h_11 hd | h_12 hd => exact enters _ hd nofun (by rfl)
  case h_13 hd => exact recordStart_heard (enters _ hd nofun (by rfl))

/-- What a CLOSE leaves to be told moves no engine that follows door units to LOCKED. -/
theorem takeClose_heard (h : Heard f .locked s) : Heard f .locked (s.takeClose f j).1 := by
  have enters : ∀ {a st : DoorState} (e : DoorRec → DoorRec), (s.door f j).state = some a → a ≠ .locked → st.clean = true →
      Heard f .locked (s.enter f j st e) := fun e ha hne hs =>
    enter_heard (.inl rfl) h (by rw [ha]; exact fun e => hne (Option.some.inj e)) hs e
  unfold State.takeClose
  split <;> try dsimp only
  case h_4 hd | h_5 hd | h_7 hd | h_8 hd => exact enters _ hd nofun (by rfl)
  case h_6 => exact mapDoor_heard h (by intro; rfl)
  case h_9 =>
    split
    · exact mapDoor_heard h (by intro; rfl)
    · exact h
  all_goals exact h

/-- The state that an action of CLOSE or OPEN asks for. -/
def DoorRequest.goal : DoorRequest → DoorState
  | .close => .locked
  | .open_ | .emergencyOpen => .standOpen

theorem request_heard {r : DoorRequest} (hr : r ≠ .emergencyOpen) (h : Heard f r.goal s) : Heard f r.goal (s.request f j r).1 := by
  unfold State.request
  split
  · exact h
  · split
    · exact h
    · cases r with
      | close =>
        dsimp only
        split
        · exact h
        · exact takeClose_heard h
      | open_ => exact takeOpen_heard h
      | emergencyOpen => exact absurd rfl hr

/-- What the requests of an action leave to be told moves no engine that has taken their results. -/
theorem requestAll_heard {r : DoorRequest} (hr : r ≠ .emergencyOpen) (js : List DoorIx) (h : Heard f r.goal s) :
    Heard f r.goal (s.requestAll f r js).1 := by
  induction js generalizing s with
  | nil => exact h
  | cons j js ih => exact ih (request_heard hr h)

end Sys2Proof.Machine
end

section
namespace Sys2Proof.Machine

/-! SUPPORT. The results of the requests of an action, and what they make of the engine (R143, R147). -/

variable {s t u v w : State} {f : Face} {j k : DoorIx} {d e : DoorRec} {c : ResultCode} {a : Action}

/-! ### Which result each door unit gives -/

/-- A result by the error that it brings a dwell program, and by whether its door unit is followed (R143). -/
def Answers (refusal : Option (BitVec 16)) (enters : Bool) (c : ResultCode) : Prop :=
  refusal = none ∧ enters = true ∧ c = .accept ∨ refusal = some 1 ∧ enters = true ∧ c = .notAvailable ∨
  refusal = none ∧ enters = false ∧ c = .isolated ∨
  refusal = some 4 ∧ enters = false ∧ (c = .noRelease ∨ c = .emergencyActive)

theorem request_open_answers : Answers (s.openError f j) (s.entersFollowed f (s.openError f) j) (s.request f j .open_).2 := by
  unfold Answers State.entersFollowed State.openError State.request
  cases state : (s.door f j).state with
  | none => simp
  | some st =>
    cases isolated : s.isolated f j with
    | true => simp
    | false =>
      by_cases permission : s.mayLeaveLocked f j
      · have permits := permits_iff.2 permission
        cases st <;> simp [State.takeOpen, state, permission, permits]
      · have permits : s.permits f j = false := Bool.eq_false_iff.2 (permission ∘ permits_iff.1)
        cases st <;> simp [State.takeOpen, state, permission, permits]

theorem request_close_answers : Answers (s.closeError f j) (s.entersFollowed f (s.closeError f) j) (s.request f j .close).2 := by
  unfold Answers State.entersFollowed State.closeError State.request
  cases state : (s.door f j).state with
  | none => simp
  | some st =>
    cases isolated : s.isolated f j with
    | true => simp
    | false =>
      cases latch : (s.face f).mode.latch with
      | true => simp
      | false => cases st <;> simp [State.takeClose, state]

/-! ### Requests leave the answers of the others -/

/-- A record in a state in which a door unit refuses no request, `P` being the permission to leave LOCKED. -/
def Ordinary (P : Prop) (d : DoorRec) : Prop :=
  ∃ st, d.state = some st ∧ st ≠ .released ∧ st ≠ .fault ∧ (st = .locked ∨ st = .locking → P)

/-- Two records that refuse the same. -/
def SameAnswer (P : Prop) (d e : DoorRec) : Prop := e.state = d.state ∨ Ordinary P d ∧ Ordinary P e

theorem GrantedFrom.sameAnswer {P : Prop} (g : GrantedFrom d e) : SameAnswer P d e := by
  have ordinary : ∀ {x : DoorRec} {st : DoorState}, x.state = some st →
      st ≠ .released ∧ st ≠ .fault ∧ st ≠ .locked ∧ st ≠ .locking → Ordinary P x := fun h ⟨h1, h2, h3, h4⟩ =>
    ⟨_, h, h1, h2, fun h => absurd h (by simp [h3, h4])⟩
  rcases g with rfl | ⟨hd, he, -⟩ | ⟨hd, -, ⟨he, -⟩ | ⟨he, -⟩⟩
  · exact .inl rfl
  all_goals exact .inr ⟨ordinary hd (by decide), ordinary he (by decide)⟩

theorem OpenedFrom.sameAnswer {P : Prop} (h : OpenedFrom .normal P d e) : SameAnswer P d e := by
  unfold OpenedFrom at h
  dsimp only at h
  unfold SameAnswer Ordinary
  by_cases hP : P <;> split at h <;> grind

theorem ClosedFrom.sameAnswer (h : ClosedFrom d e) : SameAnswer True d e := by
  unfold ClosedFrom at h
  dsimp only at h
  unfold SameAnswer Ordinary
  split at h <;> grind

theorem request_isolated (r : DoorRequest) (h : s.isolated f j = true) : (s.request f j r).1 = s := by
  unfold State.request
  rw [h]
  split <;> rfl

theorem request_open_same (l : s.startQueueLaw f) :
    SameAnswer (s.mayLeaveLocked f k) (s.door f k) ((s.request f j .open_).1.door f k) := by
  by_cases own : k = j
  · subst own
    by_cases isolated : s.isolated f k = false
    · exact (request_openedFrom .normal l isolated).sameAnswer
    · rw [request_isolated _ (by simpa using isolated)]
      exact .inl rfl
  · exact ((request_serves .open_ own).granted l).sameAnswer

theorem request_close_same (l : s.startQueueLaw f) : SameAnswer True (s.door f k) ((s.request f j .close).1.door f k) := by
  by_cases own : k = j
  · subst own
    by_cases isolated : s.isolated f k = false
    · by_cases latch : (s.face f).mode.latch = false
      · exact (request_closedFrom l isolated latch).sameAnswer
      · have kept : (s.request f k .close).1 = s := by
          unfold State.request
          simp only [show (s.face f).mode.latch = true by simpa using latch, if_true]
          (repeat' split) <;> rfl
        rw [kept]
        exact .inl rfl
    · rw [request_isolated _ (by simpa using isolated)]
      exact .inl rfl
  · exact ((request_serves .close own).granted l).sameAnswer

theorem openError_of_same (h : SameAnswer (s.mayLeaveLocked f k) (s.door f k) (t.door f k))
    (hi : t.isolated f k = s.isolated f k) (hp : t.mayLeaveLocked f k ↔ s.mayLeaveLocked f k) :
    t.openError f k = s.openError f k := by
  unfold State.openError
  rcases h with h | ⟨⟨a, ha, a1, a2, a3⟩, b, hb, b1, b2, b3⟩
  · simp only [h, hi, hp]
  · have none : ∀ {u : State} {st : DoorState}, (u.door f k).state = some st → st ≠ .released → st ≠ .fault →
        (st = .locked ∨ st = .locking → u.mayLeaveLocked f k) → u.openError f k = none := fun {u st} hu h1 h2 h3 => by
      unfold State.openError
      rw [hu]
      cases st <;> simp_all
    exact (none hb b1 b2 (hp.2 ∘ b3)).trans (none ha a1 a2 a3).symm

theorem closeError_of_same {P : Prop} (h : SameAnswer P (s.door f k) (t.door f k)) (hi : t.isolated f k = s.isolated f k)
    (hl : (t.face f).mode.latch = (s.face f).mode.latch) : t.closeError f k = s.closeError f k := by
  unfold State.closeError
  rcases h with h | ⟨⟨a, ha, a1, a2, -⟩, b, hb, b1, b2, -⟩
  · rw [h, hi, hl]
  · rw [ha, hb, hi, hl]
    simp [a1, a2, b1, b2]

theorem entersFollowed_of_same {P : Prop} {error error' : DoorIx → Option (BitVec 16)}
    (h : SameAnswer P (s.door f k) (t.door f k)) (hi : t.isolated f k = s.isolated f k) (he : error' k = error k) :
    t.entersFollowed f error' k = s.entersFollowed f error k := by
  have none : (t.door f k).state.isNone = (s.door f k).state.isNone := by
    rcases h with h | ⟨⟨a, ha, -⟩, b, hb, -⟩
    · rw [h]
    · rw [ha, hb]; rfl
  rw [State.entersFollowed, State.entersFollowed, he, none, hi]

/-! ### The results of all the requests -/

/-- Results that return in the order of the door units, each as its door unit answers. -/
def AnswerAll (refusal : DoorIx → Option (BitVec 16)) (enters : DoorIx → Bool) (js : List DoorIx)
    (xs : List (DoorIx × ResultCode)) : Prop :=
  List.Forall₂ (fun j x => x.1 = j ∧ Answers (refusal j) (enters j) x.2) js xs

theorem AnswerAll.congr {refusal refusal' : DoorIx → Option (BitVec 16)} {enters enters' : DoorIx → Bool} {js : List DoorIx}
    {xs : List (DoorIx × ResultCode)} (h : AnswerAll refusal enters js xs) (hr : ∀ j, refusal j = refusal' j)
    (he : ∀ j, enters j = enters' j) : AnswerAll refusal' enters' js xs := by
  rwa [← funext hr, ← funext he]

theorem requestAll_open_answers (js : List DoorIx) (l : s.startQueueLaw f) :
    AnswerAll (s.openError f) (s.entersFollowed f (s.openError f)) js (s.requestAll f .open_ js).2 := by
  induction js generalizing s with
  | nil => exact .nil
  | cons j js ih =>
    have isolated : ∀ k, (s.request f j .open_).1.isolated f k = s.isolated f k := fun k => isolated_of (by simp) ..
    have same := fun k => request_open_same (f := f) (j := j) (k := k) l
    have error := fun k => openError_of_same (same k) (isolated k) (mayLeaveLocked_of_side (by simp))
    exact .cons ⟨rfl, request_open_answers⟩ ((ih (law_request _ l)).congr error
      fun k => entersFollowed_of_same (same k) (isolated k) (error k))

theorem requestAll_close_answers (js : List DoorIx) (l : s.startQueueLaw f) :
    AnswerAll (s.closeError f) (s.entersFollowed f (s.closeError f)) js (s.requestAll f .close js).2 := by
  induction js generalizing s with
  | nil => exact .nil
  | cons j js ih =>
    have isolated : ∀ k, (s.request f j .close).1.isolated f k = s.isolated f k := fun k => isolated_of (by simp) ..
    have same := fun k => request_close_same (f := f) (j := j) (k := k) l
    have error := fun k => closeError_of_same (same k) (isolated k) (latch_of_side (by simp))
    exact .cons ⟨rfl, request_close_answers⟩ ((ih (law_request _ l)).congr error
      fun k => entersFollowed_of_same (same k) (isolated k) (error k))

/-! ### What the results make of the engine -/

/-- An error marks the engine, or halts it where halt_on_error is ON (R147). -/
def Engine.errs (halts : Bool) (m : BitVec 16) (e : Engine) : Engine :=
  if halts then e.haltedBy m else e.marked m e.phase

theorem EngineGoes.setError {e : Engine} (h : EngineGoes f e s t) (err : ProgError) :
    EngineGoes f (e.errs (s.par f).haltOnError err.mask) s (t.setError f err) := by
  have par : t.par f = s.par f := par_of h.config f
  have flagged := h.map (Engine.flagError err)
  unfold State.setError Engine.errs
  rw [par]
  dsimp only
  split
  · exact (flagged.map Engine.halt).reported 3 _ 0
  · exact flagged.reported 2 _ _

theorem takeResults_rests {xs : List (DoorIx × ResultCode)} (h : (s.face f).engine.state ≠ .acting) :
    s.takeResults f a xs = s := by
  induction xs with
  | nil => rfl
  | cons x xs ih =>
    have rests : s.takeResult f a x = s := if_neg h
    rw [State.takeResults, forEach, List.foldl_cons, rests]
    exact ih

/-- The engine after results: `js` are the door units in the order of their results (R143, R147). -/
def Engine.collects (halts : Bool) (js : List DoorIx) (refusal : DoorIx → Option (BitVec 16)) (enters : DoorIx → Bool)
    (atTarget : DoorIx → Bool) (e : Engine) : Engine :=
  let follows : Engine :=
    { e with followed := e.followed ++ (js.filter enters).map (fun j => (j, (refusal j).isNone && !atTarget j)) }
  match js.filterMap refusal with
  | [] => follows
  | m :: ms => if halts then e.haltedBy m else follows.marked (ms.foldl (· ||| ·) m) .act

theorem marked_marked (m m' : BitVec 16) (p : Phase) (e : Engine) : (e.marked m p).marked m' p = e.marked (m ||| m') p := by
  unfold Engine.marked
  cases e.context <;> cases e.current <;> simp [BitVec.or_assoc]

theorem foldl_or (m m' : BitVec 16) (ms : List (BitVec 16)) : m ||| ms.foldl (· ||| ·) m' = ms.foldl (· ||| ·) (m ||| m') := by
  induction ms generalizing m' with
  | nil => rfl
  | cons a ms ih => rw [List.foldl_cons, List.foldl_cons, ih, BitVec.or_assoc]

/-- A door unit is entered into the followed set, pending where it refuses nothing and is not at its target (R143). -/
def Engine.follows (refusal : DoorIx → Option (BitVec 16)) (enters atTarget : DoorIx → Bool) (j : DoorIx) (e : Engine) : Engine :=
  { e with followed := e.followed ++ (if enters j then [(j, (refusal j).isNone && !atTarget j)] else []) }

section Collects
variable {halts : Bool} {js : List DoorIx} {refusal : DoorIx → Option (BitVec 16)} {enters atTarget : DoorIx → Bool} {e : Engine}

theorem collects_nil : e.collects halts [] refusal enters atTarget = e := by
  simp [Engine.collects]

/-- The door units that follow the first. -/
theorem follows_cons :
    let pends (j : DoorIx) : DoorIx × Bool := (j, (refusal j).isNone && !atTarget j)
    ({ e with followed := e.followed ++ ((j :: js).filter enters).map pends } : Engine) =
      { e.follows refusal enters atTarget j with
        followed := (e.follows refusal enters atTarget j).followed ++ (js.filter enters).map pends } := by
  cases enter : enters j <;> simp [Engine.follows, enter]

/-- A door unit that refuses nothing. -/
theorem collects_none (h : refusal j = none) : e.collects halts (j :: js) refusal enters atTarget =
    (e.follows refusal enters atTarget j).collects halts js refusal enters atTarget := by
  unfold Engine.collects
  rw [List.filterMap_cons_none h, follows_cons]
  cases js.filterMap refusal with
  | nil => rfl
  | cons m ms => cases halts <;> rfl

/-- A door unit that refuses. -/
theorem collects_some {m : BitVec 16} (h : refusal j = some m) : e.collects halts (j :: js) refusal enters atTarget =
    if halts then e.haltedBy m
    else ((e.follows refusal enters atTarget j).marked m .act).collects false js refusal enters atTarget := by
  unfold Engine.collects
  rw [List.filterMap_cons_some h, follows_cons]
  cases halts with
  | true => rfl
  | false =>
    cases js.filterMap refusal with
    | nil => rfl
    | cons m' ms =>
      simp only [Bool.false_eq_true, if_false, List.foldl_cons]
      rw [← foldl_or, ← marked_marked]
      rfl

end Collects

/-- What one result makes of an engine that acts (R143). -/
theorem EngineGoes.takeResult {refusal : DoorIx → Option (BitVec 16)} {enters : DoorIx → Bool} {e : Engine} {x : DoorIx × ResultCode}
    (h : EngineGoes f e s t) (ha : e.state = .acting) (hx : x.1 = j) (answer : Answers (refusal j) (enters j) x.2) :
    EngineGoes f (match refusal j with
      | none => e.follows refusal enters (fun j => (s.door f j).state = some a.target) j
      | some m => (e.follows refusal enters (fun j => (s.door f j).state = some a.target) j).errs (s.par f).haltOnError m)
      s (t.takeResult f a x) := by
  have acting : (t.face f).engine.state = .acting := by rw [h.face]; exact ha
  have door : t.door f j = s.door f j := by simp [State.door, h.face]
  have stays : e.follows refusal enters (fun j => (s.door f j).state = some a.target) j = { e with followed := e.followed ++ [] } →
    EngineGoes f (e.follows refusal enters (fun j => (s.door f j).state = some a.target) j) s t := fun he =>
      h.of_eq (by rw [he]; simp)
  unfold State.takeResult State.follow
  rw [if_pos acting, hx]
  rcases answer with ⟨hr, he, hc⟩ | ⟨hr, he, hc⟩ | ⟨hr, he, hc⟩ | ⟨hr, he, hc | hc⟩ <;> rw [hc, hr]
  · refine (h.map fun e => { e with followed := e.followed ++ [(j, decide ((t.door f j).state ≠ some a.target))] }).of_eq ?_
    simp [Engine.follows, he, hr, door]
  · refine ((h.map fun e => { e with followed := e.followed ++ [(j, false)] }).setError .doorFault).of_eq ?_
    simp [Engine.follows, he, hr, ProgError.mask, ProgError.bit]
  · exact stays (by simp [Engine.follows, he])
  · exact ((stays (by simp [Engine.follows, he])).setError .refused)
  · exact ((stays (by simp [Engine.follows, he])).setError .refused)

/-- What the results of all the requests make of an engine that acts (R143, R147). -/
theorem EngineGoes.takeResults {refusal : DoorIx → Option (BitVec 16)} {enters : DoorIx → Bool} {js : List DoorIx} {e : Engine}
    {xs : List (DoorIx × ResultCode)} (h : EngineGoes f e s t) (ha : e.state = .acting) (hp : e.phase = .act)
    (answers : AnswerAll refusal enters js xs) :
    EngineGoes f (e.collects (s.par f).haltOnError js refusal enters (fun j => (s.door f j).state = some a.target)) s
      (t.takeResults f a xs) := by
  induction answers generalizing t e with
  | nil => exact h.of_eq collects_nil.symm
  | @cons j x js xs answer _ ih =>
    obtain ⟨own, answer⟩ := answer
    have first := h.takeResult (a := a) ha own answer
    show EngineGoes f _ s ((t.takeResult f a x).takeResults f a xs)
    cases refused : refusal j with
    | none =>
      rw [refused] at first
      rw [collects_none refused]
      exact ih first ha hp
    | some m =>
      rw [refused] at first
      rw [collects_some refused]
      cases halts : (s.par f).haltOnError with
      | true =>
        rw [halts] at first
        rw [takeResults_rests (by rw [first.face]; nofun)]
        exact first.of_eq rfl
      | false =>
        rw [halts] at first
        have marked : (e.follows refusal enters (fun j => (s.door f j).state = some a.target) j).errs false m =
          (e.follows refusal enters (fun j => (s.door f j).state = some a.target) j).marked m .act := by
            rw [← hp]; rfl
        rw [halts] at ih
        exact ih (first.of_eq marked) ha hp

/-- An engine that acts and awaits nothing is complete with no door unit pending (R143, R146). -/
theorem EngineGoes.finishes {e : Engine} {d : Descriptor} (h : EngineGoes f e s t) (acting : e.state = .acting)
    (awaits : e.awaiting = false) (hd : e.current.bind s.descriptor = some d) :
    EngineGoes f (if e.followed.any Prod.snd then e else e.holdsFor s.msClock (if d.hold = 0 then 10 else d.hold)) s
      (t.finishIfDone f true) := by
  have all : e.followed.all (fun y => !y.2) = !e.followed.any Prod.snd := by simp [List.all_eq_not_any_not]
  unfold State.finishIfDone
  simp only [h.face, acting, awaits, all]
  cases e.followed.any Prod.snd with
  | true => simpa using h
  | false => simpa using! h.enterHolding hd

theorem finishIfDone_rests {b : Bool} (h : (s.face f).engine.state ≠ .acting) : s.finishIfDone f b = s := by
  unfold State.finishIfDone
  simp [h]

/-- An action whose requests are answered is complete, or follows the door units still pending (R143, R146, R147). -/
theorem EngineGoes.carries {refusal : DoorIx → Option (BitVec 16)} {enters : DoorIx → Bool} {js : List DoorIx} {x : Engine}
    {d : Descriptor} {xs : List (DoorIx × ResultCode)}
    (h : EngineGoes f { x with state := .acting, phase := .act, followed := [], awaiting := false } s t)
    (hd : x.current.bind s.descriptor = some d) (answers : AnswerAll refusal enters js xs) :
    EngineGoes f (x.carried (s.par f).haltOnError js refusal enters (fun j => (s.door f j).state = some a.target) s.msClock
      (if d.hold = 0 then 10 else d.hold)) s ((t.takeResults f a xs).finishIfDone f true) := by
  have collected := h.takeResults (a := a) rfl rfl answers
  unfold Engine.collects at collected
  unfold Engine.carried
  dsimp only at collected ⊢
  cases refused : js.filterMap refusal with
  | nil =>
    rw [refused] at collected
    exact collected.finishes rfl rfl hd
  | cons m ms =>
    rw [refused] at collected
    dsimp only at collected ⊢
    cases halts : (s.par f).haltOnError with
    | true =>
      rw [halts] at collected
      rw [finishIfDone_rests (by rw [collected.face]; nofun)]
      exact collected
    | false =>
      rw [halts] at collected
      exact collected.finishes rfl rfl hd

/-- The engine after an action: it does not wait, and follows only door units that are not at the target. -/
theorem carried_rests (x : Engine) (halts : Bool) (js : List DoorIx) (refusal : DoorIx → Option (BitVec 16))
    (enters atTarget : DoorIx → Bool) (now : Ms) (hold : Nat) :
    (x.carried halts js refusal enters atTarget now hold).state ≠ .waiting ∧
    (x.carried halts js refusal enters atTarget now hold).current = x.current ∧
    ∀ k, (k, true) ∈ (x.carried halts js refusal enters atTarget now hold).followed → atTarget k = false := by
  have goes : ∀ (y : Engine) (fs : List DoorIx), y.state ≠ .waiting →
      let e := if (fs.map (fun j => (j, (refusal j).isNone && !atTarget j))).any Prod.snd then
        { y with followed := fs.map (fun j => (j, (refusal j).isNone && !atTarget j)) } else y.holdsFor now hold
      e.state ≠ .waiting ∧ e.current = y.current ∧ ∀ k, (k, true) ∈ e.followed → atTarget k = false := by
    intro y fs hy
    dsimp only
    split
    · refine ⟨hy, rfl, fun k hk => ?_⟩
      obtain ⟨j, -, pair⟩ := List.mem_map.1 hk
      obtain ⟨rfl, pends⟩ := Prod.mk.inj pair
      simpa using (Bool.and_eq_true_iff.1 pends).2
    · exact ⟨nofun, rfl, nofun⟩
  unfold Engine.carried
  dsimp only
  cases js.filterMap refusal with
  | nil => exact goes _ _ nofun
  | cons m ms =>
    cases halts with
    | true => exact ⟨nofun, rfl, nofun⟩
    | false => exact goes _ _ nofun

end Sys2Proof.Machine
end

section
namespace Sys2Proof.Machine

/-! SUPPORT. The action issued by an engine, and that it hears nothing of its own requests afterwards (R141 to R146). -/

variable {s t u v w : State} {f : Face} {j k : DoorIx} {d : Descriptor} {x : DoorState} {e : Engine}

/-! ### An engine that hears nothing -/

/-- The engine does not wait, and every door unit that it follows is pending short of the target `x` of its action. -/
structure Deaf (f : Face) (x : DoorState) (s : State) : Prop where
  waits : (s.face f).engine.state ≠ .waiting
  pending : ∀ k, (k, true) ∈ (s.face f).engine.followed → (s.door f k).state ≠ some x
    ∧ ((s.currentDescriptor f).map (fun d => d.action.target)).getD .standOpen = x

/-- Two states that differ in what is left to be told. -/
theorem face_of_notices (ns : List Notice) (g : Face) : State.face { s with notices := ns } g = s.face g := by cases g <;> rfl

theorem takeNotice_idle {n : Notice} (h : Deaf f x s) (hn : n.idle f x s) : s.takeNotice n = s := by
  have recheck : ∀ y, s.recheck f y = s := fun y => by
    unfold State.recheck
    split
    · rfl
    · simp [h.waits]
  cases n with
  | quiet g | clp g => obtain rfl : g = f := hn; exact recheck _
  | holdEnds => exact hn.elim
  | door g k st =>
    obtain ⟨rfl, fault, released, obstructed, target⟩ := hn
    unfold State.takeNotice State.doorTold
    dsimp only
    split
    · next followed =>
      have mem : (k, true) ∈ (s.face g).engine.followed := by simpa using (Bool.and_eq_true_iff.1 followed).2
      obtain ⟨short, aim⟩ := h.pending k mem
      rw [aim, if_neg fun e => short (target e)]
      cases st
      case fault => exact absurd rfl fault
      case released => exact absurd rfl released
      case obstructed => exact absurd rfl obstructed
      all_goals rfl
    · rfl

/-- A notice that moves nothing, whatever is left to be told after it. -/
def Notice.still (s : State) (n : Notice) : Prop :=
  ∀ ns, State.takeNotice n { s with notices := ns } = { s with notices := ns }

/-- Notices that move nothing are taken one by one. -/
theorem drainN_still {pre post : List Notice} {m : Nat} (h : ∀ n ∈ pre, n.still s) :
    State.drainN (pre.length + m) { s with notices := pre ++ post } = State.drainN m { s with notices := post } := by
  induction pre with
  | nil => simp
  | cons n pre ih =>
    rw [List.length_cons, Nat.add_right_comm, ← ih fun n hn => h n (List.mem_cons_of_mem _ hn)]
    exact congrArg (State.drainN (pre.length + m)) (h n List.mem_cons_self _)

theorem drainN_still_ends {m : Nat} (ns : List Notice) (h : ∀ n ∈ ns, n.still s) :
    ∃ rest, State.drainN m { s with notices := ns } = { s with notices := rest } := by
  induction m generalizing ns with
  | zero => exact ⟨ns, rfl⟩
  | succ m ih =>
    cases ns with
    | nil => exact ⟨[], rfl⟩
    | cons n ns =>
      obtain ⟨rest, ends⟩ := ih ns fun n hn => h n (List.mem_cons_of_mem _ hn)
      exact ⟨rest, (congrArg (State.drainN m) (h n List.mem_cons_self ns)).trans ends⟩

/-- What moves nothing is dropped. -/
theorem drain_still (h : ∀ n ∈ s.notices, n.still s) : s.drain = { s with notices := [] } := by
  obtain ⟨rest, ends⟩ := drainN_still_ends (m := 4096) s.notices h
  rw [State.drain, show s.drainN 4096 = { s with notices := rest } from ends]

theorem Deaf.of_notices (h : Deaf f x s) (ns : List Notice) : Deaf f x { s with notices := ns } where
  waits := by rw [face_of_notices]; exact h.waits
  pending k hk := by
    rw [face_of_notices] at hk
    rw [show State.door { s with notices := ns } f k = s.door f k from door_of_face (face_of_notices ..),
      show State.currentDescriptor { s with notices := ns } f = s.currentDescriptor f by
        simp only [State.currentDescriptor, face_of_notices]; rfl]
    exact h.pending k hk

theorem Deaf.still {n : Notice} (h : Deaf f x s) (hn : n.idle f x s) : n.still s := fun ns =>
  takeNotice_idle (h.of_notices ns) (hn.of fun _ => by rw [State.door, face_of_notices]; rfl)

/-- What such an engine is told is dropped. -/
theorem drain_idle (h : Deaf f x s) (hn : ∀ n ∈ s.notices, n.idle f x s) : s.drain = { s with notices := [] } :=
  drain_still fun n m => h.still (hn n m)

/-! ### The parts of an action -/

theorem engineGoes_refl (h : (s.face f).engine = e) : EngineGoes f e s s where
  face := by rw [← h]
  outside := rfl
  notices := rfl

/-- The engine in ACTING, its action not yet carried out (R141). -/
def Engine.acts (e : Engine) : Engine := { e with state := .acting, phase := .act, followed := [], awaiting := false }

theorem acts_goes : EngineGoes f (s.face f).engine.acts s (s.mapEngine f Engine.acts) := mapEngine_goes _

theorem EngineGoes.door (h : EngineGoes f e s t) (k : DoorIx) : t.door f k = s.door f k := by simp [State.door, h.face]

/-- From `s` to `t` the action of a descriptor has been issued, and the engine hears nothing of it. -/
structure Issues (f : Face) (d : Descriptor) (s t : State) : Prop where
  issued : s.actionIssued f d (s.face f).engine t
  outside : t.outside f = s.outside f
  deaf : Deaf f d.action.target t
  idle : ∀ n ∈ t.notices, n.idle f d.action.target t

/-- An action that moves the engine alone. -/
theorem EngineGoes.issues (h : EngineGoes f e s t) (hs : e.state ≠ .waiting) (hf : e.followed = [])
    (hh : Heard f d.action.target s) (hi : s.actionIssued f d (s.face f).engine t) : Issues f d s t where
  issued := hi
  outside := h.outside
  deaf := ⟨by rw [h.face]; exact hs, fun k hk => by rw [h.face] at hk; simp only [hf] at hk; cases hk⟩
  idle n hn := (hh.notices n (h.notices ▸ hn)).of fun k => by rw [h.door]

/-! ### The state that an action is issued in -/

/-- Two states that differ in the engine and CLP of a face, and in what an action does not read. -/
structure SameBase (f : Face) (s t : State) : Prop where
  config : t.config = s.config
  clock : t.msClock = s.msClock
  face : ∃ e c, t.face f = { s.face f with engine := e, clp := c }

section Base
variable (h : SameBase f s t)
include h

theorem SameBase.door (k : DoorIx) : t.door f k = s.door f k := by
  obtain ⟨-, -, e, c, face⟩ := h
  simp [State.door, face]

theorem SameBase.sense (k : DoorIx) : t.sense f k = s.sense f k := by
  obtain ⟨-, -, e, c, face⟩ := h
  simp [State.sense, face]

theorem SameBase.berth : t.berth f = s.berth f := by
  obtain ⟨-, -, e, c, face⟩ := h
  simp [State.berth, face]

theorem SameBase.mode : (t.face f).mode = (s.face f).mode := by
  obtain ⟨-, -, e, c, face⟩ := h
  simp [face]

theorem SameBase.align : (t.face f).align = (s.face f).align := by
  obtain ⟨-, -, e, c, face⟩ := h
  simp [face]

theorem SameBase.map : t.map f = s.map f := congrArg Alignment.map h.align

theorem SameBase.actionReach (x : Selection) : t.actionReach f x = s.actionReach f x := by
  unfold State.actionReach State.inSections
  rw [h.map, fitted_of h.config, geo_of h.config]

theorem SameBase.selectMap (a : BitVec 8) (m : BitVec 32) : t.selectMap f a m = s.selectMap f a m := by
  unfold State.selectMap State.inSections
  rw [h.map, geo_of h.config]

theorem SameBase.mayLeaveLocked : t.mayLeaveLocked f = s.mayLeaveLocked f := by
  funext k
  simp only [State.mayLeaveLocked, h.mode, h.map, h.berth]

theorem SameBase.sameAnswer (P : Prop) (k : DoorIx) : SameAnswer P (s.door f k) (t.door f k) := .inl (by rw [h.door])

theorem SameBase.openError : t.openError f = s.openError f := funext fun k =>
  openError_of_same (h.sameAnswer _ k) (isolated_of h.config ..) (by rw [h.mayLeaveLocked])

theorem SameBase.closeError : t.closeError f = s.closeError f := funext fun k =>
  closeError_of_same (h.sameAnswer True k) (isolated_of h.config ..) (by rw [h.mode])

theorem SameBase.entersFollowed (error : DoorIx → Option (BitVec 16)) : t.entersFollowed f error = s.entersFollowed f error :=
  funext fun k => entersFollowed_of_same (h.sameAnswer True k) (isolated_of h.config ..) rfl

theorem SameBase.opensEach {a : ReqClass} {P Q : DoorIx → Prop} (hd : ∀ k, v.door f k = u.door f k) :
    t.opensEach f a P Q v ↔ s.opensEach f a P Q u := by
  simp only [State.opensEach, isFitted_of h.config, isolated_of h.config, h.door, hd]

theorem SameBase.closesEach {P : DoorIx → Prop} (hd : ∀ k, v.door f k = u.door f k) :
    t.closesEach f P v ↔ s.closesEach f P u := by
  simp only [State.closesEach, isFitted_of h.config, isolated_of h.config, h.door, hd]

/-- The action is issued alike, where CLP is recomputed alike: with no door unit moved it is what it becomes of `s`. -/
theorem SameBase.actionIssued {c : Clp} (hv : v.face f = { u.face f with clp := c })
    (hc : ∀ p, u.face f = { s.face f with engine := (u.face f).engine, berth := { s.berth f with posted := p } } →
      c = (t.face f).clp) (hi : s.actionIssued f d e u) : t.actionIssued f d e v := by
  have door : ∀ k, v.door f k = u.door f k := fun k => by simp [State.door, hv]
  have same : ∀ {p : Option Posted} {a : Engine}, u.face f = { s.face f with engine := a, berth := { s.berth f with posted := p } } →
      v.face f = { t.face f with
        engine := a, berth := { s.berth f with posted := p }, align := (s.face f).align, mode := (s.face f).mode } := fun {p a} hu => by
    have clp := hc p (by rw [hu])
    obtain ⟨e', c', face⟩ := h.face
    rw [hv, hu, clp, face]
  have becomes : ∀ {a : Engine}, u.face f = { s.face f with engine := a } →
      v.face f = { t.face f with engine := a, align := (s.face f).align, mode := (s.face f).mode } := fun hu =>
    (same (p := (s.berth f).posted) hu).trans (by rw [← h.berth]; rfl)
  have sides : ∀ {a : Engine}, u.side f = { s.side f with engine := a } → v.side f = { t.side f with engine := a } := fun hu => by
    obtain ⟨e', c', face⟩ := h.face
    rw [show v.side f = u.side f by rw [State.side, hv]; rfl, hu, State.side, State.side, face]
    rfl
  have halts : (t.par f).haltOnError = (s.par f).haltOnError := by rw [par_of h.config]
  unfold State.actionIssued at hi ⊢
  dsimp only at hi ⊢
  cases action : d.action <;> simp only [action] at hi ⊢ <;>
    simp only [h.clock, halts, h.berth, h.mode, h.align, h.map, h.actionReach, h.selectMap, h.openError, h.closeError,
      h.entersFollowed, h.mayLeaveLocked, h.door, h.sense, door]
  case wait | mark => exact becomes hi
  case check =>
    obtain ⟨passes, fails⟩ := hi
    exact ⟨fun p => becomes (passes p), fun p => becomes (fails p)⟩
  case close =>
    obtain ⟨side, each⟩ := hi
    exact ⟨sides side, fun l => (h.closesEach door).2 (each l)⟩
  case open_ =>
    obtain ⟨posts, nothing, issues⟩ := hi
    refine ⟨fun p => same (posts p), fun p b => becomes (nothing p b), fun p b m => ?_⟩
    obtain ⟨side, each⟩ := issues p b m
    exact ⟨sides side, (h.opensEach door).2 each⟩

end Base

/-- An action begins by entering ACTING whatever the engine did before (R141). -/
theorem actionIssued_acts : s.actionIssued f d e.acts u ↔ s.actionIssued f d e u := Iff.rfl

/-- What an action reads of its face is not its engine. -/
theorem mapEngine_sameBase (h : Engine → Engine) : SameBase f (s.mapEngine f h) s where
  config := (mapEngine_config ..).symm
  clock := (mapEngine_msClock ..).symm
  face := ⟨(s.face f).engine, (s.face f).clp, by rw [show (s.mapEngine f h).face f = _ from mapFace_face ..]⟩

/-! ### The actions of an engine that has entered ACTING -/

theorem mapEngine_self {g : Engine → Engine} (h : g (s.face f).engine = (s.face f).engine) : s.mapEngine f g = s := by
  cases f <;> simp only [State.mapEngine, State.mapFace, State.face] at h ⊢ <;> rw [h]

/-- A CHECK passes as R145 gives. -/
theorem checkPasses_iff {js : List DoorIx} : s.checkPasses f js = true ↔
    ∀ j ∈ js, (s.door f j).state = some .locked ∧ ((s.sense f j).zone = .idle ∨ (s.sense f j).zone = .watch) := by
  have zone : ∀ z : Zone, z.withholds = false ↔ z = .idle ∨ z = .watch := fun z => by cases z <;> simp [Zone.withholds]
  simp only [State.checkPasses, List.all_eq_true, Bool.and_eq_true, decide_eq_true_eq, Bool.not_eq_true', zone]

section Act
variable (hd : s.currentDescriptor f = some d) (hh : Heard f d.action.target s)
include hd hh

/-- WAIT and MARK (R142). -/
theorem act_idle_issues (ha : d.action = .wait ∨ d.action = .mark) : Issues f d s (s.act f d) := by
  have goes := (engineGoes_refl (s := s) (f := f) rfl).act_idle hd ha
  refine goes.issues nofun rfl hh ?_
  unfold State.actionIssued
  rcases ha with ha | ha <;> simp only [ha] <;> exact goes.face

section Acting
variable (acts : (s.face f).engine.acts = (s.face f).engine)
include acts

omit hd hh in
theorem entersActing : s.mapEngine f (fun e => { e with state := .acting, phase := .act, followed := [], awaiting := false }) = s :=
  mapEngine_self acts

omit hd hh in
theorem acting_fields : (s.face f).engine.state = .acting ∧ (s.face f).engine.phase = .act ∧ (s.face f).engine.awaiting = false
    ∧ (s.face f).engine.followed = [] := by
  rw [← acts]; exact ⟨rfl, rfl, rfl, rfl⟩

/-- CHECK (R145). -/
theorem act_check_issues (ha : d.action = .check) : Issues f d s (s.act f d) := by
  have act : s.act f d = (if s.checkPasses f (s.actionReach f d.selection) then s else s.setError f .checkFailed).finishIfDone f
      true := by
    simp only [State.act, ha, entersActing acts]
  have goes : EngineGoes f (s.face f).engine s s := engineGoes_refl rfl
  obtain ⟨acting, phase, awaits, followed⟩ := acting_fields acts
  have pass := checkPasses_iff (s := s) (f := f) (js := s.actionReach f d.selection)
  rw [act]
  by_cases passes : s.checkPasses f (s.actionReach f d.selection) = true
  · rw [if_pos passes]
    have done := goes.finishes acting awaits hd
    simp only [followed, List.any_nil, Bool.false_eq_true, if_false] at done
    refine done.issues nofun rfl hh ?_
    unfold State.actionIssued
    simp only [ha]
    exact ⟨fun _ => done.face, fun h => absurd (pass.1 passes) h⟩
  · rw [if_neg passes]
    have failed := goes.setError .checkFailed
    have fails : ∀ {e : Engine} {u : State}, EngineGoes f e s u → e.state ≠ .waiting → e.followed = [] →
        e = (if (s.par f).haltOnError then (s.face f).engine.acts.haltedBy 8
          else ((s.face f).engine.marked 8 .act).holdsFor s.msClock (if d.hold = 0 then 10 else d.hold)) → Issues f d s u :=
      fun {e u} done waits none he => by
        refine done.issues waits none hh ?_
        unfold State.actionIssued
        simp only [ha]
        refine ⟨fun h => absurd (pass.2 h) passes, fun _ => ?_⟩
        rw [done.face, he]
        rfl
    cases halts : (s.par f).haltOnError with
    | true =>
      rw [halts] at failed
      rw [finishIfDone_rests (by rw [failed.face]; nofun)]
      exact fails failed nofun rfl (by rw [halts, acts]; rfl)
    | false =>
      rw [halts] at failed
      have done := failed.finishes acting awaits hd
      have none : (Engine.errs false ProgError.checkFailed.mask (s.face f).engine).followed = [] := followed
      rw [none] at done
      exact fails done nofun rfl (by rw [halts, ← phase]; rfl)

/-- An action of requests, all of them answered (R143, R146, R147). -/
theorem requests_issue {r : DoorRequest} {js : List DoorIx} {refusal : DoorIx → Option (BitVec 16)} {enters : DoorIx → Bool}
    (hr : r ≠ .emergencyOpen) (goal : d.action.target = r.goal)
    (answers : AnswerAll refusal enters js (s.requestAll f r js).2) {t : State}
    (ht : t = ((s.requestAll f r js).1.takeResults f d.action (s.requestAll f r js).2).finishIfDone f true) :
    let after := (s.face f).engine.carried (s.par f).haltOnError js refusal enters (fun j => (t.door f j).state = some r.goal)
      s.msClock (if d.hold = 0 then 10 else d.hold)
    t.side f = { s.side f with engine := after } ∧ (∀ k, t.door f k = (s.requestAll f r js).1.door f k) ∧
      t.outside f = s.outside f ∧ Deaf f d.action.target t ∧ ∀ n ∈ t.notices, n.idle f d.action.target t := by
  intro after
  let y := (s.requestAll f r js).1
  have side : y.side f = s.side f := requestAll_side ..
  have engine : (y.face f).engine = (s.face f).engine := engine_of_side side
  have out : y.outside f = s.outside f := requestAll_outside ..
  have config : y.config = s.config := outside_eq_of State.config (fun _ => rfl) out
  have clock : y.msClock = s.msClock := outside_eq_of State.msClock (fun _ => rfl) out
  have start : EngineGoes f { (s.face f).engine with state := .acting, phase := .act, followed := [], awaiting := false } y y :=
    engineGoes_refl (engine.trans acts.symm)
  have descriptor : (s.face f).engine.current.bind y.descriptor = some d := by
    rw [show y.descriptor = s.descriptor by funext i; simp only [State.descriptor, config]]
    exact hd
  have goes := start.carries (a := d.action) descriptor answers
  rw [show ((y.takeResults f d.action _).finishIfDone f true) = t from ht.symm] at goes
  have door : ∀ k, t.door f k = y.door f k := goes.door
  have target : (fun j => decide ((y.door f j).state = some d.action.target)) = fun j => decide ((t.door f j).state = some r.goal) :=
    funext fun j => by rw [door, goal]
  rw [target, par_of config, clock] at goes
  obtain ⟨waits, current, pending⟩ := carried_rests (s.face f).engine (s.par f).haltOnError js refusal enters
    (fun j => decide ((t.door f j).state = some r.goal)) s.msClock (if d.hold = 0 then 10 else d.hold)
  refine ⟨?_, door, goes.outside.trans out, ⟨by rw [goes.face]; exact waits, fun k hk => ?_⟩, fun n hn => ?_⟩
  · rw [State.side, goes.face, ← side]
    rfl
  · rw [goes.face] at hk
    have short := pending k hk
    refine ⟨by rw [goal]; simpa using short, ?_⟩
    rw [goes.descriptor, current, descriptor]
    rfl
  · rw [goes.notices] at hn
    rw [goal] at hh ⊢
    exact ((requestAll_heard hr js hh).notices n hn).of fun k => by rw [door]

section Law
variable (l : s.startQueueLaw f)
include l

/-- CLOSE (R143). -/
theorem act_close_issues (ha : d.action = .close) : Issues f d s (s.act f d) := by
  have act : s.act f d = ((s.requestAll f .close (s.actionReach f d.selection)).1.takeResults f d.action
      (s.requestAll f .close (s.actionReach f d.selection)).2).finishIfDone f true := by
    simp only [State.act, ha, entersActing acts]
  have goal : d.action.target = DoorRequest.close.goal := by rw [ha]; rfl
  obtain ⟨side, door, out, deaf, idle⟩ := requests_issue (r := .close) hd hh acts nofun goal (requestAll_close_answers _ l) act
  refine ⟨?_, out, deaf, idle⟩
  unfold State.actionIssued
  simp only [ha]
  refine ⟨side, fun latch j hf hr hi => ?_⟩
  rw [door]
  exact requestAll_closesEach (reached := fun j => j ∈ s.actionReach f d.selection) l latch (fun _ _ h => h) j hf hr hi

/-- OPEN (R113, R143, R144). -/
theorem act_open_issues (ha : d.action = .open_) : Issues f d s (s.act f d) := by
  obtain ⟨acting, phase, awaits, followed⟩ := acting_fields acts
  let sel := d.selection
  have posts := postsNow_iff (s := s) (f := f)
  by_cases now : s.postsNow f = true
  · have act : s.act f d = (s.post f sel.sections sel.doorMask .program).mapEngine f (fun e => { e with awaiting := true }) := by
      simp only [State.act, ha, entersActing acts, openSelection_posts now, sel]
    have face : (s.act f d).face f = { s.face f with
        engine := { (s.face f).engine.acts with awaiting := true }
        berth := { s.berth f with posted := some (match (s.berth f).posted with
          | none => ⟨sel.sections, sel.doorMask, false, false, true, s.msClock, none⟩
          | some q => { q with
              sections := q.sections ||| sel.sections
              doorMask := q.doorMask ||| sel.doorMask
              fromProgram := true }) } } := by
      rw [act, acts]
      cases posted : (s.berth f).posted <;> cases f <;>
        simp [State.post, State.mapEngine, State.mapBerth, State.mapFace, State.berth, State.face, Posted.create,
          Posted.merge] at posted ⊢ <;> simp [posted]
    have states : ∀ k, (s.act f d).door f k = s.door f k := fun k => by simp [State.door, face]
    have told : (s.act f d).notices = s.notices := by rw [act]; simp [State.post]
    refine ⟨?_, act_outside .., ⟨by rw [face]; nofun, fun k hk => by rw [face] at hk; cases hk⟩,
      fun n hn => (hh.notices n (told ▸ hn)).of fun k => by rw [states]⟩
    unfold State.actionIssued
    simp only [ha]
    exact ⟨fun _ => face, fun h => absurd (posts.1 now) h, fun h => absurd (posts.1 now) h⟩
  · by_cases found : (s.berth f).state = .stopped ∧ s.map f ≠ []
    · obtain ⟨stopped, served⟩ := found
      have act : s.act f d = ((s.requestAll f .open_ (s.selectMap f sel.sections sel.doorMask)).1.takeResults f d.action
          (s.requestAll f .open_ (s.selectMap f sel.sections sel.doorMask)).2).finishIfDone f true := by
        simp only [State.act, ha, entersActing acts, openSelection_issued stopped now served, sel]
      have goal : d.action.target = DoorRequest.open_.goal := by rw [ha]; rfl
      obtain ⟨side, door, out, deaf, idle⟩ := requests_issue (r := .open_) hd hh acts nofun goal (requestAll_open_answers _ l) act
      refine ⟨?_, out, deaf, idle⟩
      unfold State.actionIssued
      simp only [ha]
      refine ⟨fun h => absurd (posts.2 h) now, fun _ h => absurd h (by simp [stopped, served]), fun _ _ _ => ⟨side, ?_⟩⟩
      intro j hf hr hi
      rw [door]
      exact requestAll_opensEach (reached := fun j => j ∈ s.selectMap f sel.sections sel.doorMask) l (fun _ _ h => h) j hf hr hi
    · have nothing : (s.berth f).state ≠ .stopped ∨ s.map f = [] := by
        rw [not_and_or, not_not] at found
        exact found
      have act : s.act f d = s.finishIfDone f true := by
        simp only [State.act, ha, entersActing acts, openSelection_nothing now nothing]
      have done := (engineGoes_refl (s := s) (f := f) rfl).finishes acting awaits hd
      simp only [followed, List.any_nil, Bool.false_eq_true, if_false] at done
      rw [act]
      refine done.issues nofun rfl hh ?_
      unfold State.actionIssued
      simp only [ha]
      exact ⟨fun h => absurd (posts.2 h) now, fun _ _ => done.face, fun _ h1 h2 => absurd ⟨h1, h2⟩ found⟩

end Law
end Acting

/-- The action of a descriptor is issued in any state of the engine (R141 to R146). -/
theorem act_issues (l : s.startQueueLaw f) : Issues f d s (s.act f d) := by
  let y := s.mapEngine f Engine.acts
  have engine : (y.face f).engine = (s.face f).engine.acts := mapEngine_face_engine ..
  have entered : (y.face f).engine.acts = (y.face f).engine := by rw [engine]; rfl
  have goes : EngineGoes f (s.face f).engine.acts s y := acts_goes
  have hd' : y.currentDescriptor f = some d := goes.descriptor.trans hd
  have hh' : Heard f d.action.target y := hh.of (by simp [y]) (fun k => by rw [goes.door])
    (fun p e he => by simpa [State.group, y] using he) goes.notices
  have law : y.startQueueLaw f := by
    rw [startQueueLaw_iff] at l ⊢
    rwa [mapEngine_doorSide]
  have act : s.act f d = y.act f d := by
    have twice : y.mapEngine f (fun e => { e with state := .acting, phase := .act, followed := [], awaiting := false }) = y :=
      entersActing entered
    unfold State.act
    rw [twice]
    rfl
  have issues : Issues f d y (y.act f d) := by
    cases ha : d.action with
    | wait => exact act_idle_issues hd' hh' (.inl ha)
    | mark => exact act_idle_issues hd' hh' (.inr ha)
    | check => exact act_check_issues hd' hh' entered ha
    | close => exact act_close_issues hd' hh' entered law ha
    | open_ => exact act_open_issues hd' hh' entered law ha
  obtain ⟨issued, out, deaf, idle⟩ := issues
  rw [act]
  refine ⟨?_, out.trans goes.outside, deaf, idle⟩
  rw [engine] at issued
  exact actionIssued_acts.1 ((mapEngine_sameBase Engine.acts).actionIssued (c := ((y.act f d).face f).clp) rfl
    (fun p hp => by rw [hp, goes.face]) issued)

end Act

end Sys2Proof.Machine
end

section
namespace Sys2Proof.Machine

/-! SUPPORT. The program commands that issue an action (R149, R150). -/

variable {s t u y : State} {f : Face} {d : Descriptor} {e x : Engine} {l : Link} {fr : Frame} {i : Instr} {r : RequestRule}
  {ix : Fin 96} {cause g : Byte}

/-- An action issued with nothing else to be told ends with its event (R141). -/
theorem act_drains (hd : y.currentDescriptor f = some d) (law : y.startQueueLaw f) (quiet : y.notices = []) :
    y.actionIssued f d (y.face f).engine (y.act f d).drain ∧ (y.act f d).drain.outside f = y.outside f := by
  have target : d.action.target = .locked ∨ d.action.target = .standOpen := by cases d.action <;> simp [Action.target]
  obtain ⟨issued, out, deaf, idle⟩ := act_issues hd (law_heard law target quiet) law
  refine ⟨?_, ?_⟩
  · have same : SameBase f y y := ⟨rfl, rfl, _, _, rfl⟩
    rw [drain_idle deaf idle]
    exact same.actionIssued (c := ((y.act f d).face f).clp) (by rw [face_of_notices]) (fun p hp => by rw [hp]) issued
  · rw [drain_outside _ _ (notices_of_outside y f (by rw [quiet]; nofun) out), out]

/-- A request that brings the engine of a face to its action, and changes nothing else (R141). -/
theorem exec_row_issues (hr : requestRule i = some r) (hx : i.frame? = some (l, fr)) (ha : r.owner.allows l = true)
    (hp : fr.payload.length = r.needs) (h : s.ready l fr = true) (law : s.startQueueLaw f)
    (hy : EngineGoes f e (s.popFrame l) y) (hd : e.current.bind s.descriptor = some d) (he : e.acts = x.acts)
    (decides : r.decide (s.popFrame l) = accepted (y.act f d)) :
    ∃ u : State, exec i s = .next (u.replied l fr .accept []) ∧ s.actionIssued f d x u
      ∧ u.outside f = (s.popFrame l).outside f := by
  obtain ⟨-, notices, -⟩ := ready_iff.1 h
  have config : y.config = s.config := hy.config.trans (popFrame_config ..)
  have base : SameBase f y s := by
    refine ⟨config.symm, ?_, (s.face f).engine, (s.face f).clp, ?_⟩
    · rw [hy.clock]; simp [State.popFrame]
    · rw [hy.face, popFrame_face]
  have lawy : y.startQueueLaw f := by
    rw [startQueueLaw_iff] at law ⊢
    have same : y.doorSide f = s.doorSide f := doorSide_of config
      (outside_eq_of State.scanDone (fun _ => rfl) hy.outside |>.trans (by simp [State.popFrame])) (by rw [hy.face]; simp)
      (fun k => by simp [State.door, hy.face]) (fun k => by simp [State.sense, hy.face]) fun p => by simp [State.group, hy.face]
    rwa [same]
  have descriptor : y.currentDescriptor f = some d := by
    have stores : (s.popFrame l).descriptor = s.descriptor := funext fun i => by simp only [State.descriptor, popFrame_config]
    rw [hy.descriptor, stores, hd]
  obtain ⟨issued, out⟩ := act_drains descriptor lawy (hy.notices.trans ((popFrame_notices ..).trans notices))
  refine ⟨(y.act f d).drain, exec_row hr hx ha hp h decides, ?_, out.trans hy.outside⟩
  rw [show (y.face f).engine = e by rw [hy.face]] at issued
  have acts : s.actionIssued f d e (y.act f d).drain :=
    base.actionIssued (c := ((y.act f d).drain.face f).clp) rfl (fun p hp => by rw [hp, hy.face]; simp) issued
  exact actionIssued_acts.1 (he ▸ actionIssued_acts.2 acts)

/-- The engine in WAITING at a descriptor, its limit timer running (R141). -/
def Engine.waitsFor (now : Ms) (d : Descriptor) (e : Engine) : Engine :=
  { e.stop with
    state := .waiting
    phase := .wait
    limitTimer := if d.limit = 0 then none else some ⟨now, d.limit⟩ }

/-- A trigger that is met when WAITING is entered issues the action (R141). -/
theorem EngineGoes.enterWaiting_issues (h : EngineGoes f e s t) (hd : e.current.bind s.descriptor = some d)
    (ht : s.triggerMet f d.trigger = true) :
    ∃ y, t.enterWaiting f = y.act f d ∧ EngineGoes f (e.waitsFor s.msClock d) s y := by
  have waiting := h.map fun e => { e.stop with state := .waiting, phase := .wait }
  have limited := waiting.map fun e => { e with
    limitTimer := (t.mapEngine f fun e => { e.stop with state := .waiting, phase := .wait }).limitFor d }
  have found := waiting.descriptor.trans hd
  refine ⟨_, ?_, limited.of_eq ?_⟩
  · rw [State.enterWaiting]
    simp only [found, (limited.triggerMet d.trigger).trans ht, if_true]
  · simp only [State.limitFor, State.startTimer, waiting.clock]
    rfl

theorem startAt_issues (hd : s.descriptor ix = some d) (ht : s.triggerMet f d.trigger = true) :
    ∃ y, s.startAt f ix cause = y.act f d ∧
      EngineGoes f ((Engine.started ix (s.face f).engine).waitsFor s.msClock d) s y := by
  obtain ⟨v, start, goes⟩ := startAt_goes (s := s) (f := f) (i := ix) (cause := cause)
  obtain ⟨y, acts, waits⟩ := goes.enterWaiting_issues hd ht
  exact ⟨y, start.trans acts, waits⟩

theorem resume_issues_waiting (hp : (s.face f).engine.phase = .wait) (hd : s.currentDescriptor f = some d)
    (ht : s.triggerMet f d.trigger = true) :
    ∃ y, s.resumeProgram f = y.act f d ∧ EngineGoes f ((s.face f).engine.waitsFor s.msClock d) s y := by
  have reported := reportProgram_goes (s := s) (f := f) 4 (s.face f).engine.errors 0xFF
  obtain ⟨y, acts, waits⟩ := reported.enterWaiting_issues hd ht
  refine ⟨y, Eq.trans ?_ acts, waits⟩
  unfold State.resumeProgram
  simp only [reported.face, hp]

theorem resume_issues_acting (hp : (s.face f).engine.phase = .act) (hd : s.currentDescriptor f = some d) :
    ∃ y, s.resumeProgram f = y.act f d ∧ EngineGoes f { (s.face f).engine with
      limitTimer := if d.limit = 0 then none else some ⟨s.msClock, d.limit⟩ } s y := by
  have reported := reportProgram_goes (s := s) (f := f) 4 (s.face f).engine.errors 0xFF
  have limited := reported.map fun e => { e with
    limitTimer := (s.reportProgram f 4 (s.face f).engine.errors 0xFF).limitFor d }
  refine ⟨_, ?_, limited.of_eq ?_⟩
  · have found := reported.descriptor.trans hd
    unfold State.resumeProgram
    simp only [reported.face, hp, found]
  · simp only [State.limitFor, State.startTimer, reported.clock]

/-! ### The decisions -/

theorem decideStart_takes (hm : (s.face f).mode.mode = .automatic) (he : (s.face f).engine.running = false)
    (hd : s.descriptor ix = some d) : decideStart [faceCode f, b8 ix.val] s = accepted (s.startAt f ix 0) := by
  have index : ixOf 96 (byteAt [faceCode f, b8 ix.val] 1) = some ix := by
    show ixOf 96 (b8 ix.val).toNat = some ix
    rw [b8_small (by omega)]
    simp [ixOf]
  rw [decideStart, withFace_named (p := [faceCode f, b8 ix.val]) (byteAt_faceCode f _)]
  simp only [index, hm, he, hd, Option.isNone_some, ne_eq, not_true_eq_false, Bool.false_eq_true, if_false]

theorem decideResume_takes (hm : (s.face f).mode.mode = .automatic) (he : (s.face f).engine.state = .halted) :
    decideResume [faceCode f] s = accepted (s.resumeProgram f) := by
  rw [decideResume, withFace_named (p := [faceCode f]) (byteAt_faceCode f [])]
  simp [hm, he, Engine.running]

theorem decideStep_takes (he : (s.face f).engine.state = .waiting) :
    decideStep [faceCode f] s = accepted (s.issueAction f) := by
  rw [decideStep, withFace_named (p := [faceCode f]) (byteAt_faceCode f []), if_pos he]

end Sys2Proof.Machine
end

section
open Sys2Proof Sys2Proof.Machine

/-- Settles O35: each command brings the engine to its action and leaves the rest of the face; the results of the requests come
after them all, and what the requests have told moves an engine that has taken their results no further. -/
theorem programCommandsMoveTheEngine : Obligations.ProgramCommandsMoveTheEngine := by
  intro f g s law e p limit acts
  have popped : ∀ f, (s.popFrame .sl).face f = s.face f := popFrame_face s .sl
  have descriptor : (s.popFrame .sl).descriptor = s.descriptor := funext fun i => by simp only [State.descriptor, popFrame_config]
  have current : ∀ f, (s.popFrame .sl).currentDescriptor f = s.currentDescriptor f := fun f => by
    rw [State.currentDescriptor, popped, descriptor]; rfl
  have met : ∀ x, (s.popFrame .sl).triggerMet f x = s.triggerMet f x := triggerMet_of_face (popped f)
  have clock : (s.popFrame .sl).msClock = s.msClock := by simp [State.popFrame]
  refine ⟨fun i d ready automatic rests hd ht => ?_, fun d ready automatic halted hd => ⟨fun phase => ?_, fun phase ht => ?_⟩,
    fun d ready waiting hd => ?_⟩
  · obtain ⟨y, start, goes⟩ := startAt_issues (s := s.popFrame .sl) (f := f) (cause := 0) (by rw [descriptor]; exact hd)
      (by rw [met]; exact ht)
    rw [clock] at goes
    refine exec_row_issues rfl rfl rfl rfl ready law goes hd ?_ ?_
    · rw [popped]; rfl
    · exact (decideStart_takes (by rw [popped]; exact automatic) (by rw [popped]; exact rests)
        (by rw [descriptor]; exact hd)).trans (congrArg accepted start)
  · obtain ⟨y, resume, goes⟩ := resume_issues_acting (s := s.popFrame .sl) (f := f) (by rw [popped]; exact phase)
      (by rw [current]; exact hd)
    rw [clock, popped] at goes
    exact exec_row_issues rfl rfl rfl rfl ready law goes hd rfl
      ((decideResume_takes (by rw [popped]; exact automatic) (by rw [popped]; exact halted)).trans (congrArg accepted resume))
  · obtain ⟨y, resume, goes⟩ := resume_issues_waiting (s := s.popFrame .sl) (f := f) (by rw [popped]; exact phase)
      (by rw [current]; exact hd) (by rw [met]; exact ht)
    rw [clock, popped] at goes
    exact exec_row_issues rfl rfl rfl rfl ready law goes hd rfl
      ((decideResume_takes (by rw [popped]; exact automatic) (by rw [popped]; exact halted)).trans (congrArg accepted resume))
  · have issue : (s.popFrame .sl).issueAction f = (s.popFrame .sl).act f d := by
      unfold State.issueAction
      rw [current, hd]
    exact exec_row_issues rfl rfl rfl rfl ready law (engineGoes_refl (by rw [popped])) hd rfl
      ((decideStep_takes (by rw [popped]; exact waiting)).trans (congrArg accepted issue))

end

section
namespace Sys2Proof.Machine

/-! SUPPORT. What the door units, the sensing and a stop do, whatever the engine of the face does: a change of the engine commutes
with each operation that does not tell it anything at once. -/

variable {s : State} {f : Face} {j k : DoorIx} {p : GroupIx} {h : Engine → Engine} {l : Link}

/-! ### What a change of the engine leaves to be read -/

@[simp] theorem mapEngine_par (g : Face) : (s.mapEngine f h).par g = s.par g := par_of (by simp) g
@[simp] theorem mapEngine_geo (g : Face) : (s.mapEngine f h).geo g = s.geo g := geo_of (by simp) g
@[simp] theorem mapEngine_isFitted (g : Face) : (s.mapEngine f h).isFitted g j = s.isFitted g j := isFitted_of (by simp) ..
@[simp] theorem mapEngine_fitted (g : Face) : (s.mapEngine f h).fitted g = s.fitted g := fitted_of (by simp) g
@[simp] theorem mapEngine_isolated (g : Face) : (s.mapEngine f h).isolated g j = s.isolated g j := isolated_of (by simp) ..
@[simp] theorem mapEngine_groupOf (g : Face) : (s.mapEngine f h).groupOf g j = s.groupOf g j := groupOf_of (by simp) ..
@[simp] theorem mapEngine_sectionActive (g : Face) : (s.mapEngine f h).sectionActive g j = s.sectionActive g j := by
  simp only [State.sectionActive, mapEngine_geo]
@[simp] theorem mapEngine_door (g : Face) : (s.mapEngine f h).door g j = s.door g j := by simp [State.door]
@[simp] theorem mapEngine_input (g : Face) : (s.mapEngine f h).input g j = s.input g j := by simp [State.input]
@[simp] theorem mapEngine_sense (g : Face) : (s.mapEngine f h).sense g j = s.sense g j := by simp [State.sense]
@[simp] theorem mapEngine_group (g : Face) : (s.mapEngine f h).group g p = s.group g p := by simp [State.group]
@[simp] theorem mapEngine_berth (g : Face) : (s.mapEngine f h).berth g = s.berth g := by simp [State.berth]
@[simp] theorem mapEngine_map (g : Face) : (s.mapEngine f h).map g = s.map g := by simp [State.map]
@[simp] theorem mapEngine_served (g : Face) : (s.mapEngine f h).served g j = s.served g j := by simp [State.served]
@[simp] theorem mapEngine_startTimer (n : Nat) : (s.mapEngine f h).startTimer n = s.startTimer n := by simp [State.startTimer]
@[simp] theorem mapEngine_reporting : (s.mapEngine f h).reporting l = s.reporting l := by cases l <;> simp [State.reporting]
@[simp] theorem mapEngine_frameTime (x : Frame) : (s.mapEngine f h).frameTime l x = s.frameTime l x := by
  cases f <;> cases l <;> rfl

theorem ite_mapEngine {c : Prop} [Decidable c] {a b : State} :
    (if c then a.mapEngine f h else b.mapEngine f h) = (if c then a else b).mapEngine f h := by split <;> rfl

/-! ### Parts of the state -/

@[simp] theorem mapDoor_mapEngine (g : DoorRec → DoorRec) :
    (s.mapEngine f h).mapDoor f j g = (s.mapDoor f j g).mapEngine f h := by cases f <;> rfl
@[simp] theorem mapInput_mapEngine (g : DoorInputs → DoorInputs) :
    (s.mapEngine f h).mapInput f j g = (s.mapInput f j g).mapEngine f h := by cases f <;> rfl
@[simp] theorem mapSense_mapEngine (g : DoorSense → DoorSense) :
    (s.mapEngine f h).mapSense f j g = (s.mapSense f j g).mapEngine f h := by cases f <;> rfl
@[simp] theorem mapGroup_mapEngine (g : Group → Group) :
    (s.mapEngine f h).mapGroup f p g = (s.mapGroup f p g).mapEngine f h := by cases f <;> rfl
@[simp] theorem mapBerth_mapEngine (g : Berth → Berth) :
    (s.mapEngine f h).mapBerth f g = (s.mapBerth f g).mapEngine f h := by cases f <;> rfl
@[simp] theorem mapLink_mapEngine (g : LinkState → LinkState) :
    (s.mapEngine f h).mapLink l g = (s.mapLink l g).mapEngine f h := by cases f <;> cases l <;> rfl
@[simp] theorem tell_mapEngine (n : Notice) : (s.mapEngine f h).tell n = (s.tell n).mapEngine f h := by cases f <;> rfl

/-! ### Reports -/

@[simp] theorem mapEngine_flushStart : (s.mapEngine f h).flushStart l = s.flushStart l := by
  simp only [State.flushStart, mapEngine_reporting]
  exact congrArg (fun g => Option.map g _) (funext fun _ => mapEngine_startTimer _)

@[simp] theorem considerReport_mapEngine : (s.mapEngine f h).considerReport l = (s.considerReport l).mapEngine f h := by
  have due : (s.mapEngine f h).reportDue l = s.reportDue l := by simp [State.reportDue]
  have form : (s.mapEngine f h).formReport l = (s.formReport l).mapEngine f h := by simp [State.formReport, State.send]
  simp only [State.considerReport, due, form, mapEngine_link]
  split <;> rfl

@[simp] theorem offerRecord_mapEngine (c : ReportClass) (r : Record) :
    (s.mapEngine f h).offerRecord l c r = (s.offerRecord l c r).mapEngine f h := by
  have enqueue : (s.mapEngine f h).enqueueReport l c r = (s.enqueueReport l c r).mapEngine f h := by simp [State.enqueueReport]
  have admits : (s.mapEngine f h).admits l c = s.admits l c := by simp [State.admits]
  simp only [State.offerRecord, admits, mapEngine_link, enqueue, considerReport_mapEngine,
    mapLink_mapEngine, ite_mapEngine]

@[simp] theorem report_mapEngine (c : ReportClass) (k : ReportKind) (o : Option Nat) (d : List Byte) :
    (s.mapEngine f h).report c k f o d = (s.report c k f o d).mapEngine f h := by
  simp [State.report]

/-! ### CLP, zones and the quiet condition -/

@[simp] theorem mapEngine_computeClp : (s.mapEngine f h).computeClp f = s.computeClp f := by
  simp [State.computeClp, State.notLockedCount, State.zoneCount]

@[simp] theorem recomputeClp_mapEngine (o : Option DoorIx) :
    (s.mapEngine f h).recomputeClp f o = (s.recomputeClp f o).mapEngine f h := by
  have put : ∀ c, (s.mapEngine f h).mapFace f (fun x => { x with clp := c }) =
      (s.mapFace f (fun x => { x with clp := c })).mapEngine f h := fun c => by cases f <;> rfl
  simp only [State.recomputeClp, mapEngine_scanDone, mapEngine_computeClp, mapEngine_face_clp, put, report_mapEngine, tell_mapEngine]
  split
  · split <;> rfl
  · rfl

@[simp] theorem setQuiet_mapEngine (v : Bool) : (s.mapEngine f h).setQuiet f v = (s.setQuiet f v).mapEngine f h := by
  have put : (s.mapEngine f h).mapFace f (fun x => { x with quiet := v }) =
      (s.mapFace f (fun x => { x with quiet := v })).mapEngine f h := by cases f <;> rfl
  simp only [State.setQuiet, mapEngine_face_quiet, put, tell_mapEngine]
  split <;> rfl

@[simp] theorem putTimer_mapEngine (t : Option Timer) : (s.mapEngine f h).mapFace f (fun x => { x with quietTimer := t }) =
    (s.mapFace f (fun x => { x with quietTimer := t })).mapEngine f h := by cases f <;> rfl

@[simp] theorem quietOfMap_mapEngine : (s.mapEngine f h).quietOfMap f = (s.quietOfMap f).mapEngine f h := by
  simp only [State.quietOfMap, State.stopQuiet, State.restartQuiet, mapEngine_map, mapEngine_startTimer, mapEngine_par,
    putTimer_mapEngine, setQuiet_mapEngine]
  split <;> rfl

@[simp] theorem putZone_mapEngine (z : Zone) : (s.mapEngine f h).putZone f j z = (s.putZone f j z).mapEngine f h := by
  simp [State.putZone]

@[simp] theorem reportGap_mapEngine (c : ReportClass) (a b : Byte) (n : Option Nat) (i : Option (Fin 64)) :
    (s.mapEngine f h).reportGap c f j a b n i = (s.reportGap c f j a b n i).mapEngine f h := by simp [State.reportGap]

@[simp] theorem leaveZone_mapEngine (z : Zone) (o : EpisodeOutcome) :
    (s.mapEngine f h).leaveZone f j z o = (s.leaveZone f j z o).mapEngine f h := by
  have complete : ∀ e : Episode, (s.mapEngine f h).completeRecord f e o = (s.completeRecord f e o).mapEngine f h := fun e => by
    unfold State.completeRecord
    cases e.slot with
    | none => rfl
    | some slot => rw [mapEngine_msClock]; cases f <;> rfl
  unfold State.leaveZone
  rw [mapEngine_sense]
  cases (s.sense f j).episode with
  | none => simp
  | some e => simp [complete]

@[simp] theorem occupyZone_mapEngine : (s.mapEngine f h).occupyZone f j = (s.occupyZone f j).mapEngine f h := by
  have onset : (s.mapEngine f h).onset f j = (s.onset f j).mapEngine f h := by
    have slot : (s.mapEngine f h).nextSlot f = s.nextSlot f := by simp [State.nextSlot]
    unfold State.onset
    rw [slot, mapEngine_msClock]
    cases f <;> rfl
  unfold State.occupyZone State.openSlot
  rw [mapEngine_sense, onset]
  cases (s.sense f j).zone <;> simp

@[simp] theorem clearingExpired_mapEngine :
    (s.mapEngine f h).clearingExpired f j = (s.clearingExpired f j).mapEngine f h := by
  simp only [State.clearingExpired, State.openSlot, mapEngine_par, mapEngine_sense, putZone_mapEngine, reportGap_mapEngine,
    recomputeClp_mapEngine, leaveZone_mapEngine]
  split <;> rfl

/-! ### Entering a state -/

@[simp] theorem senseZone_mapEngine (st : DoorState) : (s.mapEngine f h).senseZone f j st = (s.senseZone f j st).mapEngine f h := by
  have disarm : (s.mapEngine f h).disarmZone f j = (s.disarmZone f j).mapEngine f h := by
    simp only [State.disarmZone, mapEngine_sense, leaveZone_mapEngine]
    split <;> rfl
  have arm : (s.mapEngine f h).armZone f j = (s.armZone f j).mapEngine f h := by
    simp only [State.armZone, mapEngine_served, mapEngine_sense, mapEngine_input, occupyZone_mapEngine, putZone_mapEngine,
      recomputeClp_mapEngine]
    split
    · split <;> rfl
    · rfl
  cases st
  case opening | reversing => exact disarm
  case closing => exact arm
  all_goals rfl

@[simp] theorem reportDoor_mapEngine : (s.mapEngine f h).reportDoor f j = (s.reportDoor f j).mapEngine f h := by
  simp [State.reportDoor]

@[simp] theorem senseTracker_mapEngine (o : Option DoorState) (st : DoorState) :
    (s.mapEngine f h).senseTracker f j o st = (s.senseTracker f j o st).mapEngine f h := by
  simp only [State.senseTracker, mapEngine_input, mapSense_mapEngine]
  split
  · split <;> rfl
  · rfl

@[simp] theorem enterTold_mapEngine (st : DoorState) (edit : DoorRec → DoorRec) :
    (s.mapEngine f h).enterTold f j st edit = (s.enterTold f j st edit).mapEngine f h := by
  simp only [State.enterTold, State.enterState, State.senseDeferral, mapEngine_door, mapEngine_msClock, mapEngine_par,
    mapDoor_mapEngine, reportDoor_mapEngine]
  split <;> simp

@[simp] theorem recordStart_mapEngine : (s.mapEngine f h).recordStart f p = (s.recordStart f p).mapEngine f h := by
  simp [State.recordStart]

@[simp] theorem obstruct_mapEngine : (s.mapEngine f h).obstruct f j = (s.obstruct f j).mapEngine f h := by
  simp only [State.obstruct, mapEngine_door, enterTold_mapEngine, mapEngine_groupOf, recordStart_mapEngine]
  split <;> rfl

@[simp] theorem enterClosing_mapEngine : (s.mapEngine f h).enterClosing f j = (s.enterClosing f j).mapEngine f h := by
  simp only [State.enterClosing, enterTold_mapEngine, mapEngine_input, obstruct_mapEngine]
  split <;> rfl

/-! ### Grants and entries -/

@[simp] theorem grantOnce_mapEngine : (s.mapEngine f h).grantOnce f p = (s.grantOnce f p).mapEngine f h := by
  have spacing : (s.mapEngine f h).spacingStart f = s.spacingStart f := by simp [State.spacingStart]
  unfold State.grantOnce
  rw [mapEngine_group]
  cases (s.group f p).queue with
  | nil => rfl
  | cons e rest =>
    simp only [mapGroup_mapEngine, recordStart_mapEngine, spacing]
    split
    · cases e.motion <;> simp
    · rfl

@[simp] theorem evalGrants_mapEngine : (s.mapEngine f h).evalGrants f p = (s.evalGrants f p).mapEngine f h := by
  simp [State.evalGrants]

@[simp] theorem evalIfHead_mapEngine : (s.mapEngine f h).evalIfHead f p j = (s.evalIfHead f p j).mapEngine f h := by
  simp only [State.evalIfHead, mapEngine_group, evalGrants_mapEngine]
  split <;> rfl

@[simp] theorem placeEntry_mapEngine (m : Motion) (c : ReqClass) :
    (s.mapEngine f h).placeEntry f j m c = (s.placeEntry f j m c).mapEngine f h := by simp [State.placeEntry]

@[simp] theorem removeEntry_mapEngine : (s.mapEngine f h).removeEntry f j = (s.removeEntry f j).mapEngine f h := by
  simp only [State.removeEntry, mapEngine_groupOf, mapEngine_group, mapGroup_mapEngine, evalGrants_mapEngine]
  split <;> rfl

@[simp] theorem raiseEntry_mapEngine : (s.mapEngine f h).raiseEntry f j = (s.raiseEntry f j).mapEngine f h := by
  unfold State.raiseEntry
  dsimp only
  rw [mapEngine_groupOf, mapEngine_group]
  cases (s.group f (s.groupOf f j)).queue.find? (fun e => e.door = j && e.motion = .open_ && e.cls = .normal) <;> simp

@[simp] theorem openEntry_mapEngine : (s.mapEngine f h).openEntry f j = (s.openEntry f j).mapEngine f h := by
  simp [State.openEntry]

@[simp] theorem enterUnlatched_mapEngine : (s.mapEngine f h).enterUnlatched f j = (s.enterUnlatched f j).mapEngine f h := by
  simp only [State.enterUnlatched, enterTold_mapEngine, mapEngine_par, openEntry_mapEngine]
  split <;> rfl

@[simp] theorem decideDeferral_mapEngine : (s.mapEngine f h).decideDeferral f j = (s.decideDeferral f j).mapEngine f h := by
  simp only [State.decideDeferral, State.closeEntry, mapEngine_input, mapEngine_par, mapEngine_startTimer, mapSense_mapEngine,
    placeEntry_mapEngine]
  split <;> rfl

@[simp] theorem enter_mapEngine (st : DoorState) (edit : DoorRec → DoorRec) :
    (s.mapEngine f h).enter f j st edit = (s.enter f j st edit).mapEngine f h := by
  cases st
  case unlatching =>
    simp only [State.enter, enterTold_mapEngine, removeEntry_mapEngine, mapEngine_input, enterUnlatched_mapEngine]
    split <;> rfl
  all_goals simp [State.enter]

/-! ### Requests and input changes -/

@[simp] theorem mapEngine_permits : (s.mapEngine f h).permits f j = s.permits f j := by simp [State.permits]

@[simp] theorem takeOpen_mapEngine (c : ReqClass) :
    (s.mapEngine f h).takeOpen f j c = ((s.takeOpen f j c).1.mapEngine f h, (s.takeOpen f j c).2) := by
  unfold State.takeOpen
  rw [mapEngine_door]
  cases (s.door f j).state with
  | none => rfl
  | some st =>
    cases st <;> simp only [mapEngine_permits, enter_mapEngine, mapDoor_mapEngine, raiseEntry_mapEngine, recordStart_mapEngine,
      mapEngine_groupOf, ite_mapEngine]
    case locked | locking => split <;> rfl

@[simp] theorem emergencyIfLocked_mapEngine :
    (s.mapEngine f h).emergencyIfLocked f j = (s.emergencyIfLocked f j).mapEngine f h := by
  have request : ((s.mapEngine f h).request f j .emergencyOpen).1 = (s.request f j .emergencyOpen).1.mapEngine f h := by
    simp only [State.request, mapEngine_door, mapEngine_isolated, takeOpen_mapEngine]
    split
    · rfl
    · split <;> rfl
  simp only [State.emergencyIfLocked, mapEngine_face_mode, mapEngine_isolated, mapEngine_door, mapEngine_sectionActive, request]
  split <;> rfl

@[simp] theorem resolve_mapEngine : (s.mapEngine f h).resolve f j = (s.resolve f j).mapEngine f h := by
  have resolution : (s.mapEngine f h).resolution f j = s.resolution f j := by simp [State.resolution]
  simp only [State.resolve, resolution, mapEngine_door, enter_mapEngine, emergencyIfLocked_mapEngine]
  split <;> rfl

@[simp] theorem ownChange_mapEngine (a b : DoorInputs) :
    (s.mapEngine f h).ownChange f j a b = (s.ownChange f j a b).mapEngine f h := by
  unfold State.ownChange State.reachedOpen State.reversalEnds State.enterFault
  rw [mapEngine_door]
  cases (s.door f j).state with
  | none => rfl
  | some st => cases st <;> simp only [mapEngine_par, enter_mapEngine, enterUnlatched_mapEngine, ite_mapEngine]

@[simp] theorem checkPosition_mapEngine (a b : DoorInputs) :
    (s.mapEngine f h).checkPosition f j a b = (s.checkPosition f j a b).mapEngine f h := by
  unfold State.checkPosition State.enterFault
  rw [mapEngine_door]
  cases (s.door f j).state with
  | none => rfl
  | some st => simp only [enter_mapEngine, ownChange_mapEngine, ite_mapEngine]

@[simp] theorem doorChange_mapEngine (v : LeafSignals) :
    (s.mapEngine f h).doorChange f j v = (s.doorChange f j v).mapEngine f h := by
  simp only [State.doorChange, State.takeInputs, mapEngine_input, mapInput_mapEngine, mapEngine_isFitted, mapEngine_door,
    reportDoor_mapEngine, enter_mapEngine, resolve_mapEngine, checkPosition_mapEngine, ite_mapEngine]

/-! ### The entry to STOPPED -/

@[simp] theorem mapEngine_alignment (m : Measure) : (s.mapEngine f h).alignment f m = s.alignment f m :=
  alignment_of (by simp) (fun j => by simp) (by simp) m

@[simp] theorem stoppedFor_mapEngine (c : BerthCause) :
    (s.mapEngine f h).stoppedFor f c = (s.stoppedFor f c).mapEngine f h := by
  have measure : (s.mapEngine f h).measureNow f = s.measureNow f := by simp [State.measureNow]
  have align : ∀ (x : State) a, (x.mapEngine f h).setAlign f a = (x.setAlign f a).mapEngine f h := fun x a => by cases f <;> rfl
  have counts : ∀ x : State, (x.mapEngine f h).clearCounts f = (x.clearCounts f).mapEngine f h := fun x => by cases f <;> rfl
  simp only [State.stoppedFor, State.reportBerth, measure, mapEngine_msClock, mapEngine_berth, mapEngine_alignment,
    mapBerth_mapEngine, align, report_mapEngine, counts]

@[simp] theorem reportAlignment_mapEngine : (s.mapEngine f h).reportAlignment f = (s.reportAlignment f).mapEngine f h := by
  have each : ∀ (rs : List MatchRow) (op : MatchRow → State → State), (∀ r x, op r (x.mapEngine f h) = (op r x).mapEngine f h) →
      ∀ x : State, forEach rs op (x.mapEngine f h) = (forEach rs op x).mapEngine f h := fun rs op hop => by
    induction rs with
    | nil => exact fun _ => rfl
    | cons r rs ih => exact fun x => (congrArg (forEach rs op) (hop r x)).trans (ih _)
  have distance : ∀ x j, (s.mapEngine f h).distance f x j = s.distance f x j := fun x j => by simp [State.distance]
  simp only [State.reportAlignment, mapEngine_face_align, mapEngine_berth, report_mapEngine, distance]
  exact each _ _ (fun r x => report_mapEngine ..) _

end Sys2Proof.Machine
end

section
namespace Sys2Proof.Machine

/-! SUPPORT. An engine that waits, and the event that meets its trigger (R139, R141). -/

variable {s t u v w : State} {f : Face} {j k : DoorIx} {d : Descriptor} {n : Notice} {pre post : List Notice}

/-- The trigger that a notice makes a waiting engine look at. -/
def Notice.trigger : Notice → Option Trigger
  | .quiet _ => some .onQuiet
  | .clp _ => some .onClp
  | .door _ _ _ | .holdEnds _ => none

/-- The engine of the face waits at a descriptor. -/
structure Waits (f : Face) (d : Descriptor) (s : State) : Prop where
  state : (s.face f).engine.state = .waiting
  descriptor : s.currentDescriptor f = some d

theorem Waits.of_face (h : Waits f d s) (hc : t.config = s.config) (hf : t.face f = s.face f) : Waits f d t where
  state := by rw [hf]; exact h.state
  descriptor := by
    rw [← h.descriptor, State.currentDescriptor, State.currentDescriptor, hf]
    exact congrArg (Option.bind _) (funext fun i => by simp only [State.descriptor, hc])

/-- What a change of a condition does to an engine that waits. -/
theorem recheck_waits (h : Waits f d s) (x : Trigger) :
    s.recheck f x = if x = d.trigger ∧ s.triggerMet f d.trigger = true then s.act f d else s := by
  unfold State.recheck
  rw [h.descriptor]
  by_cases e : d.trigger = x
  · subst e; simp [h.state]
  · simp [e, Ne.symm e]

/-- What a notice does to an engine that waits. -/
theorem takeNotice_waits (h : Waits f d s) (hn : n.face = f) : s.takeNotice n =
    if n.trigger = some d.trigger ∧ s.triggerMet f d.trigger = true then s.act f d else s := by
  cases n with
  | quiet g => obtain rfl : g = f := hn; simpa [Notice.trigger] using! recheck_waits h .onQuiet
  | clp g => obtain rfl : g = f := hn; simpa [Notice.trigger] using! recheck_waits h .onClp
  | door g k st => obtain rfl : g = f := hn; simp [Notice.trigger, State.takeNotice, State.doorTold, h.state]
  | holdEnds g => obtain rfl : g = f := hn; simp [Notice.trigger, State.takeNotice, h.state]

theorem takeNotice_waits_notices (h : Waits f d s) (hn : n.face = f) (ns : List Notice) :
    State.takeNotice n { s with notices := ns } =
      if n.trigger = some d.trigger ∧ s.triggerMet f d.trigger = true then State.act f d { s with notices := ns }
      else { s with notices := ns } := by
  have waits : Waits f d { s with notices := ns } := h.of_face rfl (face_of_notices ..)
  rw [takeNotice_waits waits hn, triggerMet_of_face (face_of_notices (s := s) ns f)]

theorem Waits.still (h : Waits f d s) (hn : n.face = f) (hm : n.trigger = some d.trigger → s.triggerMet f d.trigger = false) :
    n.still s := fun ns => by
  rw [takeNotice_waits_notices h hn, if_neg]
  rintro ⟨same, met⟩
  rw [hm same] at met
  cases met

/-- A trigger that is not met leaves the engine waiting. -/
theorem drain_waits (h : Waits f d s) (hn : ∀ n ∈ s.notices, n.face = f) (hm : s.triggerMet f d.trigger = false) :
    s.drain = { s with notices := [] } := drain_still fun n m => h.still (hn n m) fun _ => hm

/-- The first notice of a trigger that is met issues the action, in the state with the later ones left to be told. -/
theorem drain_meets (h : Waits f d s) (law : s.startQueueLaw f) (hs : s.notices = pre ++ n :: post)
    (hn : ∀ n ∈ s.notices, n.face = f) (short : pre.length < 4096) (others : ∀ n ∈ pre, n.trigger ≠ some d.trigger)
    (own : n.trigger = some d.trigger) (hm : s.triggerMet f d.trigger = true) (idle : ∀ n ∈ post, n.idle f d.action.target s) :
    s.actionIssued f d (s.face f).engine s.drain := by
  let y : State := { s with notices := post }
  have face : y.face f = s.face f := face_of_notices ..
  have lawy : y.startQueueLaw f := (law_of_face rfl rfl face).2 law
  have target : d.action.target = .locked ∨ d.action.target = .standOpen := by cases d.action <;> simp [Action.target]
  have heard : Heard f d.action.target y :=
    ⟨law_entries lawy target, fun n m => (idle n m).of fun k => by rw [door_of_face face]⟩
  obtain ⟨issued, out, deaf, still⟩ := act_issues (s := y) (h.of_face rfl face).descriptor heard lawy
  have drained : s.drain = { y.act f d with notices := [] } := by
    obtain ⟨m, fuel⟩ : ∃ m, 4096 = pre.length + (m + 1) := ⟨4096 - pre.length - 1, by omega⟩
    have passed := drainN_still (s := s) (m := m + 1) (post := n :: post) fun n mem =>
      h.still (hn n (hs ▸ List.mem_append_left _ mem)) fun e => absurd e (others n mem)
    have acts := takeNotice_waits_notices h (hn n (hs ▸ List.mem_append_right _ List.mem_cons_self)) post
    rw [if_pos ⟨own, hm⟩] at acts
    obtain ⟨rest, ends⟩ := drainN_still_ends (s := y.act f d) (m := m) (y.act f d).notices fun n mem => deaf.still (still n mem)
    have run : s.drainN 4096 = { y.act f d with notices := rest } := by
      rw [fuel, show s = { s with notices := pre ++ n :: post } from by rw [← hs], passed]
      exact (congrArg (State.drainN m) acts).trans ends
    rw [State.drain, run]
  rw [drained]
  have base : SameBase f y s := ⟨rfl, rfl, _, _, by rw [face]⟩
  rw [face] at issued
  exact base.actionIssued (c := ((y.act f d).face f).clp) (by rw [face_of_notices]) (fun p hp => by rw [hp, face]) issued

/-- A state that an event has brought, of whose trigger, where it is met, the engine is yet to be told. -/
structure Brings (f : Face) (d : Descriptor) (s v : State) : Prop where
  outside : v.outside f = s.outside f
  engine : (v.face f).engine = (s.face f).engine
  law : s.startQueueLaw f → v.startQueueLaw f
  told : v.triggerMet f d.trigger = true → ∃ pre n post, v.notices = pre ++ n :: post ∧ pre.length < 4096 ∧
    (∀ n ∈ pre, n.trigger ≠ some d.trigger) ∧ n.trigger = some d.trigger ∧ ∀ n ∈ post, n.idle f d.action.target v

/-- An event with the engine of the face put at rest: it ends there, and the engine put back leaves the face as the event
leaves it with an engine that runs. -/
theorem idle_event {op : State → State} {g : Engine → Engine} (hw : s.powered = true) (hn : s.notices = [])
    (hg : (g (s.face f).engine).running = false) (blind : op (s.mapEngine f g) = v.mapEngine f g)
    (outside : v.outside f = s.outside f) (engine : (v.face f).engine = (s.face f).engine) :
    ∃ w : State, (s.mapEngine f g).event op = .next w ∧ w.outside f = v.outside f ∧
      (w.mapEngine f (fun _ => (s.face f).engine)).face f = v.face f ∧
      (w.mapEngine f (fun _ => (s.face f).engine)).config = v.config ∧
      (w.mapEngine f (fun _ => (s.face f).engine)).msClock = v.msClock := by
  have faces : ∀ n ∈ v.notices, n.face = f := notices_of_outside s f (by simp [hn]) outside
  have dropped : (v.mapEngine f g).drain = { v.mapEngine f g with notices := [] } := drain_calm _ fun n mem => by
    rw [faces n (by simpa using mem), mapEngine_face_engine, engine]
    exact hg
  refine ⟨{ v.mapEngine f g with notices := [] }, ?_, ?_, ?_, by simp, by simp⟩
  · rw [State.event, if_pos (by simpa using hw), blind, dropped]
  · rw [← dropped, drain_outside _ _ (by simpa using faces), mapEngine_outside]
  · rw [show ∀ x : State, (x.mapEngine f (fun _ => (s.face f).engine)).face f = _ from fun x => mapFace_face .., face_of_notices,
      show (v.mapEngine f g).face f = _ from mapFace_face .., ← engine]

/-- A program that waits through an event goes on as its trigger says, in the state that the event leaves. -/
theorem event_waits {op : State → State} {g : Engine → Engine} (hw : s.powered = true) (hn : s.notices = [])
    (law : s.startQueueLaw f) (waits : Waits f d s) (hg : (g (s.face f).engine).running = false)
    (blind : op (s.mapEngine f g) = (op s).mapEngine f g) (brings : Brings f d s (op s)) :
    ∃ w t : State, (s.mapEngine f g).event op = .next w ∧ s.event op = .next t ∧ t.outside f = w.outside f ∧
      let u := w.mapEngine f (fun _ => (s.face f).engine)
      (u.triggerMet f d.trigger = false → t.face f = u.face f) ∧
      (u.triggerMet f d.trigger = true → u.actionIssued f d (s.face f).engine t) := by
  obtain ⟨outside, engine, lawv, told⟩ := brings
  obtain ⟨w, idle, out, face, config, clock⟩ := idle_event hw hn hg blind outside engine
  have faces : ∀ n ∈ (op s).notices, n.face = f := notices_of_outside s f (by simp [hn]) outside
  have waitsv : Waits f d (op s) := by
    refine ⟨by rw [engine]; exact waits.state, ?_⟩
    rw [← waits.descriptor, State.currentDescriptor, State.currentDescriptor, engine]
    exact congrArg (Option.bind _) (funext fun i => by
      simp only [State.descriptor, outside_eq_of State.config (fun _ => rfl) outside])
  have met : (w.mapEngine f (fun _ => (s.face f).engine)).triggerMet f d.trigger = (op s).triggerMet f d.trigger :=
    triggerMet_of_face face _
  refine ⟨w, (op s).drain, idle, by rw [State.event, if_pos hw], by rw [drain_outside _ _ faces, out], fun h => ?_, fun h => ?_⟩
  · rw [met] at h
    rw [face, drain_waits waitsv faces h, face_of_notices]
  · rw [met] at h
    obtain ⟨pre, n, post, notices, short, others, own, idle⟩ := told h
    have issued := drain_meets waitsv (lawv law) notices faces short others own h idle
    rw [engine] at issued
    have base : SameBase f (op s) (w.mapEngine f (fun _ => (s.face f).engine)) := ⟨config, clock, _, _, by rw [face]⟩
    exact base.actionIssued (c := ((op s).drain.face f).clp) rfl (fun p hp => by rw [hp, face]) issued

end Sys2Proof.Machine
end

section
namespace Sys2Proof.Machine

/-! SUPPORT. The events that a waiting program sees, and what each has told it (R139, R141). -/

variable {s t u v w : State} {f : Face} {j k : DoorIx} {d : Descriptor} {p : GroupIx} {st : DoorState}

/-! ### Which trigger an event meets -/

theorem triggerMet_kept {x : Trigger} (hb : (t.berth f).state = (s.berth f).state)
    (hr : (t.berth f).release = (s.berth f).release) (hq : (t.face f).quiet = (s.face f).quiet)
    (hx : x ≠ .onClp) : t.triggerMet f x = s.triggerMet f x := by
  cases x <;> simp_all [State.triggerMet]

/-- An event that leaves the berth and the quiet condition can meet ON_CLP alone. -/
theorem meets_onClp {x : Trigger} (hb : (t.berth f).state = (s.berth f).state)
    (hr : (t.berth f).release = (s.berth f).release) (hq : (t.face f).quiet = (s.face f).quiet)
    (hs : s.triggerMet f x = false) (ht : t.triggerMet f x = true) :
    x = .onClp ∧ (s.face f).clp.value = false ∧ (t.face f).clp.value = true := by
  have own : x = .onClp := by
    by_contra other
    rw [triggerMet_kept hb hr hq other, hs] at ht
    cases ht
  subst own
  exact ⟨rfl, hs, ht⟩

/-- CLP that rises at a recomputation is told (R121, R139). -/
theorem recomputeClp_rises {o : Option DoorIx} (hs : (s.face f).clp.value = false)
    (ht : ((s.recomputeClp f o).face f).clp.value = true) : (s.recomputeClp f o).notices = s.notices ++ [.clp f] := by
  unfold State.recomputeClp at ht ⊢
  by_cases scanned : s.scanDone = true
  · rw [if_pos scanned] at ht ⊢
    dsimp only at ht ⊢
    by_cases same : (s.computeClp f).value = (s.face f).clp.value
    · rw [if_pos same, mapFace_face] at ht
      rw [show (s.computeClp f).value = true from ht, hs] at same
      cases same
    · rw [if_neg same, tell_notices, report_notices, mapFace_notices]
  · rw [if_neg scanned, hs] at ht
    cases ht

/-- What is told where the trigger is ON_CLP and CLP is told last but for idle notices. -/
theorem told_clp {post : List Notice} (hv : v.notices = [.clp f] ++ post) (hd : d.trigger = .onClp)
    (idle : ∀ n ∈ post, n.idle f d.action.target v) : ∃ pre n post, v.notices = pre ++ n :: post ∧ pre.length < 4096 ∧
      (∀ n ∈ pre, n.trigger ≠ some d.trigger) ∧ n.trigger = some d.trigger ∧ ∀ n ∈ post, n.idle f d.action.target v :=
  ⟨[], .clp f, post, hv, by decide, nofun, by rw [hd]; rfl, idle⟩

/-! ### The quiet timer (R47) -/

/-- The quiet timer has expired (R47). -/
def State.quietOver (f : Face) (s : State) : State :=
  let t := s.mapFace f (fun x => { x with quietTimer := none })
  if (t.map f).isEmpty then t else t.setQuiet f true

theorem quietOver_mapEngine (h : Engine → Engine) : (s.mapEngine f h).quietOver f = (s.quietOver f).mapEngine f h := by
  simp only [State.quietOver, putTimer_mapEngine, mapEngine_map, setQuiet_mapEngine, ite_mapEngine]

theorem quietOver_brings (hn : s.notices = []) (hm : s.triggerMet f d.trigger = false) : Brings f d s (s.quietOver f) := by
  let y := s.mapFace f (fun x => { x with quietTimer := none })
  have face : y.face f = { s.face f with quietTimer := none } := mapFace_face ..
  have outside : y.outside f = s.outside f := by simp [y]
  have side : y.doorSide f = s.doorSide f := doorSide_of (by simp [y]) (by simp [y]) (by rw [face])
    (fun k => by simp [State.door, face]) (fun k => by simp [State.sense, face]) fun p => by simp [State.group, face]
  have law : (s.quietOver f).doorSide f = s.doorSide f := by
    unfold State.quietOver
    dsimp only
    split
    · exact side
    · rw [setQuiet_doorSide]; exact side
  refine ⟨?_, ?_, fun l => ?_, fun met => ?_⟩
  · unfold State.quietOver
    dsimp only
    split
    · exact outside
    · rw [setQuiet_outside]; exact outside
  · unfold State.quietOver
    dsimp only
    split
    · rw [face]
    · rw [setQuiet_face, face]
  · rw [startQueueLaw_iff] at l ⊢
    rwa [law]
  · by_cases empty : (y.map f).isEmpty = true
    · have kept : s.quietOver f = y := if_pos empty
      rw [kept] at met
      have same : ∀ x, y.triggerMet f x = s.triggerMet f x := fun x => by cases x <;> simp [State.triggerMet, State.berth, face]; rfl
      rw [same, hm] at met
      cases met
    · have set : s.quietOver f = y.setQuiet f true := if_neg empty
      have own : d.trigger = .onQuiet := by
        by_contra other
        have same : (y.setQuiet f true).triggerMet f d.trigger = s.triggerMet f d.trigger := by
          cases x : d.trigger <;> simp_all [State.triggerMet, State.berth, setQuiet_face]
        rw [set, same, hm] at met
        cases met
      have quiet : (y.face f).quiet ≠ true := by
        rw [own] at hm
        rw [face]
        exact Bool.eq_false_iff.1 hm
      refine ⟨[], .quiet f, [], ?_, by decide, nofun, by rw [own]; rfl, nofun⟩
      rw [set, State.setQuiet, if_neg quiet]
      simp [y, hn]

/-! ### The clearing timer (R52) -/

theorem clearingExpired_recomputes : ∃ y : State, s.clearingExpired f j = y.recomputeClp f (some j) ∧ y.notices = s.notices ∧
    (y.face f).clp = (s.face f).clp := by
  unfold State.clearingExpired
  split
  · exact ⟨_, rfl, by simp [State.reportGap, State.putZone], by simp [State.reportGap, State.putZone]⟩
  · unfold State.leaveZone
    refine ⟨_, rfl, ?_⟩
    cases (s.sense f j).episode with
    | none => simp [State.putZone]
    | some e =>
      have complete : (s.completeRecord f e .cleared).notices = s.notices ∧
          ((s.completeRecord f e .cleared).face f).clp = (s.face f).clp := by
        unfold State.completeRecord
        cases e.slot <;> simp
      simp [State.reportGap, State.putZone, complete]

theorem clearingExpired_brings (hn : s.notices = []) (hm : s.triggerMet f d.trigger = false) :
    Brings f d s (s.clearingExpired f j) := by
  have side : (s.clearingExpired f j).side f = s.side f := clearingExpired_side ..
  have berth := berth_of_side side
  have quiet : ((s.clearingExpired f j).face f).quiet = (s.face f).quiet := (congrArg FaceState.quiet side :)
  refine ⟨clearingExpired_outside .., engine_of_side side, fun l => ?_, fun met => ?_⟩
  · rw [startQueueLaw_iff] at l ⊢
    rwa [clearingExpired_doorSide]
  · obtain ⟨own, low, high⟩ := meets_onClp (by rw [berth]) (by rw [berth]) quiet hm met
    obtain ⟨y, recomputes, told, clp⟩ := clearingExpired_recomputes (s := s) (f := f) (j := j)
    refine told_clp (post := []) ?_ own nofun
    rw [recomputes] at high ⊢
    rw [recomputeClp_rises (by rw [clp]; exact low) high, told, hn]
    rfl

/-! ### A change of leaf, lock or handle -/

theorem enterTold_clpTrue (st : DoorState) (edit : DoorRec → DoorRec) : (s.enterTold f j st edit).clpTrue f := by
  have told : Tended f ((s.enterState f j st edit).recomputeClp f (some j)) (s.enterTold f j st edit) :=
    tended_of (tell_outside _ f _ rfl) (by simp [State.enterTold]) (by simp [State.enterTold])
      (fun k => by simp [State.enterTold, State.door])
      (fun k => zone_of_unit (tell_unit ..)) fun k => counts_of_unit (tell_unit ..)
  exact told.clp (recomputeClp_true _)

theorem enterUnlatched_clpTrue : (s.enterUnlatched f j).clpTrue f := by
  unfold State.enterUnlatched
  dsimp only
  split
  · exact openEntry_tended.clp (enterTold_clpTrue _ _)
  · exact enterTold_clpTrue _ _

theorem enter_clpTrue (st : DoorState) (edit : DoorRec → DoorRec) : (s.enter f j st edit).clpTrue f := by
  have first : ((s.enterTold f j st edit).removeEntry f j).clpTrue f := removeEntry_tended.clp (enterTold_clpTrue st edit)
  cases st
  case unlatching =>
    rw [State.enter]
    split
    · exact first
    · exact enterUnlatched_clpTrue
  case closeWait => exact decideDeferral_tended.clp first
  all_goals exact first

/-- CLP is withheld while a fitted door unit is not LOCKED, or the emergency latch is set (R119). -/
theorem clp_withheld (h : s.clpTrue f) (scanned : s.scanDone = true) (hf : s.isFitted f j = true)
    (hj : (s.door f j).state ≠ some .locked ∨ (s.face f).mode.latch = true) : (s.face f).clp.value = false := by
  rw [h scanned]
  rcases hj with hj | hj
  · have counted : s.notLockedCount f ≠ 0 := by
      rw [State.notLockedCount, Ne, List.countP_eq_zero, not_forall]
      exact ⟨j, fun none => none (mem_fitted.2 hf) (by simpa using hj)⟩
    simp [State.computeClp, counted]
  · simp [State.computeClp, hj]

section NotLocked
variable (hk : (s.door f k).state ≠ some .locked)
include hk

theorem enterTold_notLocked (hs : st ≠ .locked) (edit : DoorRec → DoorRec) :
    ((s.enterTold f j st edit).door f k).state ≠ some .locked := by
  by_cases own : k = j
  · subst own
    rw [enterTold_door]
    exact fun e => hs (Option.some.inj e)
  · rwa [state_of_unit (enterTold_unit _ _ _ _ own)]

theorem obstruct_notLocked : ((s.obstruct f j).door f k).state ≠ some .locked := by
  unfold State.obstruct
  split
  · rw [state_of_unit (recordStart_unit ..)]
    exact enterTold_notLocked hk (by decide) _
  · exact hk

theorem grantOnce_notLocked : ((s.grantOnce f p).door f k).state ≠ some .locked := by
  rcases grantOnce_cases (s := s) (f := f) p with he | ⟨e, rest, -, -, he⟩ <;> rw [he]
  · exact hk
  · have taken : ((s.takeHead f p rest).door f k).state ≠ some .locked := by rwa [takeHead_door]
    split
    · exact enterTold_notLocked taken (by decide) _
    · unfold State.enterClosing
      dsimp only
      split
      · exact obstruct_notLocked (enterTold_notLocked taken (by decide) _)
      · exact enterTold_notLocked taken (by decide) _

theorem placeEntry_notLocked (m : Motion) (c : ReqClass) : ((s.placeEntry f j m c).door f k).state ≠ some .locked := by
  have placed : ((s.mapGroup f (s.groupOf f j) (fun y => { y with queue := joinQueue ⟨j, m, c, s.msClock⟩ y.queue })).door f
      k).state ≠ some .locked := by rwa [state_of_unit (mapGroup_unit ..)]
  unfold State.placeEntry State.evalIfHead
  dsimp only
  split
  · exact grantOnce_notLocked (grantOnce_notLocked (grantOnce_notLocked (grantOnce_notLocked placed)))
  · exact placed

end NotLocked

theorem enterUnlatched_notLocked : ((s.enterUnlatched f j).door f j).state ≠ some .locked := by
  have told : ((s.enterTold f j .unlatched id).door f j).state ≠ some .locked := by rw [enterTold_door]; nofun
  unfold State.enterUnlatched
  dsimp only
  split
  · exact placeEntry_notLocked (by simp) _ _
  · exact told

/-- A door unit that enters a state other than LOCKED is not LOCKED in that event. -/
theorem enter_notLocked (hs : st ≠ .locked) (edit : DoorRec → DoorRec) :
    ((s.enter f j st edit).door f j).state ≠ some .locked := by
  have first : (((s.enterTold f j st edit).removeEntry f j).door f j).state ≠ some .locked := by
    rw [enterTold_removeEntry_door]
    exact fun e => hs (Option.some.inj e)
  cases st
  case unlatching =>
    rw [State.enter]
    split
    · exact first
    · exact enterUnlatched_notLocked
  case closeWait =>
    rw [State.enter]
    unfold State.decideDeferral
    dsimp only
    split
    · exact placeEntry_notLocked (by simpa [State.door] using first) _ _
    · simpa [State.door] using first
  case locked => exact absurd rfl hs
  all_goals exact first

/-- CLP of the face is withheld. -/
def State.clpLow (f : Face) (s : State) : Prop := (s.face f).clp.value = false

section Rises
variable (hf : s.isFitted f j = true) (scanned : s.scanDone = true)
include hf scanned

theorem enter_low (hs : st ≠ .locked) (edit : DoorRec → DoorRec) : (s.enter f j st edit).clpLow f :=
  clp_withheld (enter_clpTrue st edit) (by simpa using scanned) (by rw [isFitted_of (s := s) (by simp)]; exact hf)
    (.inl (enter_notLocked hs edit))

theorem enterUnlatched_low : (s.enterUnlatched f j).clpLow f :=
  clp_withheld enterUnlatched_clpTrue (by simpa using scanned) (by rw [isFitted_of (s := s) (by simp)]; exact hf)
    (.inl enterUnlatched_notLocked)

variable (low : s.clpLow f)
include low

/-- What an input change makes of a door unit leaves CLP withheld, unless it is that LOCKING ends (R13). -/
theorem ownChange_low (old new : DoorInputs) : (s.ownChange f j old new).clpLow f ∨
    (s.door f j).state = some .locking ∧ s.ownChange f j old new = s.enter f j .locked id := by
  have kept : ∀ {c : Prop} [Decidable c] {t : State}, t.clpLow f → (if c then t else s).clpLow f := fun h => by
    split
    · exact h
    · exact low
  have entered : ∀ {st : DoorState} {edit : DoorRec → DoorRec}, st ≠ .locked → (s.enter f j st edit).clpLow f := fun h =>
    enter_low hf scanned h _
  have opened : (s.reachedOpen f j).clpLow f := by
    unfold State.reachedOpen
    split <;> exact entered (by decide)
  have ended : (s.reversalEnds f j).clpLow f := by
    unfold State.reversalEnds
    split <;> exact entered (by decide)
  unfold State.ownChange
  cases hs : (s.door f j).state with
  | none => exact .inl low
  | some st =>
    cases st
    case locked => exact .inl (kept (entered (by decide)))
    case unlatching => exact .inl (kept (enterUnlatched_low hf scanned))
    case unlatched | closing => exact .inl (kept (entered (by decide)))
    case opening => exact .inl (kept opened)
    case reversing =>
      refine .inl (kept ?_)
      split
      · exact opened
      · exact ended
    case locking =>
      dsimp only
      split
      · exact .inr ⟨rfl, rfl⟩
      · exact .inl low
    all_goals exact .inl low

theorem checkPosition_low (old new : DoorInputs) : (s.checkPosition f j old new).clpLow f ∨
    (s.door f j).state = some .locking ∧ s.checkPosition f j old new = s.enter f j .locked id := by
  have fault : ∀ c, (s.enterFault f j c).clpLow f := fun c => enter_low hf scanned (by decide) _
  have own := ownChange_low hf scanned low old new
  unfold State.checkPosition
  cases hs : (s.door f j).state with
  | none => exact .inl low
  | some st =>
    dsimp only
    split
    · exact .inl low
    · split
      · exact .inl (fault _)
      · split
        · exact .inl (fault _)
        · rwa [hs] at own

/-- Resolution leaves CLP withheld, unless it finds the door unit LOCKED with the emergency latch clear (R24). -/
theorem resolve_low : (s.resolve f j).clpLow f ∨ ∃ edit, s.resolve f j = s.enter f j .locked edit := by
  unfold State.resolve
  dsimp only
  split
  · exact .inl low
  · let x := s.enter f j (s.resolution f j).1 (fun d => { d with cause := (s.resolution f j).2 })
    have latch : (x.face f).mode.latch = (s.face f).mode.latch := latch_of_side (enter_side ..)
    by_cases latched : (s.face f).mode.latch = true
    · refine .inl (clp_withheld (j := j) (emergencyIfLocked_tended.clp (enter_clpTrue _ _)) (by simpa using scanned)
        (by rw [isFitted_of (s := s) (by simp)]; exact hf) (.inr ?_))
      rw [latch_of_side (emergencyIfLocked_side ..), latch, latched]
    · have kept : x.emergencyIfLocked f j = x := by
        unfold State.emergencyIfLocked
        rw [latch]
        simp [latched]
      rw [kept]
      by_cases locked : (s.resolution f j).1 = .locked
      · exact .inr ⟨_, by rw [← locked]⟩
      · exact .inl (enter_low hf scanned locked _)

/-- CLP that rises at an input change has a door unit in LOCKING or RELEASED enter LOCKED (R13, R23, R119). -/
theorem takeInputs_low (old new : DoorInputs) : (s.takeInputs f j old new).clpLow f ∨
    ((s.door f j).state = some .locking ∨ (s.door f j).state = some .released) ∧
      ∃ edit, s.takeInputs f j old new = s.enter f j .locked edit := by
  unfold State.takeInputs
  split
  · split
    · refine .inl ?_
      unfold State.clpLow State.reportDoor
      rw [report_face]
      exact low
    · exact .inl (enter_low hf scanned (by decide) _)
  · split
    · next back =>
      have released : (s.door f j).state = some .released := by simpa using (Bool.and_eq_true_iff.1 back).2
      exact (resolve_low hf scanned low).imp_right fun found => ⟨.inr released, found⟩
    · exact (checkPosition_low hf scanned low old new).imp_right fun ⟨locking, locks⟩ => ⟨.inl locking, _, locks⟩

end Rises

/-- The entry of a door unit with no Start Queue entry to LOCKED, CLP rising with it, tells the change of CLP and then its own. -/
theorem enter_locked_told {edit : DoorRec → DoorRec} (hn : s.notices = []) (free : s.noEntry f (s.groupOf f j) j)
    (low : s.clpLow f) (high : ((s.enter f j .locked edit).face f).clp.value = true) :
    (s.enter f j .locked edit).notices = [.clp f, .door f j .locked] := by
  have entered : s.enter f j .locked edit = s.enterTold f j .locked edit := told_free _ _ free
  let y := s.enterState f j .locked edit
  have quiet : y.notices = s.notices ∧ (y.face f).clp = (s.face f).clp := by
    simp only [y, State.enterState, State.senseZone, State.senseDeferral, State.senseTracker, mapSense_notices,
      mapSense_face_clp, State.reportDoor]
    (repeat' split) <;> simp
  obtain ⟨told, clp⟩ := quiet
  rw [entered] at high ⊢
  have rises : (y.recomputeClp f (some j)).notices = y.notices ++ [.clp f] :=
    recomputeClp_rises (by rw [clp]; exact low) (by simpa [State.enterTold] using high)
  rw [State.enterTold, tell_notices, rises, told, hn]
  rfl

theorem doorChange_brings {v : LeafSignals} (scanned : s.scanDone = true) (hn : s.notices = []) (law : s.startQueueLaw f)
    (hm : s.triggerMet f d.trigger = false) : Brings f d s (s.doorChange f j v) := by
  let y := s.mapInput f j (withLeaf v)
  have face : y.face f = { s.face f with inputs := (y.face f).inputs } := by
    rw [show y.face f = _ from mapFace_face ..]
  have outcome : s.doorChange f j v = y ∨ s.isFitted f j = true ∧
      s.doorChange f j v = y.takeInputs f j (s.input f j) (withLeaf v (s.input f j)) := by
    unfold State.doorChange
    dsimp only
    split
    · next fitted => exact .inr ⟨fitted, rfl⟩
    · exact .inl rfl
  have side : (s.doorChange f j v).side f = y.side f := by
    rcases outcome with same | ⟨-, taken⟩
    · rw [same]
    · rw [taken, takeInputs_side]
  have berth : (s.doorChange f j v).berth f = s.berth f := (berth_of_side side).trans (by rw [State.berth, face]; rfl)
  have engine : ((s.doorChange f j v).face f).engine = (s.face f).engine := (engine_of_side side).trans (by simp [y])
  have quiet : ((s.doorChange f j v).face f).quiet = (y.face f).quiet := (congrArg FaceState.quiet side :)
  rw [face] at quiet
  refine ⟨doorChange_outside .., engine, fun l => ?_, fun met => ?_⟩
  · rw [startQueueLaw_iff] at l ⊢
    exact l.path (doorChange_leads v scanned l)
  · obtain ⟨own, low, high⟩ := meets_onClp (by rw [berth]) (by rw [berth]) quiet hm met
    have lowy : y.clpLow f := by
      unfold State.clpLow
      rw [face]
      exact low
    rcases outcome with same | ⟨fitted, taken⟩
    · rw [same, show (y.face f).clp.value = false from lowy] at high
      cases high
    · rw [taken] at high
      rcases takeInputs_low (s := y) ((isFitted_of (by simp [y]) ..).trans fitted) (by simpa [y] using scanned) lowy _ _ with same | ⟨from_, edit, locks⟩
      · rw [show _ = false from same] at high
        cases high
      · have lawy : (y.doorSide f).QueueLaw := by
          rw [show y.doorSide f = s.doorSide f by simp [y]]
          exact startQueueLaw_iff.1 law
        have free : y.noEntry f (y.groupOf f j) j := free_iff.1 (lawy.free_of_state
          (show (y.door f j).state ≠ _ by rcases from_ with h | h <;> rw [h] <;> decide)
          (show (y.door f j).state ≠ _ by rcases from_ with h | h <;> rw [h] <;> decide))
        rw [locks] at high
        have told := enter_locked_told (by simpa [y] using hn) free lowy high
        rw [taken, locks]
        refine told_clp (post := [.door f j .locked]) told own fun n mem => ?_
        rw [List.mem_singleton.1 mem]
        refine ⟨rfl, by decide, by decide, by decide, fun e => ?_⟩
        rw [← e, show y.enter f j .locked edit = (y.enterTold f j .locked edit).removeEntry f j from rfl,
          enterTold_removeEntry_door]
        rfl


end Sys2Proof.Machine
end

section
namespace Sys2Proof.Machine

/-! SUPPORT. A waiting program at the stop of its berth, and at a release (R86, R112, R139, R141). -/

variable {s t u v w y z : State} {f : Face} {j k : DoorIx} {d : Descriptor} {e : Engine} {c : BerthCause}

/-! ### The result of a stop without a posted open -/

/-- A face that has stopped and passed its result on, with no posted open and no program that waits for the stop. -/
def State.stopsQuietly (f : Face) (c : BerthCause) (s : State) : State :=
  ((s.resultDue f c).reportAlignment f).recomputeClp f none

theorem stopsQuietly_mapEngine (h : Engine → Engine) :
    (s.mapEngine f h).stopsQuietly f c = (s.stopsQuietly f c).mapEngine f h := by
  simp only [State.stopsQuietly, State.resultDue, stoppedFor_mapEngine, quietOfMap_mapEngine, reportAlignment_mapEngine,
    recomputeClp_mapEngine]

theorem issueIfDue_unissued (h : ∀ p, (s.berth f).posted = some p → p.issueTime = none) : s.issueIfDue f = s := by
  unfold State.issueIfDue
  cases posted : (s.berth f).posted with
  | none => rfl
  | some p => simp [h p posted]

theorem resultDue_posted (hp : (s.berth f).posted = none) : ((s.resultDue f c).berth f).posted = none := by
  rw [resultDue_berth]
  exact hp

/-- The entry to STOPPED with no posted open, by what the engine then makes of it. -/
theorem enterStopped_unposted (hp : (s.berth f).posted = none) (hz : (s.resultDue f c).recheck f .onStopped = z)
    (hi : ∀ p, (z.berth f).posted = some p → p.issueTime = none) :
    s.enterStopped f c = (z.reportAlignment f).recomputeClp f none := by
  have taken : (s.resultDue f c).takeByGrade f = s.resultDue f c := takeByGrade_none (resultDue_posted hp)
  rw [enterStopped_eq]
  unfold State.resultWritten
  dsimp only
  rw [show (s.stoppedFor f c).quietOfMap f = s.resultDue f c from rfl, taken, if_pos rfl, hz, issueIfDue_unissued hi]

theorem enterStopped_unheard (hp : (s.berth f).posted = none) (hr : (s.resultDue f c).recheck f .onStopped = s.resultDue f c) :
    s.enterStopped f c = s.stopsQuietly f c :=
  enterStopped_unposted hp hr (by rw [resultDue_posted hp]; nofun)

theorem resultDue_notices : (s.resultDue f c).notices = s.notices ∨ (s.resultDue f c).notices = s.notices ++ [.quiet f] := by
  have stopped : (s.stoppedFor f c).notices = s.notices := by
    simp [State.stoppedFor, State.clearCounts, State.reportBerth, State.setAlign]
  have set : ∀ x : State, (x.setQuiet f false).notices = x.notices ∨ (x.setQuiet f false).notices = x.notices ++ [.quiet f] :=
    fun x => by
      unfold State.setQuiet
      split
      · exact .inl rfl
      · exact .inr (by simp)
  have timed : ∀ r, ((s.stoppedFor f c).mapFace f (fun x => { x with quietTimer := r })).notices = s.notices := fun r => by
    rw [mapFace_notices, stopped]
  unfold State.resultDue State.quietOfMap State.stopQuiet State.restartQuiet
  split
  · exact timed none ▸ set _
  · exact timed (some _) ▸ set _

theorem reportAlignment_notices : (s.reportAlignment f).notices = s.notices := by
  unfold State.reportAlignment
  dsimp only
  exact (forEach_keeps State.notices _ (fun _ _ => report_notices ..) _ _).trans (report_notices ..)

theorem recomputeClp_face (o : Option DoorIx) : (s.recomputeClp f o).face f =
    { s.face f with clp := if s.scanDone then s.computeClp f else (s.face f).clp } := by
  unfold State.recomputeClp
  split
  · dsimp only
    split
    · rw [mapFace_face]
    · rw [tell_face, report_face, mapFace_face]
  · rfl

/-- A result passed on, CLP computed after it. -/
theorem passedOn_face : ((z.reportAlignment f).recomputeClp f none).face f =
    { z.face f with clp := if z.scanDone then z.computeClp f else (z.face f).clp } := by
  have same : (z.reportAlignment f).computeClp f = z.computeClp f := by
    refine computeClp_of (fitted_of (outside_eq_of State.config (fun _ => rfl) (reportAlignment_outside ..)) f)
      (outside_eq_of State.configInvalid (fun _ => rfl) (reportAlignment_outside ..)) (fun k => ?_) (fun k => ?_) ?_ ?_
    · rw [door_of_face reportAlignment_face]
    · rw [sense_of_face reportAlignment_face]
    · rw [reportAlignment_face]
    · rw [State.berth, reportAlignment_face]; rfl
  have scan : (z.reportAlignment f).scanDone = z.scanDone :=
    outside_eq_of State.scanDone (fun _ => rfl) (reportAlignment_outside ..)
  rw [recomputeClp_face, reportAlignment_face, same, scan]

theorem passedOn_outside : ((z.reportAlignment f).recomputeClp f none).outside f = z.outside f := by
  rw [recomputeClp_outside, reportAlignment_outside]

theorem stopsQuietly_brings (hn : s.notices = []) (hm : s.triggerMet f d.trigger = false) (other : d.trigger ≠ .onStopped) :
    Brings f d s (s.stopsQuietly f c) := by
  let y := s.resultDue f c
  obtain ⟨r, settled⟩ := resultDue_face (s := s) (f := f) c
  have face : (s.stopsQuietly f c).face f = { y.face f with clp := if y.scanDone then y.computeClp f else (y.face f).clp } :=
    passedOn_face
  refine ⟨passedOn_outside.trans (resultDue_outside c), ?_, fun l => ?_, fun met => ?_⟩
  · rw [face]
    exact resultDue_engine c
  · have law := resultDue_law c l
    rw [startQueueLaw_iff] at law ⊢
    have side : (s.stopsQuietly f c).doorSide f = y.doorSide f :=
      doorSide_of (outside_eq_of State.config (fun _ => rfl) passedOn_outside)
        (outside_eq_of State.scanDone (fun _ => rfl) passedOn_outside) (by rw [face]) (fun k => by simp [State.door, face])
        (fun k => by simp [State.sense, face]) fun p => by simp [State.group, face]
    rwa [side]
  · have berth : (s.stopsQuietly f c).berth f = y.berth f := by rw [State.berth, face]; rfl
    have own : d.trigger = .onClp := by
      cases x : d.trigger with
      | immediate => rw [x] at hm; cases hm
      | onStopped => exact absurd x other
      | onClp => rfl
      | onRelease =>
        rw [x] at hm met
        simp only [State.triggerMet, berth, y, resultDue_berth] at met
        exact absurd met (Bool.eq_false_iff.1 hm)
      | onQuiet =>
        rw [x] at met
        simp only [State.triggerMet, face, y, settled] at met
        cases met
    have low : (y.face f).clp.value = false := by
      rw [own] at hm
      rw [settled, stoppedFor_face]
      exact hm
    rw [own] at met
    have rises : (s.stopsQuietly f c).notices = (s.resultDue f c).notices ++ [.clp f] := by
      rw [State.stopsQuietly, recomputeClp_rises (by rw [reportAlignment_face]; exact low) met, reportAlignment_notices]
    rcases resultDue_notices (s := s) (f := f) (c := c) with told | told
    · exact ⟨[], .clp f, [], by simp [rises, told, hn], by decide, nofun, by rw [own]; rfl, nofun⟩
    · refine ⟨[.quiet f], .clp f, [], by simp [rises, told, hn], by simp, fun n mem => ?_, by rw [own]; rfl, nofun⟩
      rw [List.mem_singleton.1 mem, own]
      nofun

/-! ### A program that waits for the stop -/

/-- A posted open that an action leaves where none was held has no issue time (R113). -/
theorem actionIssued_unissued (hi : s.actionIssued f d e u) (hp : (s.berth f).posted = none) :
    ∀ p, (u.berth f).posted = some p → p.issueTime = none := by
  have engine : ∀ {a : Engine}, u.face f = { s.face f with engine := a } → ∀ p, (u.berth f).posted = some p → p.issueTime = none :=
    fun hu p h => by
      rw [State.berth, hu] at h
      rw [show (s.face f).berth.posted = none from hp] at h
      cases h
  have side : ∀ {a : Engine}, u.side f = { s.side f with engine := a } → ∀ p, (u.berth f).posted = some p → p.issueTime = none :=
    fun hu p h => by
      rw [show u.berth f = s.berth f from (congrArg FaceState.berth hu :), hp] at h
      cases h
  unfold State.actionIssued at hi
  dsimp only at hi
  cases action : d.action <;> simp only [action] at hi
  case wait | mark => exact engine hi
  case check =>
    obtain ⟨passes, fails⟩ := hi
    exact (Classical.em _).elim (fun h => engine (passes h)) fun h => engine (fails h)
  case close => exact side hi.1
  case open_ =>
    obtain ⟨posts, nothing, issues⟩ := hi
    by_cases now : (s.berth f).state = .arriving ∨ (s.berth f).state = .settling ∨
        (s.berth f).state = .stopped ∧ (s.face f).align.grade = some .noConsist
    · intro p h
      rw [State.berth, posts now] at h
      simp only [hp, Option.some.injEq] at h
      rw [← h]
    · by_cases found : (s.berth f).state = .stopped ∧ s.map f ≠ []
      · exact side (issues now found.1 found.2).1
      · exact engine (nothing now (by rwa [not_and_or, not_not] at found))

/-- With the engine at rest a stop passes its result on alone. -/
theorem enterStopped_rests (hp : (s.berth f).posted = none) :
    (s.mapEngine f (fun x => { x with state := .halted })).enterStopped f c =
      (s.stopsQuietly f c).mapEngine f (fun x => { x with state := .halted }) := by
  let idle := s.mapEngine f (fun x => { x with state := .halted })
  have rests : (idle.resultDue f c).recheck f .onStopped = idle.resultDue f c := by
    unfold State.recheck
    rw [resultDue_engine, show (idle.face f).engine.state = .halted by simp [idle]]
    split <;> rfl
  rw [enterStopped_unheard (by rw [mapEngine_berth]; exact hp) rests, stopsQuietly_mapEngine]

theorem resultDue_waits (h : Waits f d s) : Waits f d (s.resultDue f c) where
  state := by rw [resultDue_engine]; exact h.state
  descriptor := by
    rw [← h.descriptor, State.currentDescriptor, State.currentDescriptor, resultDue_engine]
    exact congrArg (Option.bind _) (funext fun i => by simp only [State.descriptor, resultDue_config])

/-- A program that waits for something else lets the stop pass. -/
theorem enterStopped_passes (hp : (s.berth f).posted = none) (waits : Waits f d s) (other : d.trigger ≠ .onStopped) :
    s.enterStopped f c = s.stopsQuietly f c :=
  enterStopped_unheard hp ((recheck_waits (resultDue_waits waits) _).trans (if_neg fun h => other h.1.symm))

/-- A program that waits for the stop issues its action there, before the result is reported and CLP is computed (R86). -/
theorem stop_issues (hw : s.powered = true) (hn : s.notices = []) (law : s.startQueueLaw f) (waits : Waits f d s)
    (hp : (s.berth f).posted = none) (own : d.trigger = .onStopped) :
    ∃ w t : State, (s.mapEngine f (fun x => { x with state := .halted })).event (State.enterStopped f c) = .next w ∧
      s.event (State.enterStopped f c) = .next t ∧ t.outside f = w.outside f ∧
      let u := w.mapEngine f (fun _ => (s.face f).engine)
      (u.triggerMet f d.trigger = false → t.face f = u.face f) ∧
      (u.triggerMet f d.trigger = true → u.actionIssued f d (s.face f).engine t) := by
  let y := s.resultDue f c
  let z := y.act f d
  let x := (z.reportAlignment f).recomputeClp f none
  have quietFace : (s.stopsQuietly f c).face f =
      { y.face f with clp := if y.scanDone then y.computeClp f else (y.face f).clp } := passedOn_face
  have quietOut : (s.stopsQuietly f c).outside f = y.outside f := passedOn_outside
  have outy : y.outside f = s.outside f := resultDue_outside c
  have engine : (y.face f).engine = (s.face f).engine := resultDue_engine c
  obtain ⟨w, idle, out, face, config, clock⟩ := idle_event (v := s.stopsQuietly f c) (g := fun x => { x with state := .halted })
    hw hn rfl (enterStopped_rests hp) (quietOut.trans outy) (by rw [quietFace]; exact engine)
  have waitsy : Waits f d y := resultDue_waits waits
  have stopped : (y.berth f).state = .stopped := by rw [resultDue_berth]; rfl
  have met : y.triggerMet f d.trigger = true := by rw [own]; simpa [State.triggerMet] using stopped
  have lawy : y.startQueueLaw f := resultDue_law c law
  have target : d.action.target = .locked ∨ d.action.target = .standOpen := by cases d.action <;> simp [Action.target]
  have heard : Heard f d.action.target y := ⟨law_entries lawy target, fun n mem => by
    rcases resultDue_notices (s := s) (f := f) (c := c) with told | told
    · rw [told, hn] at mem
      cases mem
    · rw [told, hn, List.nil_append, List.mem_singleton] at mem
      rw [mem]
      rfl⟩
  obtain ⟨issued, outz, deaf, still⟩ := act_issues (s := y) waitsy.descriptor heard lawy
  have rechecked : y.recheck f .onStopped = z := (recheck_waits waitsy _).trans (if_pos ⟨own.symm, met⟩)
  have stops : s.enterStopped f c = x :=
    enterStopped_unposted hp rechecked (actionIssued_unissued issued (resultDue_posted hp))
  have facex : x.face f = { z.face f with clp := if z.scanDone then z.computeClp f else (z.face f).clp } := passedOn_face
  have outx : x.outside f = z.outside f := passedOn_outside
  have door : ∀ k, x.door f k = z.door f k := fun k => by simp [State.door, facex]
  have deafx : Deaf f d.action.target x := by
    refine ⟨by rw [facex]; exact deaf.waits, fun k hk => ?_⟩
    rw [facex] at hk
    rw [door, show x.currentDescriptor f = z.currentDescriptor f by
      simp only [State.currentDescriptor, facex]
      exact congrArg (Option.bind _) (funext fun i => by
        simp only [State.descriptor, outside_eq_of State.config (fun _ => rfl) outx])]
    exact deaf.pending k hk
  have idlex : ∀ n ∈ x.notices, n.idle f d.action.target x := fun n mem => by
    rcases recomputeClp_tells none n mem with old | rfl
    · rw [reportAlignment_notices] at old
      exact (still n old).of fun k => by rw [door]
    · rfl
  have drained : x.drain = { x with notices := [] } := drain_idle deafx idlex
  have faces : ∀ n ∈ x.notices, n.face = f := notices_of_outside s f (by simp [hn]) (outx.trans (outz.trans outy))
  refine ⟨w, x.drain, idle, by rw [State.event, if_pos hw, stops], ?_, fun h => ?_, fun _ => ?_⟩
  · rw [drain_outside _ _ faces, out, outx, outz, quietOut]
  · have same : (w.mapEngine f (fun _ => (s.face f).engine)).triggerMet f d.trigger = y.triggerMet f d.trigger := by
      rw [triggerMet_of_face face]
      exact triggerMet_kept (by rw [State.berth, quietFace]; rfl) (by rw [State.berth, quietFace]; rfl) (by rw [quietFace])
        (by rw [own]; nofun)
    rw [same, met] at h
    cases h
  · have base : SameBase f y (w.mapEngine f (fun _ => (s.face f).engine)) :=
      ⟨config.trans (outside_eq_of State.config (fun _ => rfl) quietOut),
        clock.trans (outside_eq_of State.msClock (fun _ => rfl) quietOut), _, _, by rw [face, quietFace]⟩
    rw [engine] at issued
    refine base.actionIssued (c := if z.scanDone then z.computeClp f else (z.face f).clp)
      (by rw [drained, face_of_notices, facex]) (fun p hz => ?_) issued
    replace hz : z.face f = _ := hz
    have scan : z.scanDone = y.scanDone := outside_eq_of State.scanDone (fun _ => rfl) outz
    have computed : z.computeClp f = y.computeClp f :=
      computeClp_of (fitted_of (outside_eq_of State.config (fun _ => rfl) outz) f)
        (outside_eq_of State.configInvalid (fun _ => rfl) outz) (fun k => by simp only [State.door, hz])
        (fun k => by simp only [State.sense, hz]) (by rw [hz]) (by rw [State.berth, hz])
    rw [face, quietFace, scan, computed, hz]

/-! ### A release given to a program that waits for it (R112) -/

theorem giveRelease_running (hm : (s.face f).mode.mode = .automatic) (he : (s.face f).engine.running = true) :
    s.giveRelease f = (s.released f).recheck f .onRelease := by
  simp only [State.giveRelease, State.released, mapBerth_face_mode, mapBerth_face_engine, hm, he, if_true]

/-- A release given to a program that waits: where it is what the program waits for, its action is issued, and nothing else
happens (R112, R141). -/
theorem release_waits (hn : s.notices = []) (law : s.startQueueLaw f) (waits : Waits f d s)
    (hm : (s.face f).mode.mode = .automatic) (unmet : s.triggerMet f d.trigger = false) :
    let w := s.released f
    let t := (s.giveRelease f).drain
    t.outside f = w.outside f ∧ (w.triggerMet f d.trigger = false → t.face f = w.face f) ∧
      (w.triggerMet f d.trigger = true → w.actionIssued f d (s.face f).engine t) := by
  intro w t
  have face : w.face f = { s.face f with berth := { s.berth f with release := true } } := released_face
  have config : w.config = s.config := by simp [w, State.released]
  have quiet : w.notices = [] := by simp [w, State.released, hn]
  have waitsw : Waits f d w := by
    refine ⟨by rw [face]; exact waits.state, ?_⟩
    rw [← waits.descriptor, State.currentDescriptor, State.currentDescriptor, face]
    exact congrArg (Option.bind _) (funext fun i => by simp only [State.descriptor, config])
  have laww : w.startQueueLaw f := by
    rw [startQueueLaw_iff] at law ⊢
    rwa [show w.doorSide f = s.doorSide f from doorSide_of config (by simp [w, State.released]) (by rw [face])
      (fun k => by simp [State.door, face]) (fun k => by simp [State.sense, face]) fun p => by simp [State.group, face]]
  have given : s.giveRelease f = w.recheck f .onRelease :=
    giveRelease_running hm (by simp [Engine.running, waits.state])
  rw [recheck_waits waitsw] at given
  by_cases met : w.triggerMet f d.trigger = true
  · have own : .onRelease = d.trigger := by
      by_contra other
      have same : w.triggerMet f d.trigger = s.triggerMet f d.trigger := by
        cases x : d.trigger with
        | onRelease => exact absurd x.symm other
        | onStopped => exact congrArg (fun b : BerthState => decide (b = .stopped)) (by rw [State.berth, face])
        | immediate | onQuiet | onClp => simp only [State.triggerMet, face]
      rw [same, unmet] at met
      cases met
    rw [if_pos ⟨own, met⟩] at given
    obtain ⟨issued, out⟩ := act_drains waitsw.descriptor laww quiet
    rw [show (w.face f).engine = (s.face f).engine by rw [face]] at issued
    rw [show t = (w.act f d).drain from congrArg State.drain given]
    exact ⟨out, fun h => absurd met (Bool.eq_false_iff.1 h), fun _ => issued⟩
  · rw [if_neg fun h => met h.2] at given
    rw [show t = w from (congrArg State.drain given).trans (drain_of_no_notices quiet)]
    exact ⟨rfl, fun _ => rfl, fun h => absurd h met⟩

theorem brings_refl (hm : s.triggerMet f d.trigger = false) : Brings f d s s :=
  ⟨rfl, rfl, id, fun met => by rw [hm] at met; cases met⟩

end Sys2Proof.Machine
end

section
open Sys2Proof Sys2Proof.Machine

/-- Settles O37: each event is made of operations that the engine has no part in, so that with the engine at rest it leaves the
same state; a trigger met in it is told in a notice whose action nothing told later disturbs, and at the stop itself. -/
theorem waitingProgramSeesItsTrigger : Obligations.WaitingProgramSeesItsTrigger := by
  intro f d s powered notices law e idle goesOn waiting hd unmet
  have waits : Waits f d s := ⟨waiting, hd⟩
  refine ⟨fun c events => ?_, ?_⟩
  · have event : ∀ {op : State → State}, exec c s = s.event op → exec c idle = idle.event op →
        op idle = (op s).mapEngine f (fun x => { x with state := .halted }) → Brings f d s (op s) →
        ∃ w t : State, exec c idle = .next w ∧ exec c s = .next t ∧ t.outside f = w.outside f ∧ goesOn w t :=
      fun runs rests blind brings => by
        rw [runs, rests]
        exact event_waits powered notices law waits rfl blind brings
    rcases events with ⟨rfl, m, timer, due⟩ | ⟨rfl, posted, m, timer, due⟩ | ⟨j, v, rfl⟩ | ⟨j, m, rfl, timer, due⟩
    · exact event (op := State.quietOver f) (event_congr (expiry_due _ timer due))
        (event_congr (expiry_due _ (by simpa [idle] using timer) (by simpa [idle] using due))) (quietOver_mapEngine _)
        (quietOver_brings notices unmet)
    · by_cases settling : (s.berth f).state = .settling
      · have runs : exec (.settleTimerExpiry f) s = s.event (State.enterStopped f .settleTimer) :=
          event_congr ((if_pos settling).trans (expiry_due _ timer due))
        have rests : exec (.settleTimerExpiry f) idle = idle.event (State.enterStopped f .settleTimer) :=
          event_congr ((if_pos (by rw [mapEngine_berth]; exact settling)).trans
            (expiry_due _ (by rw [mapEngine_berth]; exact timer) (by simpa [idle] using due)))
        by_cases own : d.trigger = .onStopped
        · rw [runs, rests]
          exact stop_issues powered notices law waits posted own
        · have passes : s.enterStopped f .settleTimer = s.stopsQuietly f .settleTimer := enterStopped_passes posted waits own
          exact event runs rests ((enterStopped_rests posted).trans (by rw [passes]))
            (by rw [passes]; exact stopsQuietly_brings notices unmet own)
      · exact event (op := id) (event_congr (if_neg settling)) (event_congr (if_neg (by rw [mapEngine_berth]; exact settling))) rfl
          (brings_refl unmet)
    · by_cases scanned : s.scanDone = true
      · exact event (op := State.doorChange f j v) (event_congr (if_pos scanned)) (event_congr (if_pos (by simpa [idle] using scanned)))
          (doorChange_mapEngine v) (doorChange_brings scanned notices law unmet)
      · exact event (op := id) (event_congr (if_neg scanned)) (event_congr (if_neg (by simpa [idle] using scanned))) rfl
          (brings_refl unmet)
    · exact event (op := State.clearingExpired f j) (event_congr (expiry_due _ timer due))
        (event_congr (expiry_due _ (by rw [mapEngine_sense]; exact timer) (by simpa [idle] using due))) clearingExpired_mapEngine
        (clearingExpired_brings notices unmet)
  · intro g ready automatic train release w
    have face : (s.popFrame .il).face f = s.face f := popFrame_face ..
    have berth : (s.popFrame .il).berth f = s.berth f := by rw [State.berth, face]; rfl
    have engine : (w.face f).engine = e := by
      rw [show w.face f = _ from mapFace_face .., face]
    have put : w.mapEngine f (fun _ => e) = w := mapEngine_self engine.symm
    obtain ⟨out, stays, issues⟩ := release_waits (s := s.popFrame .il) ((popFrame_notices ..).trans notices)
      ((law_of_face (popFrame_config ..) (by simp [State.popFrame]) face).2 law) (waits.of_face (popFrame_config ..) face)
      (by rw [face]; exact automatic) (by rw [triggerMet_of_face face]; exact unmet)
    have takes : decideRelease [faceCode f] (s.popFrame .il) = accepted ((s.popFrame .il).giveRelease f) := by
      rw [decideRelease_takes (by rw [face, automatic]; decide) (by rw [berth]; exact train), if_neg (by rw [berth, release]; decide)]
    rw [face] at issues
    refine ⟨((s.popFrame .il).giveRelease f).drain, exec_row rfl rfl rfl rfl ready takes, out, ?_⟩
    dsimp only [goesOn]
    rw [put]
    exact ⟨stays, issues⟩

end
